-- ==== Sys2Proof/Word.lean ====
section
/-! DEFINITION. The word types of the FDV-4120 manual: bytes of records, 16-bit trigger numbers and coordinates,
32-bit sums and counters. -/

namespace Sys2Proof

/-- One byte of a record, of a tile record, of flash or of a pixel. -/
abbrev Byte := BitVec 8

/-- A 16-bit field: a trigger number (it wraps from 65535 to 0, *Numbers and arithmetic*), or a source coordinate. -/
abbrev Half := BitVec 16

/-- A 32-bit field: a set's byte sum modulo 2^32 (R121), the display frame counter (R176). -/
abbrev Word := BitVec 32

end Sys2Proof
end

