-- ==== Sys2Proof/Syntax.lean ====
section
/-! DEFINITION. The commands of the part: one constructor for each row of spec/opcode_table.json, with its operands.
A host request carries the tag of its record and its arguments at the widths of the record formats, so that values
out of range can be sent and refused. Ports and lines named by events of the part itself are `Fin 4` and `Fin 8`. -/

namespace Sys2Proof

/-- Four values at the corners of a tile, in the order of R8. -/
structure Corners (α : Type) where
  topLeft : α
  topRight : α
  bottomLeft : α
  bottomRight : α
  deriving DecidableEq, Repr

/-- A source position in a camera frame, in sixteenths of a pixel (R6). -/
structure Point where
  x : Half
  y : Half
  deriving DecidableEq, Repr

/-- A tile record as it is stored: its 40 bytes, cut into the fields of R8. Every 40 bytes are such a record; R14 says
which are well-formed. The last sixteen bytes are kept as the B corners; the fill colour is read from them. -/
structure TileRecord where
  kind : Byte
  camA : BitVec 4
  camB : BitVec 4
  occA : BitVec 4
  occB : BitVec 4
  hold : Byte
  weights : Corners Byte
  aCorners : Corners Point
  bCorners : Corners Point
  deriving DecidableEq, Repr

/-- One entry of a LINE_CONFIGURE list, byte for byte as the host sends it. -/
structure LineEntry where
  line : Byte
  direction : Byte
  attr : Byte
  level : Byte
  role : Byte
  active : Byte
  report : Byte
  wake : Byte
  deriving DecidableEq, Repr

/-- The arguments of HEIGHT_CONFIGURE in the order of its body. -/
structure HeightArgs where
  polarity : Byte
  bands : Byte
  b1 : Half
  b2 : Half
  b3 : Half
  hysteresis : Byte
  map0 : Byte
  map1 : Byte
  map2 : Byte
  map3 : Byte
  mode : Byte
  deriving DecidableEq, Repr

/-- The first level of HGT that the filter accepts, and the µs of its accepting sample, the fourth in a row (R102;
log 15). -/
structure FirstLevel where
  level : Bool
  micros : Nat
  deriving DecidableEq, Repr

/-- How a transaction stood to the part when CS_N fell (R179, R193; log 18). -/
inductive TransactionStart where
  /-- The slot held the record that it holds at the end, which was shifted out from its first byte. -/
  | slotHeld
  /-- The slot was empty, and filler was shifted out for the whole transaction. -/
  | slotEmpty
  /-- The part was in reset then or has been reset since: the transaction is not taken. -/
  | lost
  deriving DecidableEq, Repr

/-- The commands. -/
inductive Instr where
  -- host requests: a request record that passed the envelope checks arrives (R182)
  | identify (tag : Byte)
  | status (tag : Byte)
  | reset (tag : Byte)
  | eventConfigure (tag : Byte) (pairs : List (Byte × Byte))
  | eventClear (tag : Byte) (kinds : BitVec 24)
  | portConfigure (tag port : Byte) (settle watchdog : Half) (limit : Byte)
  | portPower (tag port action : Byte)
  | portStandbyEnter (tag port : Byte)
  | portStandbyLeave (tag port : Byte)
  | paceConfigure (tag prescaler : Byte) (reload : Half) (mode percent stale : Byte)
  | paceStart (tag : Byte)
  | paceStop (tag : Byte)
  | pacePreset (tag : Byte)
  | composeConfigure (tag hold y cb cr divider : Byte)
  | balanceConfigure (tag enable k : Byte)
  | balanceSetGain (tag camera : Byte) (gain : Half)
  | balanceReset (tag : Byte)
  | heightConfigure (tag : Byte) (args : HeightArgs)
  | selectSet (tag set : Byte)
  | storeOpen (tag set : Byte)
  | storeData (tag : Byte) (first : Half) (records : List TileRecord)
  | storeClose (tag : Byte)
  | storeAbort (tag : Byte)
  | storeLock (tag set : Byte)
  | storeRetire (tag set : Byte)
  | storeQuery (tag : Byte)
  | storeRead (tag set : Byte) (index : Half)
  | lineConfigure (tag autoStart : Byte) (entries : List LineEntry)
  | lineRead (tag : Byte)
  | lineWrite (tag : Byte) (pairs : List (Byte × Byte))
  | powerState (tag target : Byte)
  | wakeConfigure (tag value : Byte)
  | supplyConfigure (tag threshold : Byte)
  -- the link: CS_N rises; `mosi` holds the whole bytes received in the transaction (R184)
  | transactionEnd (mosi : List Byte) (start : TransactionStart)
  -- resets
  | softReset
  | powerOnReset
  | supplyReset
  | pinReset
  | fullResetEnd
  -- camera links and ports
  | frameStart (port : Fin 4)
  | linePacket (port : Fin 4) (samples : List Byte)
  | frameEnd (port : Fin 4)
  | settleExpiry (port : Fin 4)
  | watchdogExpiry (port : Fin 4)
  | recoveryExpiry (port : Fin 4)
  | powerFault (port : Fin 4)
  -- pace timer and engine
  | periodEnd
  | capturePulseEnd
  | deadlineExpiry
  | compositionComplete
  -- height monitor; `micros` is the µs of the accepting sample, the fourth in a row (R102; log 15)
  | hgtActiveEdge (micros : Nat)
  | hgtInactiveEdge (micros : Nat)
  | silenceExpiry
  -- loader and store
  | loadStart
  | loadMarksRead
  | loadEnd
  | scanEnd
  | storeStepStart
  | sectorEraseEnd
  | openMarkEnd
  | rowProgramEnd
  | completeMarkEnd
  | lockMarkEnd
  | retireMarkEnd
  | calWeChange (level : Bool)
  -- vehicle lines
  | lineAcceptedChange (line : Fin 8) (level : Bool)
  | lineFirstSample (line : Fin 8) (level : Bool)
  | outputMismatch (line : Fin 8)
  | mismatchCleared (line : Fin 8)
  -- supply; a reading is in 0.05 V steps
  | supplyLow (reading : Nat)
  | supplyRestored (reading : Nat)
  -- display
  | transferEnd
  -- samples
  | hgtFirstLevelAccepted (first : FirstLevel)
  | vsenseReading (reading : Nat)
  | csnsSample (port : Fin 4) (level : Bool)
  | calWeSample (level : Bool)
  | vehicleLineSample (levels : BitVec 8)
  deriving DecidableEq, Repr

end Sys2Proof
end

