-- ==== Sys2Proof/Config.lean ====
section
/-! DEFINITION. What is fixed for a part: the durations of the manual in reference ticks of 1/27 MHz (*Clocks and
time*), and the values the manual leaves open, as constants without a body, about which nothing can be proved. -/

namespace Sys2Proof.Config

/-- Reference ticks in a microsecond: the reference clock is 27 MHz. -/
def ticksPerMicro : Nat := 27

/-- Reference ticks in a millisecond. -/
def ticksPerMilli : Nat := 27000

/-- The CAPTURE pulse lasts 100 µs (R45). -/
def captureTicks : Nat := 2700

/-- The recovery timer runs for 200 ms (R32). -/
def recoveryMillis : Nat := 200

/-- The silence timer of the height monitor runs for 20 ms (R103). -/
def silenceTicks : Nat := 540000

/-- The mark rows of a set are read in 0.2 ms (R112). -/
def marksTicks : Nat := 5400

/-- A whole load holds the flash for 6.0 ms (R112). -/
def loadTicks : Nat := 162000

/-- The scan after a reset holds the flash for 1.6 ms (R124). -/
def scanTicks : Nat := 43200

/-- A sector erase takes 24 ms (R123). -/
def eraseTicks : Nat := 648000

/-- A row program takes 1.5 ms (R123). -/
def programTicks : Nat := 40500

/-- A display frame lasts 897 × 640 pixel clocks, which are reference ticks (R171). -/
def transferTicks : Nat := 574080

/-- The floor under the pace period, 25.0 ms (R42). -/
def periodFloor : Nat := 675000

/-- Byte `i` of the verification pattern of the mark rows. The manual gives no value, only that none of the sixteen
bytes is FFh (R121): the constant has 255 values, so the byte made of it is never FFh (log 9). -/
opaque patternDigit : Fin 16 → Fin 255

/-- The sixteen bytes of the verification pattern (R121). -/
def pattern : List Byte := (List.finRange 16).map fun i => BitVec.ofNat 8 (patternDigit i).val

/-- The die revision less 1: the manual says only that the revision is 1..255 (R188; log 10). -/
opaque revisionLess1 : Fin 255

/-- The die revision that IDENTIFY reports (R188). -/
def revision : Nat := revisionLess1.val + 1

/-- FREE VALUE: draw `n` of a byte at place `k` (a flash address after a cut step, R123, log 8; an offset of a reply
byte for which the layout gives no value, log 14). -/
opaque freeByte (n k : Nat) : Byte

/-- FREE VALUE: what a sample of a DRAM frame buffer reads as when nothing has written it (log 11). -/
opaque unwrittenSample (line sample : Nat) : Byte

/-- FREE VALUE: the duty recorded for a reading whose period is 0 µs, for which the manual's quotient is not defined
(R103; log 15). -/
opaque dutyOfNoPeriod (active : Nat) : Nat

end Sys2Proof.Config
end

