-- ==== Sys2Proof/Machine/State.lean ====
section
/-! DEFINITION. The state of the part, unit by unit, as plain data, and the state right after a POWER-ON reset has
ended. Each structure follows the table 'holds these parts' that opens its chapter of the manual; the docstring of a
field names the rule that gives it. Times are ticks of `Part.now` unless a docstring says otherwise (log 1). -/

namespace Sys2Proof.Machine

/-! ### Outcomes -/

/-- Why the part could stop. Nothing in the manual stops it, and no meaning answers with a fault: the one constructor
is for the host's interface. -/
inductive Fault where
  /-- Raised by nobody: the manual names no condition that stops the part. Safe. -/
  | stopped
  deriving DecidableEq, Repr

/-- Why a command could have no meaning. -/
inductive Refusal where
  /-- Raised by `exec` for a row of the table that has no meaning yet; there is none left. Safe: the run stops. -/
  | notModelled (mnemonic : String)
  deriving DecidableEq, Repr

/-! ### Addressed memory -/

/-- A memory as (address, byte) pairs with strictly rising addresses and no entry equal to what an unlisted address
reads as; `Memory.wf` in Machine/Ops.lean says so. -/
abbrev Memory := List Host.Cell

/-! ### The command link (R179 to R193) -/

/-- The eighteen event kinds, in the order of their codes 01h to 12h. -/
inductive EventKind where
  | cameraState | frameBroken | powerFault | overrun | tilesFilled | noCalibration | setSwitched | setUnusable
  | bandChange | heightFault | storeDone | storeAborted | supplyLow | supplyRestored | lineChange | reverseOn
  | woken | replyOverrun
  deriving DecidableEq, Repr

/-- A record on the link without its length and CRC: kind, tag and body (R180). -/
structure Frame where
  kind : Byte
  tag : Byte
  body : List Byte
  deriving DecidableEq, Repr

/-- What the outgoing slot can hold: a reply or REJECT, or the notice of an event kind (R185). -/
inductive Outgoing where
  | reply (frame : Frame)
  | notice (kind : EventKind) (frame : Frame)
  deriving DecidableEq, Repr

/-- The pending record of one event kind (R186). -/
structure PendingRecord where
  pending : Bool
  repeats : Nat
  detail : List Byte
  priority : Nat
  raisedAgain : Nat
  deriving DecidableEq, Repr

/-- The reset wait of R190. -/
inductive ResetWait where
  /-- No RESET waits. -/
  | clear
  /-- A RESET was accepted and its reply has not been fully transmitted. -/
  | replyWaiting
  /-- The RESET reply has been fully transmitted. -/
  | replySent
  deriving DecidableEq, Repr

/-- The command link. -/
structure Link where
  /-- The whole bytes of the transaction in progress that the part has already taken in (log 18). -/
  receiver : List Byte
  /-- The bytes shifted out on MISO in the transaction that ended last (R179; log 18). -/
  miso : List Byte
  slot : Option Outgoing
  /-- Replies and REJECTs that wait for the slot, oldest first (R183). -/
  queue : List Frame
  /-- The pending records, in the order of the kind codes (R186). -/
  records : Vector PendingRecord 18
  resetWait : ResetWait
  /-- The ATTN output (R187). -/
  attn : Bool
  deriving DecidableEq, Repr

/-! ### Camera ports (R19 to R40) -/

/-- The eight port states of R27. -/
inductive PortState where
  | off | powering | waiting | live | stalled | recovering | failed | standby
  deriving DecidableEq, Repr

/-- The states of a frame buffer (R20). -/
inductive BufferState where
  | free | filling | ready | inUse
  deriving DecidableEq, Repr

/-- The causes that set the broken flag of a frame while it is received (R22). -/
inductive BrokenCause where
  | lineLength | extraLines
  deriving DecidableEq, Repr

/-- One of a port's frame buffers (R20). -/
structure FrameBuffer where
  state : BufferState
  /-- The trigger number current when the frame's FRAME START was taken. -/
  tag : Half
  broken : Option BrokenCause
  /-- Lines stored so far. -/
  lines : Nat
  /-- The stored lines, line 0 first, each at most 2560 samples in the order Cb, Y, Cr, Y (R19, R22). -/
  data : List (List Byte)
  deriving DecidableEq, Repr

/-- The port's one timer: settle, watchdog or recovery, depending on the state (R27). -/
inductive PortTimer where
  | stopped
  /-- The frame watchdog, held at zero (R30). -/
  | held
  /-- Running, to expire at tick `due`. -/
  | running (due : Nat)
  deriving DecidableEq, Repr

/-- One camera port. -/
structure Port where
  state : PortState
  /-- The level driven on CPWRn (R33). -/
  power : Bool
  /-- The level last read on CSNSn (R33). -/
  csns : Bool
  attempts : Nat
  timer : PortTimer
  /-- Configured settle time in ms (R36). -/
  settle : Nat
  /-- Configured watchdog interval in ms (R36). -/
  watchdog : Nat
  /-- Configured recovery limit (R36). -/
  limit : Nat
  /-- Consecutive CSNSn samples that read off (R33). -/
  faultCount : Nat
  buffers : Vector FrameBuffer 3
  /-- The READY list: READY buffers in order of arrival, oldest first (R20). -/
  ready : List (Fin 3)
  deriving DecidableEq, Repr

/-! ### The pace timer (R41 to R55) -/

/-- The pace mode, which is also the display mode (R41, R172). -/
inductive PaceMode where
  | continuous | single
  deriving DecidableEq, Repr

/-- The run state of the pace (R47). -/
inductive RunState where
  | stopped | running | stopping
  deriving DecidableEq, Repr

/-- One copy of the five settings (R41). -/
structure PaceSettings where
  prescaler : Nat
  reload : Nat
  mode : PaceMode
  percent : Nat
  stale : Nat
  deriving DecidableEq, Repr

/-- The period counter: it counts reference ticks since tick `since`, or is stopped at a count. -/
inductive PeriodCounter where
  | stopped (count : Nat)
  | counting (since : Nat)
  deriving DecidableEq, Repr

/-- The armed deadline: its tick and the trigger it closes (R43). -/
structure Deadline where
  due : Nat
  trigger : Half
  deriving DecidableEq, Repr

/-- The pace timer. -/
structure Pace where
  configured : PaceSettings
  inForce : PaceSettings
  runState : RunState
  counter : PeriodCounter
  trigger : Half
  deadline : Option Deadline
  /-- CAPTURE: low, or high until the tick given (R45). -/
  capture : Option Nat
  /-- The frame-parity signal, which is the PARITY level of the line unit (R44, R147). -/
  parity : Bool
  deriving DecidableEq, Repr

/-! ### The composition engine (R56 to R84) -/

/-- A luma sample and a chroma pair: a fill colour or the void colour. -/
structure Colour where
  y : Byte
  cb : Byte
  cr : Byte
  deriving DecidableEq, Repr

/-- The gather slot, with the stale allowance latched for the gather (R56). -/
inductive GatherSlot where
  | empty
  | gathering (trigger : Half) (stale : Nat)
  | ready (trigger : Half) (stale : Nat)
  deriving DecidableEq, Repr

/-- The source with which a tile was last painted (R64). -/
inductive TileSource where
  | sampled | blended | held | filled | body | voided
  deriving DecidableEq, Repr

/-- The runtime state of a tile (R64). -/
structure TileState where
  source : TileSource
  age : Nat
  deriving DecidableEq, Repr

/-- How the engine paints one tile (R66). -/
inductive Painting where
  | body
  | voided
  /-- Sampled from one camera; `useB` says that the camera is the record's camera B, at the B corners. -/
  | sampled (camera : Fin 4) (useB : Bool)
  | blended (a b : Fin 4)
  | held
  | filled
  deriving DecidableEq, Repr

/-- The inputs latched at a composition start (R62). -/
structure Latched where
  /-- The active set, or none when the table latched is EMPTY. -/
  set : Option (Fin 8)
  gains : Vector Nat 4
  occlusion : Vector Bool 4
  hold : Nat
  void : Colour
  divider : Nat
  deriving DecidableEq, Repr

/-- Tiles painted, by source (R78). -/
structure TileCounts where
  sampled : Nat
  blended : Nat
  held : Nat
  filled : Nat
  deriving DecidableEq, Repr

/-- The composite record of a completed composite (R78). -/
structure CompositeRecord where
  trigger : Half
  set : Option (Fin 8)
  gains : Vector Nat 4
  present : Vector Bool 4
  occlusion : Vector Bool 4
  counts : TileCounts
  firstOfSet : Bool
  deriving DecidableEq, Repr

/-- The picture of one tile: 1024 luma samples row by row, and 512 samples of each chroma component, one for each pair
of pixels, row by row (R1, R2). -/
structure TileImage where
  luma : List Byte
  cb : List Byte
  cr : List Byte
  deriving DecidableEq, Repr

/-- The states of a composite buffer (R77). -/
inductive CompositeState where
  | free | writing | done | shown
  deriving DecidableEq, Repr

/-- One composite buffer: its state, its record, and its picture tile by tile in tile-index order (R3, R77, R78). -/
structure CompositeBuffer where
  state : CompositeState
  record : Option CompositeRecord
  image : List TileImage
  deriving DecidableEq, Repr

/-- The seam statistics of zone z: the luma sum of camera z, that of camera z + 1, and the pixel count (R5, R75). -/
structure ZoneStats where
  sumA : Nat
  sumB : Nat
  count : Nat
  deriving DecidableEq, Repr

/-- The composition in flight (R56, R61 to R64, R76). -/
structure Composition where
  trigger : Half
  /-- The completion tick (R76). -/
  completion : Nat
  latched : Latched
  /-- The present set (R63). -/
  present : Vector Bool 4
  counts : TileCounts
  /-- The composition began with a swap (R78). -/
  firstOfSet : Bool
  /-- The pending runtime state of the tiles (R64). -/
  next : List TileState
  deriving DecidableEq, Repr

/-- The composition engine with the gatherer. -/
structure Engine where
  slot : GatherSlot
  /-- None is IDLE, a composition is COMPOSING(n). -/
  inflight : Option Composition
  hold : Nat
  void : Colour
  divider : Nat
  /-- The committed runtime state of tiles 0..559 (R64). -/
  tiles : List TileState
  stats : Vector ZoneStats 4
  buffers : Vector CompositeBuffer 3
  /-- The previous-composite pointer (R68). -/
  previous : Option (Fin 3)
  firstComposite : Bool
  deriving DecidableEq, Repr

/-! ### The seam balancer (R85 to R101) -/

/-- The verdict on a zone (R88, R89). -/
inductive ZoneVerdict where
  | valid | sparse | outOfRange
  deriving DecidableEq, Repr

/-- What the balance report says of a zone; the target stands for a VALID zone only (R93). -/
structure ZoneReport where
  verdict : ZoneVerdict
  count : Nat
  target : Option Nat
  deriving DecidableEq, Repr

/-- What became of a camera's step (R93). -/
inductive StepOutcome where
  | applied | heldBack | notMade
  deriving DecidableEq, Repr

/-- What the balance report says of a camera (R93). -/
structure CameraReport where
  desired : Option Nat
  outcome : StepOutcome
  deriving DecidableEq, Repr

/-- The balance report (R93). -/
structure BalanceReport where
  trigger : Half
  zones : Vector ZoneReport 4
  cameras : Vector CameraReport 4
  deriving DecidableEq, Repr

/-- The seam balancer. -/
structure Balancer where
  gains : Vector Nat 4
  written : Vector Bool 4
  enable : Bool
  k : Nat
  report : BalanceReport
  deriving DecidableEq, Repr

/-! ### The height monitor and the set loader (R102 to R119) -/

/-- The height states of R106. -/
inductive HeightState where
  | filling | tracking | fault | stopped
  deriving DecidableEq, Repr

/-- The verdict on a reading: valid, or the reason why it is invalid (R104). -/
inductive ReadingVerdict where
  | valid | periodRange | dutyRange | noSignal
  deriving DecidableEq, Repr

/-- A reading: duty in permille, period in µs, verdict (R103, R104). -/
structure Reading where
  duty : Nat
  period : Nat
  verdict : ReadingVerdict
  deriving DecidableEq, Repr

/-- The filter's run of equal samples: the level that the latest samples of HGT read, and how many of them in a row,
held at 4 (R102). -/
structure SampleRun where
  level : Bool
  length : Nat
  deriving DecidableEq, Repr

/-- The configuration of the height monitor (R102, R107, R109). -/
structure HeightConfig where
  /-- The active level: true is HIGH. -/
  polarity : Bool
  bands : Nat
  b1 : Nat
  b2 : Nat
  b3 : Nat
  hysteresis : Nat
  map : Vector (Fin 8) 4
  /-- The mode: true is AUTO, false is MANUAL. -/
  auto : Bool
  deriving DecidableEq, Repr

/-- The height monitor. -/
structure Height where
  /-- The accepted level of HGT (R102). -/
  accepted : Option Bool
  /-- The run of equal samples of the filter; none before its first sample (R102). -/
  run : Option SampleRun
  /-- The time in µs of the filter's last acceptance, or of its start: the four samples of the next acceptance come
  after it (R102; log 15). -/
  filterSince : Nat
  /-- The time in µs of the held active edge (R103). -/
  heldEdge : Option Nat
  /-- The active time in µs of the pulse in progress (R103). -/
  activeTime : Nat
  /-- The tick at which the silence timer expires; none while it is stopped (R103, R116). -/
  silence : Option Nat
  invalid : Nat
  /-- The window of valid duty readings, oldest first (R105). -/
  window : List Nat
  lastReading : Option Reading
  lastMean : Option Nat
  state : HeightState
  band : Option (Fin 4)
  config : HeightConfig
  deriving DecidableEq, Repr

/-- The content state of a tile table (R17). -/
inductive TileTable where
  | empty
  /-- PARTIAL(s): a load of set s is writing into it (log 7). -/
  | loading (set : Fin 8)
  | holding (set : Fin 8) (records : List TileRecord)
  deriving DecidableEq, Repr

/-- The loader states of R110. LOADING(s) carries the tick at which the load began and whether its mark rows have been
read (R112). -/
inductive LoaderState where
  | idle
  | waitingStore (set : Fin 8)
  | loading (set : Fin 8) (start : Nat) (marksRead : Bool)
  | staged (set : Fin 8)
  deriving DecidableEq, Repr

/-- The set loader. -/
structure Loader where
  state : LoaderState
  active : TileTable
  standby : TileTable
  /-- The set-status table: DAMAGED marks of sets 0..7 (R113). -/
  damaged : Vector Bool 8
  deriving DecidableEq, Repr

/-! ### The calibration store (R120 to R142) -/

/-- The condition of a mark row (R121). -/
inductive MarkCondition where
  | blank | set | torn
  deriving DecidableEq, Repr

/-- The set states of R122. -/
inductive SetState where
  | blank | opened | complete | retired | torn
  deriving DecidableEq, Repr

/-- What the directory holds of a set (R124); the set state and the locked flag are computed from it (R122). -/
structure SetEntry where
  openMark : MarkCondition
  completeMark : MarkCondition
  lockMark : MarkCondition
  retireMark : MarkCondition
  /-- The sum carried by the complete mark when that mark is set. -/
  sum : Option Word
  deriving DecidableEq, Repr

/-- Who holds the flash (R125). The scan carries the tick at which it ends. -/
inductive FlashHolder where
  | nobody
  | scan (due : Nat)
  | store
  | loader
  deriving DecidableEq, Repr

/-- Who can wait for the flash (R125). -/
inductive FlashUser where
  | store | loader
  deriving DecidableEq, Repr

/-- What a store step does (R126). -/
inductive StepKind where
  | erase (sector : Fin 48)
  | recordRow (set : Fin 8) (row : Nat)
  | openMark (set : Fin 8)
  | completeMark (set : Fin 8) (sum : Word)
  | lockMark (set : Fin 8)
  | retireMark (set : Fin 8)
  deriving DecidableEq, Repr

/-- A store step is pending, or running to the tick given (R126). -/
inductive StepPhase where
  | pending
  | running (due : Nat)
  deriving DecidableEq, Repr

/-- A store step (R126). -/
structure StoreStep where
  kind : StepKind
  phase : StepPhase
  deriving DecidableEq, Repr

/-- The phases of an open session (R127). -/
inductive SessionPhase where
  | erasing | receiving | closing
  deriving DecidableEq, Repr

/-- An open write session (R127). -/
structure Session where
  phase : SessionPhase
  set : Fin 8
  nextIndex : Nat
  sum : Word
  nextRow : Nat
  eraseSector : Nat
  deriving DecidableEq, Repr

/-- The cause of an abort (R133). -/
inductive AbortCause where
  | request | calWe
  deriving DecidableEq, Repr

/-- An abort whose STORE_ABORTED waits for the trailing step (R133). -/
structure Abort where
  set : Fin 8
  cause : AbortCause
  nextIndex : Nat
  deriving DecidableEq, Repr

/-- The calibration store. -/
structure Store where
  flash : Memory
  directory : Vector SetEntry 8
  holder : FlashHolder
  /-- The arbiter's waiting line, oldest first (R125). -/
  line : List FlashUser
  step : Option StoreStep
  /-- None is CLOSED. -/
  session : Option Session
  /-- The staging buffer, in stream order (R131). -/
  staging : List Byte
  trailing : Option Abort
  calSampled : Option Bool
  calDebounced : Bool
  deriving DecidableEq, Repr

/-! ### The vehicle line unit (R143 to R155) -/

/-- Line attributes: two for inputs, two for outputs (R143). -/
inductive LineAttr where
  | floating | biased | plain | inverted
  deriving DecidableEq, Repr

/-- Line roles: NONE for both directions, six for inputs, two for outputs (R143). -/
inductive LineRole where
  | none
  | occlude (group : Fin 4)
  | reverse
  | parity
  | pictureOk
  deriving DecidableEq, Repr

/-- The configuration record of a line (R143). -/
structure LineConfig where
  /-- The direction: false is IN, true is OUT. -/
  out : Bool
  attr : LineAttr
  level : Bool
  role : LineRole
  active : Bool
  report : Bool
  wake : Bool
  deriving DecidableEq, Repr

/-- One vehicle line. -/
structure Line where
  config : LineConfig
  /-- The level of the previous sample of an IN line (R144). -/
  prev : Option Bool
  debounced : Option Bool
  /-- The raw pad level at the last sample (R146, R153). -/
  raw : Bool
  /-- The mismatch count of an OUT line (R146). -/
  mismatch : Nat
  flag : Bool
  /-- The wake snapshot (R151). -/
  snapshot : Option Bool
  deriving DecidableEq, Repr

/-- The vehicle line unit. -/
structure Lines where
  line : Vector Line 8
  autoStart : Bool
  /-- The FILLED count of the newest completed composite (R148). -/
  filled : Option Nat
  /-- The supply has returned to NORMAL, and no composition has completed since (R159). -/
  awaiting : Bool
  deriving DecidableEq, Repr

/-! ### Supply monitor, power control, display port (R156 to R178) -/

/-- The supply monitor. -/
structure Supply where
  /-- The last reading in 0.05 V steps (R156). -/
  last : Option Nat
  /-- The supply state: true is LOW, false is NORMAL (R157). -/
  low : Bool
  lowCount : Nat
  restoreCount : Nat
  /-- V_low in tenths of a volt (R167). -/
  threshold : Nat
  /-- The time in ms of the reading that entered LOW (R157; log 16). -/
  holdStart : Option Nat
  /-- Readings taken: the time of the last one in ms (log 16). -/
  readings : Nat
  deriving DecidableEq, Repr

/-- The power states of R160. -/
inductive PowerState where
  | run | doze | parked
  deriving DecidableEq, Repr

/-- The kind of the most recent reset (R168). -/
inductive ResetCause where
  | powerOn | pin | supply | soft
  deriving DecidableEq, Repr

/-- Power control. -/
structure Power where
  state : PowerState
  linkWake : Bool
  cause : ResetCause
  /-- The part is held in a full reset (R168). -/
  inReset : Bool
  deriving DecidableEq, Repr

/-- What a display frame shows (R173). -/
inductive DisplayContent where
  | composite (buffer : Fin 3)
  | void (colour : Colour)
  deriving DecidableEq, Repr

/-- A display frame in transfer: its end tick, its status line and its content (R171). -/
structure Transfer where
  due : Nat
  statusLine : List Byte
  content : DisplayContent
  deriving DecidableEq, Repr

/-- The display port. -/
structure Display where
  mode : PaceMode
  transfer : Option Transfer
  held : Bool
  counter : Word
  repeats : Nat
  frozen : Bool
  deriving DecidableEq, Repr

/-! ### The part, and the machine -/

/-- The part: everything but the queue of waiting commands. -/
structure Part where
  link : Link
  ports : Vector Port 4
  pace : Pace
  engine : Engine
  balancer : Balancer
  height : Height
  loader : Loader
  store : Store
  lines : Lines
  supply : Supply
  power : Power
  display : Display
  /-- The reference clock, in ticks (log 1). -/
  now : Nat
  /-- How many free values have been drawn (logs 8, 14). -/
  draws : Nat
  deriving DecidableEq, Repr

/-- The machine: the part and the queue of waiting commands, first in, first out (log 24). -/
structure State extends Part where
  pending : List Instr
  deriving DecidableEq, Repr

/-! ### Reset values -/

/-- The default priority of an event kind (R186). -/
def EventKind.defaultPriority : EventKind → Nat
  | .cameraState | .powerFault | .supplyLow | .supplyRestored | .woken | .reverseOn | .storeDone | .storeAborted => 2
  | .overrun | .tilesFilled | .noCalibration | .setSwitched | .setUnusable | .bandChange | .heightFault
  | .replyOverrun => 1
  | .frameBroken | .lineChange => 0

/-- A clear pending record (R186, R193). -/
def PendingRecord.clear (priority : Nat) : PendingRecord :=
  { pending := false, repeats := 0, detail := [], priority := priority, raisedAgain := 0 }

/-- The link after every reset (R193). -/
def Link.atReset : Link :=
  { receiver := [], miso := [], slot := none, queue := [], resetWait := .clear, attn := false
    records := #v[.clear 2, .clear 0, .clear 2, .clear 1, .clear 1, .clear 1, .clear 1, .clear 1, .clear 1, .clear 1,
      .clear 2, .clear 2, .clear 2, .clear 2, .clear 0, .clear 2, .clear 2, .clear 1] }

/-- A frame buffer after every reset (R40). -/
def FrameBuffer.atReset : FrameBuffer := { state := .free, tag := 0, broken := none, lines := 0, data := [] }

/-- A port after a full reset (R40). -/
def Port.atReset : Port :=
  { state := .off, power := false, csns := false, attempts := 0, timer := .stopped, settle := 300, watchdog := 200
    limit := 2, faultCount := 0, ready := [], buffers := #v[.atReset, .atReset, .atReset] }

/-- The default pace settings (R41). -/
def PaceSettings.atReset : PaceSettings :=
  { prescaler := 16, reload := 56249, mode := .continuous, percent := 80, stale := 1 }

/-- The pace timer after every reset (R55). -/
def Pace.atReset : Pace :=
  { configured := .atReset, inForce := .atReset, runState := .stopped, counter := .stopped 0, trigger := 0
    deadline := none, capture := none, parity := false }

/-- A composite buffer that is FREE with an empty record (R84). -/
def CompositeBuffer.atReset : CompositeBuffer := { state := .free, record := none, image := [] }

/-- Empty seam statistics (R84). -/
def ZoneStats.zero : ZoneStats := { sumA := 0, sumB := 0, count := 0 }

/-- The runtime state of a tile after a reset or a swap (R64). -/
def TileState.atReset : TileState := { source := .filled, age := 255 }

/-- The engine after every reset (R84). -/
def Engine.atReset : Engine :=
  { slot := .empty, inflight := none, hold := 8, void := { y := 16, cb := 128, cr := 128 }, divider := 1
    tiles := List.replicate 560 .atReset, stats := #v[.zero, .zero, .zero, .zero]
    buffers := #v[.atReset, .atReset, .atReset], previous := none, firstComposite := true }

/-- The balance report after every reset (R93). -/
def BalanceReport.atReset : BalanceReport :=
  let z : ZoneReport := { verdict := .sparse, count := 0, target := none }
  let c : CameraReport := { desired := none, outcome := .notMade }
  { trigger := 0, zones := #v[z, z, z, z], cameras := #v[c, c, c, c] }

/-- The balancer after every reset (R101). -/
def Balancer.atReset : Balancer :=
  { gains := #v[1024, 1024, 1024, 1024], written := #v[false, false, false, false], enable := true, k := 4
    report := .atReset }

/-- The height configuration after every reset (R119). -/
def HeightConfig.atReset : HeightConfig :=
  { polarity := true, bands := 4, b1 := 300, b2 := 500, b3 := 700, hysteresis := 10, map := #v[0, 1, 2, 3]
    auto := true }

/-- The height monitor after every reset, its filter starting at the µs `since`, its silence timer to expire at the tick
given, or stopped (R119). -/
def Height.atReset (since : Nat) (silence : Option Nat) : Height :=
  { accepted := none, run := none, filterSince := since, heldEdge := none, activeTime := 0, silence := silence
    invalid := 0, window := [], lastReading := none, lastMean := none, state := .filling, band := none
    config := .atReset }

/-- The loader after every reset (R119). -/
def Loader.atReset : Loader :=
  { state := .idle, active := .empty, standby := .empty
    damaged := #v[false, false, false, false, false, false, false, false] }

/-- A directory entry with every mark blank. -/
def SetEntry.blank : SetEntry :=
  { openMark := .blank, completeMark := .blank, lockMark := .blank, retireMark := .blank, sum := none }

/-- The store after a full reset, with the flash and the flash holder given (R142). -/
def Store.atReset (flash : Memory) (holder : FlashHolder) : Store :=
  { flash := flash, holder := holder, line := [], step := none, session := none, staging := [], trailing := none
    calSampled := none, calDebounced := false
    directory := #v[.blank, .blank, .blank, .blank, .blank, .blank, .blank, .blank] }

/-- A line's configuration after a full reset (R155). -/
def LineConfig.atReset : LineConfig :=
  { out := false, attr := .floating, level := false, role := .none, active := true, report := false, wake := false }

/-- A line after a full reset (R155). -/
def Line.atReset : Line :=
  { config := .atReset, prev := none, debounced := none, raw := false, mismatch := 0, flag := false, snapshot := none }

/-- The line unit after a full reset (R155). -/
def Lines.atReset : Lines :=
  { line := #v[.atReset, .atReset, .atReset, .atReset, .atReset, .atReset, .atReset, .atReset], autoStart := false
    filled := none, awaiting := false }

/-- The supply monitor after a full reset (R170). -/
def Supply.atReset : Supply :=
  { last := none, low := false, lowCount := 0, restoreCount := 0, threshold := 70, holdStart := none, readings := 0 }

/-- The display port after every reset (R178). -/
def Display.atReset : Display :=
  { mode := .continuous, transfer := none, held := false, counter := 0, repeats := 0, frozen := false }

/-- The part at the end of a full reset that ends at tick `now`, with the flash as found (R169): every unit at its reset
values, the scan holding the flash and the silence timer running. -/
def Part.afterFullReset (cause : ResetCause) (flash : Memory) (now draws : Nat) : Part :=
  { link := .atReset, ports := #v[.atReset, .atReset, .atReset, .atReset], pace := .atReset, engine := .atReset
    balancer := .atReset, height := .atReset (now / Config.ticksPerMicro) (some (now + Config.silenceTicks))
    loader := .atReset
    store := .atReset flash (.scan (now + Config.scanTicks)), lines := .atReset, supply := .atReset
    power := { state := .doze, linkWake := true, cause := cause, inReset := false }, display := .atReset, now := now
    draws := draws }

/-- The machine right after a POWER-ON reset has ended (R169), with erased flash (log 12) and no command waiting. -/
def State.reset : State := { toPart := Part.afterFullReset .powerOn [] 0 0, pending := [] }

end Sys2Proof.Machine
end

