-- ==== Sys2Proof/Machine/Ops.lean ====
section
/-! DEFINITION. The operations that the units share: addressed memory, tables of four and eight, the reference clock,
the pending records and the outgoing slot of the command link, and how a meaning answers. -/

namespace Sys2Proof.Machine

/-! ### Addressed memory: a list in one canonical form; `d` is what an unlisted address reads as -/

/-- The canonical form: addresses strictly rising, no entry equal to what an unlisted address reads as. -/
abbrev Memory.wf (d : Byte) (m : Memory) : Prop :=
  m.Pairwise (fun a b => a.1 < b.1) ∧ ∀ c ∈ m, c.2 ≠ d

/-- The byte at an address. -/
def Memory.read (d : Byte) : Memory → Nat → Byte
  | [], _ => d
  | (a, b) :: m, x => if x = a then b else Memory.read d m x

/-- The memory with one byte written; writing what an unlisted address reads as removes the entry. -/
def Memory.write (d : Byte) : Memory → Nat → Byte → Memory
  | [], x, b => if b = d then [] else [(x, b)]
  | (a, c) :: m, x, b =>
    if x < a then (if b = d then (a, c) :: m else (x, b) :: (a, c) :: m)
    else if x = a then (if b = d then m else (a, b) :: m)
    else (a, c) :: Memory.write d m x b

/-- The memory with `bytes` written from address `base` upward. -/
def Memory.writeAll (d : Byte) (m : Memory) (base : Nat) : List Byte → Memory
  | [] => m
  | b :: bs => Memory.writeAll d (Memory.write d m base b) (base + 1) bs

/-- The memory with every byte from `base` up to but not including `base + size` back at `d`. -/
def Memory.clear (m : Memory) (base size : Nat) : Memory :=
  m.filter fun c => decide (c.1 < base ∨ base + size ≤ c.1)

/-- `size` bytes from `base` upward. -/
def Memory.readAll (d : Byte) (m : Memory) (base size : Nat) : List Byte :=
  (List.range size).map fun k => m.read d (base + k)

/-! ### Tables of a fixed number of like things -/

/-- The table with entry `i` changed by `f`. -/
def update {α : Type} {n : Nat} (v : Vector α n) (i : Fin n) (f : α → α) : Vector α n := v.set i (f v[i])

/-- The table of the entries under `f`. -/
def mapAll {α β : Type} {n : Nat} (v : Vector α n) (f : α → β) : Vector β n := Vector.ofFn fun i => f v[i]

/-- The part changed for ports 0 to 3 in ascending order (log 5). -/
def eachPort (f : Fin 4 → Part → Part) (p : Part) : Part := f 3 (f 2 (f 1 (f 0 p)))

/-- The part changed for lines 0 to 7 in ascending order (log 5). -/
def eachLine (f : Fin 8 → Part → Part) (p : Part) : Part := f 7 (f 6 (f 5 (f 4 (f 3 (f 2 (f 1 (f 0 p)))))))

/-- The part with port `i` changed by `f`. -/
def Part.onPort (i : Fin 4) (f : Port → Port) (p : Part) : Part := { p with ports := update p.ports i f }

/-- The part with line `i` changed by `f`. -/
def Part.onLine (i : Fin 8) (f : Line → Line) (p : Part) : Part :=
  { p with lines := { p.lines with line := update p.lines.line i f } }

/-! ### The reference clock -/

/-- The clock moved forward to tick `t`; a tick that has passed leaves it (log 1). -/
def Part.at (t : Nat) (p : Part) : Part := { p with now := max p.now t }

/-- The tick that lies `ms` milliseconds after the present one. -/
def Part.afterMillis (ms : Nat) (p : Part) : Nat := p.now + ms * Config.ticksPerMilli

/-! ### Pending records and the outgoing slot (R185 to R187) -/

/-- The place of an event kind in the table of pending records. -/
def EventKind.index : EventKind → Fin 18
  | .cameraState => 0
  | .frameBroken => 1
  | .powerFault => 2
  | .overrun => 3
  | .tilesFilled => 4
  | .noCalibration => 5
  | .setSwitched => 6
  | .setUnusable => 7
  | .bandChange => 8
  | .heightFault => 9
  | .storeDone => 10
  | .storeAborted => 11
  | .supplyLow => 12
  | .supplyRestored => 13
  | .lineChange => 14
  | .reverseOn => 15
  | .woken => 16
  | .replyOverrun => 17

/-- The event kinds in the order of their codes. -/
def EventKind.all : List EventKind :=
  [.cameraState, .frameBroken, .powerFault, .overrun, .tilesFilled, .noCalibration, .setSwitched, .setUnusable,
    .bandChange, .heightFault, .storeDone, .storeAborted, .supplyLow, .supplyRestored, .lineChange, .reverseOn, .woken,
    .replyOverrun]

/-- The code of an event kind, 01h to 12h. -/
def EventKind.code (k : EventKind) : Byte := BitVec.ofNat 8 (k.index.val + 1)

/-- A pending record that may take the slot: pending, with priority 1 to 3 (R185). -/
def PendingRecord.sendable (r : PendingRecord) : Bool := r.pending && decide (1 ≤ r.priority)

/-- The pending record of a kind. -/
def Link.record (l : Link) (k : EventKind) : PendingRecord := l.records[k.index]

/-- The link with the slot as given; ATTN follows whether the slot holds a record (R187). -/
def Link.setSlot (l : Link) (o : Option Outgoing) : Link := { l with slot := o, attn := o.isSome }

/-- The better candidate of the best so far and kind `k`: the higher priority, and the lower code among equals (R185). -/
def Link.better (l : Link) (best : Option EventKind) (k : EventKind) : Option EventKind :=
  if (l.record k).sendable then
    match best with
    | none => some k
    | some b => if (l.record b).priority < (l.record k).priority then some k else some b
  else best

/-- The kind whose record takes an empty slot, if any (R185). -/
def Link.candidate (l : Link) : Option EventKind := EventKind.all.foldl l.better none

/-- The notice of a kind as its record stands: kind FFh, tag 00h (R185). -/
def Link.noticeOf (l : Link) (k : EventKind) : Frame :=
  { kind := 0xFF, tag := 0, body := k.code :: BitVec.ofNat 8 (l.record k).repeats :: (l.record k).detail }

/-- Fill the slot if it is empty: the oldest reply, else a notice of the best candidate, else nothing (R185). -/
def Link.fill (l : Link) : Link :=
  match l.slot with
  | some _ => l
  | none =>
    match l.queue with
    | f :: rest => { l with queue := rest }.setSlot (some (.reply f))
    | [] =>
      match l.candidate with
      | some k => l.setSlot (some (.notice k (l.noticeOf k)))
      | none => l.setSlot none

/-- A count incremented that stays at 255 (R186). -/
def bump255 (n : Nat) : Nat := min 255 (n + 1)

/-- A notice of this kind is in the slot. -/
def Link.noticeInSlot (l : Link) (k : EventKind) : Bool :=
  match l.slot with
  | some (.notice j _) => decide (j = k)
  | _ => false

/-- A pending record after a raise with the detail given (R186). -/
def PendingRecord.raised (r : PendingRecord) (detail : List Byte) (inSlot : Bool) : PendingRecord :=
  { r with
    pending := true
    repeats := if r.pending then bump255 r.repeats else 1
    detail := detail
    raisedAgain := if inSlot then bump255 r.raisedAgain else r.raisedAgain }

/-- An event is raised: its pending record is updated, and an empty slot is filled (R185, R186). -/
def Link.raise (l : Link) (k : EventKind) (detail : List Byte) : Link :=
  let inSlot := l.noticeInSlot k
  { l with records := update l.records k.index fun r => r.raised detail inSlot }.fill

/-- A reply or REJECT joins the queue's tail; an empty slot is filled (R183, R185). -/
def Link.join (l : Link) (f : Frame) : Link := { l with queue := l.queue ++ [f] }.fill

/-- A pending record after its notice was fully transmitted (R186). -/
def PendingRecord.sent (r : PendingRecord) : PendingRecord :=
  if r.raisedAgain = 0 then .clear r.priority
  else { r with repeats := r.raisedAgain, raisedAgain := 0 }

/-- The part raises an event. -/
def Part.raise (k : EventKind) (detail : List Byte) (p : Part) : Part := { p with link := p.link.raise k detail }

/-! ### How a meaning answers -/

/-- The answer of a command that changes the part by `f` and leaves the queue alone. While the part is held in a full
reset it takes nothing (R168; log 25). -/
def State.act (f : Part → Part) (s : State) : Host.Outcome State Fault Refusal :=
  .next { s with toPart := if s.power.inReset then s.toPart else f s.toPart }

end Sys2Proof.Machine
end

