-- ==== Sys2Proof/Machine/Operands.lean ====
section
/-! DEFINITION. Operands: bytes of multi-byte fields, the value codes of *Record formats* in both directions, the
status codes, clamping, and the 40 bytes of a tile record. -/

namespace Sys2Proof.Machine

/-! ### Multi-byte fields, little-endian (*Numbers and arithmetic*) -/

/-- A number as one byte. -/
def byte (n : Nat) : Byte := BitVec.ofNat 8 n

/-- A number as two bytes, low byte first. -/
def le16 (n : Nat) : List Byte := [byte n, byte (n / 256)]

/-- A number as three bytes, low byte first. -/
def le24 (n : Nat) : List Byte := [byte n, byte (n / 256), byte (n / 65536)]

/-- A number as four bytes, low byte first. -/
def le32 (n : Nat) : List Byte := [byte n, byte (n / 256), byte (n / 65536), byte (n / 16777216)]

/-- Two bytes, low byte first, as a 16-bit field. -/
def half (lo hi : Byte) : Half := hi ++ lo

/-- Four bytes, low byte first, as a 32-bit field. -/
def word (b0 b1 b2 b3 : Byte) : Word := b3 ++ b2 ++ b1 ++ b0

/-- A number raised to `lo` if below it and lowered to `hi` if above it (*Numbers and arithmetic*). -/
def clamp (lo hi n : Nat) : Nat := min hi (max lo n)

/-! ### Status codes -/

/-- The status codes that begin a reply body. -/
def stOk : Byte := 0x00
def stClamped : Byte := 0x01
def stBusy : Byte := 0x02
def stRefusedState : Byte := 0x03
def stBadArgument : Byte := 0x04
def stBadRecord : Byte := 0x05
def stOutOfOrder : Byte := 0x06
def stIncomplete : Byte := 0x07
def stLocked : Byte := 0x08
def stNotEnabled : Byte := 0x09
def stInUse : Byte := 0x0A
def stPortInStandby : Byte := 0x0B
def stSetUnusable : Byte := 0x0C
def stUnknownRequest : Byte := 0x0D

/-- OK_CLAMPED when a value was changed, OK otherwise. -/
def stAccepted (changed : Bool) : Byte := if changed then stClamped else stOk

/-! ### Value codes of replies and details -/

/-- Codes 0 and 1. -/
def bit (b : Bool) : Byte := if b then 1 else 0

/-- Codes 0 and 1, FFh for none. -/
def bitOrNone : Option Bool → Byte
  | some b => bit b
  | none => 0xFF

/-- A number in one byte, FFh for none. -/
def byteOrNone : Option Nat → Byte
  | some n => byte n
  | none => 0xFF

/-- A number in two bytes, FFFFh for none. -/
def le16OrNone : Option Nat → List Byte
  | some n => le16 n
  | none => [0xFF, 0xFF]

/-- A set number, FFh for none. -/
def setOrNone (s : Option (Fin 8)) : Byte := byteOrNone (s.map (·.val))

/-- Eight flags in one byte, flag k in bit k. -/
def flags8 (f : Fin 8 → Bool) : Byte :=
  (List.finRange 8).foldl (fun acc k => if f k then acc ||| BitVec.twoPow 8 k.val else acc) 0

/-- Four flags in bits 0 to 3. -/
def flags4 (v : Vector Bool 4) : Byte := flags8 fun k => if h : k.val < 4 then v[k.val] else false

def PortState.code : PortState → Byte
  | .off => 0
  | .powering => 1
  | .waiting => 2
  | .live => 3
  | .stalled => 4
  | .recovering => 5
  | .failed => 6
  | .standby => 7

def RunState.code : RunState → Byte
  | .stopped => 0
  | .running => 1
  | .stopping => 2

def PaceMode.code : PaceMode → Byte
  | .continuous => 0
  | .single => 1

def PowerState.code : PowerState → Byte
  | .run => 0
  | .doze => 1
  | .parked => 2

def ResetCause.code : ResetCause → Byte
  | .powerOn => 0
  | .pin => 1
  | .supply => 2
  | .soft => 3

def SetState.code : SetState → Byte
  | .blank => 0
  | .opened => 1
  | .complete => 2
  | .retired => 3
  | .torn => 4

def HeightState.code : HeightState → Byte
  | .filling => 0
  | .tracking => 1
  | .fault => 2
  | .stopped => 3

/-- The verdict of the last reading in STATUS, and the reason codes of HEIGHT_FAULT. -/
def ReadingVerdict.code : ReadingVerdict → Byte
  | .valid => 0
  | .periodRange => 1
  | .dutyRange => 2
  | .noSignal => 3

def ZoneVerdict.code : ZoneVerdict → Byte
  | .valid => 0
  | .sparse => 1
  | .outOfRange => 2

def StepOutcome.code : StepOutcome → Byte
  | .applied => 0
  | .heldBack => 1
  | .notMade => 2

def BrokenCause.code : BrokenCause → Byte
  | .lineLength => 2
  | .extraLines => 3

def LineAttr.code : LineAttr → Byte
  | .floating => 0
  | .biased => 1
  | .plain => 2
  | .inverted => 3

def LineRole.code : LineRole → Byte
  | .none => 0
  | .occlude g => byte (1 + g.val)
  | .reverse => 5
  | .parity => 6
  | .pictureOk => 7

def AbortCause.code : AbortCause → Byte
  | .request => 1
  | .calWe => 2

/-! ### Values of request arguments; none where the byte is none of the codes -/

/-- OFF or ON, LOW or HIGH, IN or OUT. -/
def bit? (b : Byte) : Option Bool := if b = 0 then some false else if b = 1 then some true else none

/-- A camera or port number 0..3. -/
def camera? (b : Byte) : Option (Fin 4) := if h : b.toNat < 4 then some ⟨b.toNat, h⟩ else none

/-- A set or line number 0..7. -/
def set? (b : Byte) : Option (Fin 8) := if h : b.toNat < 8 then some ⟨b.toNat, h⟩ else none

/-- An event kind by its code 01h..12h. -/
def kind? (b : Byte) : Option EventKind := if b = 0 then none else EventKind.all[b.toNat - 1]?

def mode? (b : Byte) : Option PaceMode := if b = 0 then some .continuous else if b = 1 then some .single else none

def lineAttr? (b : Byte) : Option LineAttr :=
  match b.toNat with
  | 0 => some .floating
  | 1 => some .biased
  | 2 => some .plain
  | 3 => some .inverted
  | _ => none

def lineRole? (b : Byte) : Option LineRole :=
  match b.toNat with
  | 0 => some .none
  | 1 => some (.occlude 0)
  | 2 => some (.occlude 1)
  | 3 => some (.occlude 2)
  | 4 => some (.occlude 3)
  | 5 => some .reverse
  | 6 => some .parity
  | 7 => some .pictureOk
  | _ => none

end Sys2Proof.Machine

namespace Sys2Proof

open Sys2Proof.Machine

/-! ### The 40 bytes of a tile record (*Tile record*) -/

/-- The bytes of a point: x then y, each low byte first. -/
def Point.toBytes (p : Point) : List Byte := le16 p.x.toNat ++ le16 p.y.toNat

/-- Four points in corner order. -/
def cornerBytes (c : Corners Point) : List Byte :=
  c.topLeft.toBytes ++ c.topRight.toBytes ++ c.bottomLeft.toBytes ++ c.bottomRight.toBytes

/-- The 40 bytes of a tile record. -/
def TileRecord.toBytes (r : TileRecord) : List Byte :=
  [r.kind, r.camB ++ r.camA, r.occB ++ r.occA, r.hold, r.weights.topLeft, r.weights.topRight, r.weights.bottomLeft,
    r.weights.bottomRight] ++ cornerBytes r.aCorners ++ cornerBytes r.bCorners

/-- The point in four bytes from place `k`. -/
def pointAt (b : Nat → Byte) (k : Nat) : Point := { x := half (b k) (b (k + 1)), y := half (b (k + 2)) (b (k + 3)) }

/-- The four points in sixteen bytes from place `k`. -/
def cornersAt (b : Nat → Byte) (k : Nat) : Corners Point :=
  { topLeft := pointAt b k, topRight := pointAt b (k + 4), bottomLeft := pointAt b (k + 8)
    bottomRight := pointAt b (k + 12) }

/-- The tile record in 40 bytes, given by place. -/
def TileRecord.ofPlaces (b : Nat → Byte) : TileRecord :=
  { kind := b 0, camA := (b 1).extractLsb' 0 4, camB := (b 1).extractLsb' 4 4, occA := (b 2).extractLsb' 0 4
    occB := (b 2).extractLsb' 4 4, hold := b 3
    weights := { topLeft := b 4, topRight := b 5, bottomLeft := b 6, bottomRight := b 7 }
    aCorners := cornersAt b 8, bCorners := cornersAt b 24 }

/-- The tile record in a list of 40 bytes. -/
def TileRecord.ofBytes (bytes : List Byte) : TileRecord := .ofPlaces fun k => bytes[k]?.getD 0

/-- The fill colour: the first three of the sixteen bytes that a SEAM record uses as B corners (R8). -/
def TileRecord.fill (r : TileRecord) : Colour :=
  { y := r.bCorners.topLeft.x.extractLsb' 0 8, cb := r.bCorners.topLeft.x.extractLsb' 8 8
    cr := r.bCorners.topLeft.y.extractLsb' 0 8 }

end Sys2Proof
end

