-- ==== Sys2Proof/Machine/Flags.lean ====
section
/-! DEFINITION. Conditions computed from the state: well-formedness of a tile record, what a port is receiving, the
all-present condition, the derived states of the vehicle lines, PICTURE_OK and the intended pad levels, set states,
and who uses a set. What the manual lists as a state of its own but computes from others stands here once (log 33). -/

namespace Sys2Proof.Machine

/-! ### Cameras and zones (R4, R5) -/

/-- The next camera clockwise (R4). -/
def nextCamera (c : Fin 4) : Fin 4 := c + 1

/-- Two distinct cameras are adjacent when (a − b) mod 4 is 1 or 3 (R4). -/
def adjacent (a b : Fin 4) : Bool := a == b + 1 || b == a + 1

/-- The zone of a pair of adjacent cameras (R5). -/
def zoneOf (a b : Fin 4) : Fin 4 := if b = a + 1 then a else b

/-- The camera that a 4-bit camera field names, taken mod 4 (*Numbers and arithmetic*). -/
def cameraOf (c : BitVec 4) : Fin 4 := ⟨c.toNat % 4, Nat.mod_lt _ (by decide)⟩

/-! ### Well-formedness of a tile record (R14) -/

/-- Every coordinate of four corner points is 0. -/
def cornersZero (c : Corners Point) : Bool :=
  decide (c = { topLeft := ⟨0, 0⟩, topRight := ⟨0, 0⟩, bottomLeft := ⟨0, 0⟩, bottomRight := ⟨0, 0⟩ })

/-- The thirteen bytes after the fill colour are 0 (R14, condition 9). -/
def fillPaddingZero (c : Corners Point) : Bool :=
  decide (c.topLeft.y.toNat < 256 ∧ c.topRight = ⟨0, 0⟩ ∧ c.bottomLeft = ⟨0, 0⟩ ∧ c.bottomRight = ⟨0, 0⟩)

/-- Every corner weight satisfies `ok`. -/
def weightsAll (w : Corners Byte) (ok : Nat → Bool) : Bool :=
  ok w.topLeft.toNat && ok w.topRight.toNat && ok w.bottomLeft.toNat && ok w.bottomRight.toNat

/-- A hold limit that R14 allows a SINGLE or SEAM record. -/
def holdAllowed (h : Byte) : Bool := decide (h.toNat ≤ 60 ∨ h.toNat = 255)

end Sys2Proof.Machine

namespace Sys2Proof

open Sys2Proof.Machine

/-- The conditions of R14 for a SINGLE record. -/
def TileRecord.singleOk (r : TileRecord) : Bool :=
  decide (r.camA.toNat < 4) && r.camB == 0 && r.occB == 0 && holdAllowed r.hold && weightsAll r.weights (· == 0)
    && cornersZero r.bCorners

/-- The conditions of R14 for a SEAM record. -/
def TileRecord.seamOk (r : TileRecord) : Bool :=
  decide (r.camA.toNat < 4) && decide (r.camB.toNat < 4) && adjacent (cameraOf r.camA) (cameraOf r.camB)
    && holdAllowed r.hold && weightsAll r.weights (fun w => decide (w ≤ 64))

/-- The conditions of R14 for a VOID or BODY record. -/
def TileRecord.fillOk (r : TileRecord) : Bool :=
  r.camA == 0 && r.camB == 0 && r.occA == 0 && r.occB == 0 && r.hold == 0 && weightsAll r.weights (· == 0)
    && cornersZero r.aCorners && fillPaddingZero r.bCorners

/-- A tile record is well-formed (R14). -/
def TileRecord.wellFormed (r : TileRecord) : Bool :=
  match r.kind.toNat with
  | 0 => r.fillOk
  | 1 => r.singleOk
  | 2 => r.seamOk
  | 3 => r.fillOk
  | _ => false

end Sys2Proof

namespace Sys2Proof.Machine

/-! ### Ports and the gatherer -/

/-- The frame watchdogs run: the pace is RUNNING or STOPPING and the supply is NORMAL (R30). -/
def Part.watchdogRuns (p : Part) : Bool := p.pace.runState != .stopped && !p.supply.low

/-- The states in which a port can be receiving, and in which its timer is the watchdog (R19, R27). -/
def PortState.watches : PortState → Bool
  | .waiting | .live | .stalled => true
  | _ => false

/-- Port `i` is receiving (R19). -/
def Part.receiving (p : Part) (i : Fin 4) : Bool := p.ports[i].state.watches && !p.supply.low

/-- A port has a READY buffer tagged `n` (R58). -/
def Port.hasReady (q : Port) (n : Half) : Bool := q.ready.any fun b => q.buffers[b].tag == n

/-- All-present for trigger `n`: at least one port is LIVE and every LIVE port has a READY buffer tagged `n` (R58). -/
def Part.allPresent (p : Part) (n : Half) : Bool :=
  (List.finRange 4).any (fun i => p.ports[i].state == .live)
    && (List.finRange 4).all fun i => p.ports[i].state != .live || p.ports[i].hasReady n

/-- The number of a frame buffer that is FILLING. -/
def Port.filling? (q : Port) : Option (Fin 3) := (List.finRange 3).find? fun b => q.buffers[b].state == .filling

/-- The lowest-numbered FREE frame buffer (R21). -/
def Port.free? (q : Port) : Option (Fin 3) := (List.finRange 3).find? fun b => q.buffers[b].state == .free

/-- The frame buffer that is IN_USE (R63). -/
def Port.inUse? (q : Port) : Option (Fin 3) := (List.finRange 3).find? fun b => q.buffers[b].state == .inUse

/-! ### The pace (R42, R43) -/

/-- The period of a copy of the settings in reference ticks (R42). -/
def PaceSettings.period (c : PaceSettings) : Nat := c.prescaler * (c.reload + 1)

/-- The offset of the deadline from its boundary (R43). -/
def PaceSettings.deadlineOffset (c : PaceSettings) : Nat := c.period * c.percent / 100

/-! ### Composite buffers (R77) -/

/-- The composite buffer in a state, lowest number first. -/
def Engine.find? (e : Engine) (st : CompositeState) : Option (Fin 3) :=
  (List.finRange 3).find? fun b => e.buffers[b].state == st

/-- The engine clock runs: in RUN, and in DOZE until the engine is IDLE (R82, R160). -/
def Part.engineClockRuns (p : Part) : Bool :=
  p.power.state == .run || (p.power.state == .doze && p.engine.inflight.isSome)

/-! ### Vehicle lines (R143 to R148) -/

/-- An IN line with a role is asserted while its debounced level equals its active level (R145). -/
def Line.asserted (l : Line) : Bool :=
  !l.config.out && l.config.role != .none && l.debounced == some l.config.active

/-- Some asserted IN line has the role (R145). -/
def Lines.anyAsserted (u : Lines) (role : LineRole) : Bool :=
  (List.finRange 8).any fun i => u.line[i].asserted && u.line[i].config.role == role

/-- Occlusion group `g` is active (R7, R145). -/
def Part.groupActive (p : Part) (g : Fin 4) : Bool := p.lines.anyAsserted (.occlude g)

/-- The four group states (R7). -/
def Part.groups (p : Part) : Vector Bool 4 := #v[p.groupActive 0, p.groupActive 1, p.groupActive 2, p.groupActive 3]

/-- REVERSE is asserted (R145). -/
def Part.reverse (p : Part) : Bool := p.lines.anyAsserted .reverse

/-- The occlusion groups in bits 0 to 3 and REVERSE in bit 4, as STATUS and LINE_READ carry them. -/
def Part.groupBits (p : Part) : Byte := flags4 p.groups ||| (if p.reverse then 16 else 0)

/-- The PICTURE_OK condition: the three conditions of R148, and after a return of the supply not before a composition has
completed (R159; log 40). -/
def Part.pictureOk (p : Part) : Bool :=
  !p.supply.low && p.pace.runState == .running && p.lines.filled == some 0 && !p.lines.awaiting

/-- The logical level of an OUT line (R143). -/
def Part.logicalLevel (p : Part) (i : Fin 8) : Bool :=
  match p.lines.line[i].config.role with
  | .parity => p.pace.parity
  | .pictureOk => p.pictureOk
  | _ => p.lines.line[i].config.level

/-- The intended pad level of an OUT line (R143). -/
def Part.intended (p : Part) (i : Fin 8) : Bool :=
  p.logicalLevel i != (p.lines.line[i].config.attr == .inverted)

/-! ### Sets, the loader and the store -/

/-- The set state that the marks give, the first line of the table that applies (R122): a set that is retired while its
open or complete mark is torn stays TORN, where R136 says that the directory shows RETIRED (log 38). -/
def SetEntry.state (e : SetEntry) : SetState :=
  if e.openMark = .torn ∨ e.completeMark = .torn ∨ e.retireMark = .torn then .torn
  else if e.retireMark = .set then .retired
  else if e.completeMark = .set then .complete
  else if e.openMark = .set then .opened
  else .blank

/-- A set is locked when its lock mark is set or torn (R122). -/
def SetEntry.locked (e : SetEntry) : Bool := e.lockMark != .blank

/-- The set state that the store reports (R124). -/
def Store.setState (t : Store) (s : Fin 8) : SetState := t.directory[s].state

/-- The scan after a reset is in progress (R124). -/
def Store.scanning (t : Store) : Bool :=
  match t.holder with
  | .scan _ => true
  | _ => false

/-- A store step is running (R126). -/
def Store.stepRunning (t : Store) : Bool :=
  match t.step with
  | some { phase := .running _, .. } => true
  | _ => false

/-- The store is engaged: a session is open, or a step is pending or running (R126). -/
def Store.engaged (t : Store) : Bool := t.session.isSome || t.step.isSome

/-- A write session is open on set `s` (R111). -/
def Store.sessionOn (t : Store) (s : Fin 8) : Bool :=
  match t.session with
  | some x => x.set == s
  | none => false

/-- The set of a tile table that holds one (R17). -/
def TileTable.set? : TileTable → Option (Fin 8)
  | .holding s _ => some s
  | _ => none

/-- The active set (R17). -/
def Loader.activeSet (l : Loader) : Option (Fin 8) := l.active.set?

/-- The set the loader has in hand (R110). -/
def LoaderState.set? : LoaderState → Option (Fin 8)
  | .idle => none
  | .waitingStore s => some s
  | .loading s _ _ => some s
  | .staged s => some s

/-- Set `s` is in use: active, awaited, being loaded or staged (R128). -/
def Loader.inUse (l : Loader) (s : Fin 8) : Bool := l.activeSet == some s || l.state.set? == some s

end Sys2Proof.Machine
end

