-- ==== Sys2Proof/Machine/Paint.lean ====
section
/-! DEFINITION. Painting a composite: how each tile is painted (R65 to R67), what that costs (R76), the value of every
pixel (R69 to R74) and the seam statistics (R75). Everything here is a function of the latched inputs, the present
set, the committed runtime state and the frames. -/

namespace Sys2Proof.Machine

/-! ### What each tile is painted with -/

/-- Camera `c` is usable in a tile whose record lists the groups `occ` for it (R65). -/
def usable (lat : Latched) (present : Vector Bool 4) (c : Fin 4) (occ : BitVec 4) : Bool :=
  present[c] && !((List.finRange 4).any fun g => lat.occlusion[g] && occ.getLsbD g.val)

/-- The hold limit of a tile: the record's own, or the latched H for 255 (R12, R67). -/
def holdLimit (lat : Latched) (r : TileRecord) : Nat := if r.hold.toNat = 255 then lat.hold else r.hold.toNat

/-- The sources from which a tile may be held (R67). -/
def TileSource.holdable : TileSource → Bool
  | .sampled | .blended | .held => true
  | _ => false

/-- A SINGLE or SEAM tile with no usable camera is held or filled (R67). -/
def heldOrFilled (lat : Latched) (hasPrevious : Bool) (r : TileRecord) (st : TileState) : Painting :=
  if hasPrevious && st.source.holdable && decide (st.age + 1 ≤ holdLimit lat r) then .held else .filled

/-- How a tile is painted from its record (the table of R66). -/
def paintingOf (lat : Latched) (present : Vector Bool 4) (hasPrevious : Bool) (r : TileRecord) (st : TileState) :
    Painting :=
  let a := cameraOf r.camA
  let b := cameraOf r.camB
  let okA := usable lat present a r.occA
  let okB := usable lat present b r.occB
  match r.kind.toNat with
  | 3 => .body
  | 0 => .voided
  | 1 => if okA then .sampled a false else heldOrFilled lat hasPrevious r st
  | 2 =>
    if okA && okB then .blended a b
    else if okA then .sampled a false
    else if okB then .sampled b true
    else heldOrFilled lat hasPrevious r st
  | _ => .filled

/-- The paintings of the tiles; with an EMPTY table every tile is painted FILLED (R18, R66). -/
def paintings (lat : Latched) (present : Vector Bool 4) (hasPrevious : Bool) (table : TileTable)
    (tiles : List TileState) : List Painting :=
  match table with
  | .holding _ rs => List.zipWith (paintingOf lat present hasPrevious) rs tiles
  | _ => tiles.map fun _ => .filled

/-- The pending runtime state that a painting leaves (R66, R67). -/
def Painting.next (pt : Painting) (st : TileState) : TileState :=
  match pt with
  | .body => { source := .body, age := 0 }
  | .voided => { source := .voided, age := 0 }
  | .sampled _ _ => { source := .sampled, age := 0 }
  | .blended _ _ => { source := .blended, age := 0 }
  | .held => { source := .held, age := st.age + 1 }
  | .filled => { source := .filled, age := min (st.age + 1) 255 }

/-- The cost of a painting in engine clocks (R76). -/
def Painting.cost : Painting → Nat
  | .sampled _ _ => 4096
  | .blended _ _ => 7680
  | .held => 1024
  | .body | .voided | .filled => 512

/-- The cost of a composite: the sum of its tile costs (R76). -/
def totalCost (pts : List Painting) : Nat := (pts.map Painting.cost).sum

def Painting.isSampled : Painting → Bool
  | .sampled _ _ => true
  | _ => false

def Painting.isBlended : Painting → Bool
  | .blended _ _ => true
  | _ => false

/-- The tile counts of a composite (R66, R78). -/
def countsOf (pts : List Painting) : TileCounts :=
  { sampled := pts.countP Painting.isSampled, blended := pts.countP Painting.isBlended, held := pts.count .held
    filled := pts.count .filled }

/-! ### Pixels -/

/-- The bilinear mix of four corner values at pixel (i, j) of a tile, rounded half up (R13, R69). -/
def mix (i j : Nat) (c : Corners Nat) : Nat :=
  ((32 - i) * (32 - j) * c.topLeft + i * (32 - j) * c.topRight + (32 - i) * j * c.bottomLeft + i * j * c.bottomRight
    + 512) / 1024

/-- The four corner values under a function. -/
def Corners.over {α : Type} (f : α → Nat) (c : Corners α) : Corners Nat :=
  { topLeft := f c.topLeft, topRight := f c.topRight, bottomLeft := f c.bottomLeft, bottomRight := f c.bottomRight }

/-- The source position of pixel (i, j) in sixteenths: x (R69). -/
def sourceX (c : Corners Point) (i j : Nat) : Nat := mix i j (Corners.over (fun q => q.x.toNat) c)

/-- The source position of pixel (i, j) in sixteenths: y (R69). -/
def sourceY (c : Corners Point) (i j : Nat) : Nat := mix i j (Corners.over (fun q => q.y.toNat) c)

/-- The clamp at an edge whose last column or line is `last`: the first sample column or line, the second, and the
fraction (R70). -/
def clampEdge (last x : Nat) : Nat × Nat × Nat :=
  if last ≤ x / 16 then (last, last, 0) else (x / 16, x / 16 + 1, x % 16)

/-- Sample `k` of line `line` of a frame (R19). -/
def frameSample (frame : List (List Byte)) (line k : Nat) : Nat :=
  match frame[line]? with
  | some samples =>
    match samples[k]? with
    | some b => b.toNat
    | none => (Config.unwrittenSample line k).toNat
  | none => (Config.unwrittenSample line k).toNat

/-- The luma sample of a pixel: samples come in the order Cb, Y, Cr, Y for each pair (R19). -/
def lumaSample (frame : List (List Byte)) (column line : Nat) : Nat :=
  frameSample frame line (4 * (column / 2) + 1 + 2 * (column % 2))

/-- The pre-gain luma at a source position: the bilinear mix of the four neighbours (R70, R71). -/
def preGainLuma (frame : List (List Byte)) (x y : Nat) : Nat :=
  let (x0, x1, fx) := clampEdge 1279 x
  let (y0, y1, fy) := clampEdge 959 y
  ((16 - fx) * (16 - fy) * lumaSample frame x0 y0 + fx * (16 - fy) * lumaSample frame x1 y0
    + (16 - fx) * fy * lumaSample frame x0 y1 + fx * fy * lumaSample frame x1 y1 + 128) / 256

/-- The Cb of a camera at a source position: the nearest chroma sample (R72). -/
def chromaCb (frame : List (List Byte)) (x y : Nat) : Nat :=
  frameSample frame (min 959 (y / 16)) (4 * min 639 (x / 16 / 2))

/-- The Cr of a camera at a source position (R72). -/
def chromaCr (frame : List (List Byte)) (x y : Nat) : Nat :=
  frameSample frame (min 959 (y / 16)) (4 * min 639 (x / 16 / 2) + 2)

/-- The gained luma (R73). -/
def gainedLuma (y gain : Nat) : Nat := min 255 ((y * gain + 512) / 1024)

/-- The blend of two values with weight `w` of the first in 64ths (R74). -/
def blend (w a b : Nat) : Nat := (w * a + (64 - w) * b + 32) / 64

/-- The blend weight of pixel (i, j) (R74). -/
def blendWeight (r : TileRecord) (i j : Nat) : Nat := mix i j (Corners.over BitVec.toNat r.weights)

/-- The 1024 pixels of a tile, row by row, from a function of (i, j). -/
def pixels (f : Nat → Nat → Nat) : List Byte := (List.range 1024).map fun k => byte (f (k % 32) (k / 32))

/-- The 512 chroma pairs of a tile, row by row, from a function of the even pixel (i, j) of the pair (R72). -/
def chromaPairs (f : Nat → Nat → Nat) : List Byte := (List.range 512).map fun k => byte (f (2 * (k % 16)) (k / 16))

/-- A tile in one colour (R11, R67). -/
def flatTile (c : Colour) : TileImage :=
  { luma := List.replicate 1024 c.y, cb := List.replicate 512 c.cb, cr := List.replicate 512 c.cr }

/-- A tile sampled from one camera (R69 to R73). -/
def sampledTile (frame : List (List Byte)) (corners : Corners Point) (gain : Nat) : TileImage :=
  { luma := pixels fun i j => gainedLuma (preGainLuma frame (sourceX corners i j) (sourceY corners i j)) gain
    cb := chromaPairs fun i j => chromaCb frame (sourceX corners i j) (sourceY corners i j)
    cr := chromaPairs fun i j => chromaCr frame (sourceX corners i j) (sourceY corners i j) }

/-- The pre-gain luma of a camera at pixel (i, j) of a tile with the corners given. -/
def tileLuma (frame : List (List Byte)) (corners : Corners Point) (i j : Nat) : Nat :=
  preGainLuma frame (sourceX corners i j) (sourceY corners i j)

/-- A tile blended from two cameras (R74). -/
def blendedTile (frameA frameB : List (List Byte)) (r : TileRecord) (gainA gainB : Nat) : TileImage :=
  { luma := pixels fun i j =>
      blend (blendWeight r i j) (gainedLuma (tileLuma frameA r.aCorners i j) gainA)
        (gainedLuma (tileLuma frameB r.bCorners i j) gainB)
    cb := chromaPairs fun i j =>
      blend (blendWeight r i j) (chromaCb frameA (sourceX r.aCorners i j) (sourceY r.aCorners i j))
        (chromaCb frameB (sourceX r.bCorners i j) (sourceY r.bCorners i j))
    cr := chromaPairs fun i j =>
      blend (blendWeight r i j) (chromaCr frameA (sourceX r.aCorners i j) (sourceY r.aCorners i j))
        (chromaCr frameB (sourceX r.bCorners i j) (sourceY r.bCorners i j)) }

/-- The image of a tile as painted: `frames` are the frames in use, `previous` the pictures of the previous composite
(R66 to R68). -/
def tileImage (lat : Latched) (frames : Vector (List (List Byte)) 4) (previous : List TileImage) (t : Nat)
    (r : TileRecord) (pt : Painting) : TileImage :=
  match pt with
  | .body => flatTile r.fill
  | .voided => flatTile r.fill
  | .sampled c useB => sampledTile frames[c] (if useB then r.bCorners else r.aCorners) lat.gains[c]
  | .blended a b => blendedTile frames[a] frames[b] r lat.gains[a] lat.gains[b]
  | .held => previous[t]?.getD { luma := [], cb := [], cr := [] }
  | .filled => flatTile lat.void

/-- The picture of a composite, tile by tile in tile-index order (R3, R66). -/
def picture (lat : Latched) (frames : Vector (List (List Byte)) 4) (previous : List TileImage) (table : TileTable)
    (pts : List Painting) : List TileImage :=
  match table with
  | .holding _ rs => (rs.zip pts).zipIdx.map fun x => tileImage lat frames previous x.2 x.1.1 x.1.2
  | _ => pts.map fun _ => flatTile lat.void

/-! ### Seam statistics (R75) -/

/-- The zone's sums with a pair of lumas added: `c` is the camera of `ya`, which is camera z of zone z or camera z + 1. -/
def ZoneStats.add (s : ZoneStats) (aFirst : Bool) (ya yb : Nat) : ZoneStats :=
  if aFirst then { sumA := s.sumA + ya, sumB := s.sumB + yb, count := s.count + 1 }
  else { sumA := s.sumA + yb, sumB := s.sumB + ya, count := s.count + 1 }

/-- A pixel is mid-seam when its weight is 8..56 (R75). -/
def midSeam (w : Nat) : Bool := decide (8 ≤ w ∧ w ≤ 56)

/-- The statistics of one zone with the mid-seam pixels of one blended tile added; the luma of camera A goes to camera
A's sum, whichever role the camera has in the record (R5, R75). -/
def addTile (frameA frameB : List (List Byte)) (r : TileRecord) (aFirst : Bool) (s : ZoneStats) : ZoneStats :=
  (List.range 1024).foldl (fun s k =>
    let i := k % 32
    let j := k / 32
    if midSeam (blendWeight r i j) then
      s.add aFirst (tileLuma frameA r.aCorners i j) (tileLuma frameB r.bCorners i j)
    else s) s

/-- The statistics of a composite: the mid-seam pixels of its blended tiles, zone by zone (R75). -/
def seamStats (frames : Vector (List (List Byte)) 4) (table : TileTable) (pts : List Painting) : Vector ZoneStats 4 :=
  match table with
  | .holding _ rs =>
    (rs.zip pts).foldl (fun v x =>
      match x.2 with
      | .blended a b =>
        let z := zoneOf a b
        update v z fun s => addTile frames[a] frames[b] x.1 (a == z) s
      | _ => v) #v[.zero, .zero, .zero, .zero]
  | _ => #v[.zero, .zero, .zero, .zero]

end Sys2Proof.Machine
end

