-- ==== Sys2Proof/Machine/Compose.lean ====
section
/-! DEFINITION. The gather slot, the selection of frames and the start of a composition (R24, R56 to R63, R76, R114),
the abandonment of one (R81), and COMPOSE_CONFIGURE's values. A composition is painted whole when it starts (log 6). -/

namespace Sys2Proof.Machine

/-! ### Selection of a frame buffer (R24) -/

/-- A tag is eligible for trigger `n` with stale allowance `stale`: its age is at most the allowance (R24). -/
def tagEligible (n : Half) (stale : Nat) (tag : Half) : Bool := decide ((n - tag).toNat ≤ stale)

/-- A tag is later than trigger `n` (R24). -/
def tagLater (n tag : Half) : Bool := decide (1 ≤ (tag - n).toNat ∧ (tag - n).toNat ≤ 32767)

/-- The newest eligible READY buffer of a port (R24). -/
def Port.newestEligible (n : Half) (stale : Nat) (q : Port) : Option (Fin 3) :=
  (q.ready.filter fun b => tagEligible n stale q.buffers[b].tag).getLast?

/-- The port with the buffers of a list FREE. -/
def Port.freeAll (drop : List (Fin 3)) (q : Port) : Port :=
  { q with buffers := Vector.ofFn fun b =>
      if drop.contains b then { q.buffers[b] with state := .free } else q.buffers[b] }

/-- The port after it was asked to select for trigger `n` (R24). -/
def Port.select (n : Half) (stale : Nat) (q : Port) : Port :=
  match q.newestEligible n stale with
  | some b =>
    let q' := q.freeAll (q.ready.takeWhile (· != b))
    { q' with
      buffers := update q'.buffers b fun f => { f with state := .inUse }
      ready := (q.ready.dropWhile (· != b)).drop 1 }
  | none =>
    let q' := q.freeAll (q.ready.filter fun b => !tagLater n q.buffers[b].tag)
    { q' with ready := q.ready.filter fun b => tagLater n q.buffers[b].tag }

/-- A port is asked to select in LIVE and STALLED (R24). -/
def Port.asked (q : Port) : Bool := q.state == .live || q.state == .stalled

/-- The camera of a port is present in a composite of trigger `n`: the port is asked and has an eligible buffer
(R24, R63). -/
def Port.presentFor (n : Half) (stale : Nat) (q : Port) : Bool := q.asked && (q.newestEligible n stale).isSome

/-- The port after a composition start for trigger `n`. -/
def Port.atStart (n : Half) (stale : Nat) (q : Port) : Port := if q.asked then q.select n stale else q

/-- The frame a port's IN_USE buffer holds. -/
def Port.frameInUse (q : Port) : List (List Byte) :=
  match q.inUse? with
  | some b => q.buffers[b].data
  | none => []

/-- Every IN_USE buffer of a port becomes FREE (R25). -/
def Port.release (q : Port) : Port :=
  { q with buffers := mapAll q.buffers fun b => if b.state = .inUse then { b with state := .free } else b }

/-- Every IN_USE buffer of every port becomes FREE (R25). -/
def Part.releaseFrames (p : Part) : Part := { p with ports := mapAll p.ports Port.release }

/-! ### The start of a composition (R61) -/

/-- Step 1 of R61: a staged table becomes active, the runtime states are set to FILLED 255, SET_SWITCHED is raised and
the loader becomes IDLE (R114). -/
def Part.swapTables (n : Half) (p : Part) : Part :=
  match p.loader.state with
  | .staged s =>
    let former := p.loader.activeSet
    { p with
      loader := { p.loader with state := .idle, active := p.loader.standby, standby := .empty }
      engine := { p.engine with tiles := p.engine.tiles.map fun _ => .atReset } }.raise .setSwitched
      ([byte s.val, setOrNone former] ++ le16 n.toNat)
  | _ => p

/-- A table is staged. -/
def LoaderState.isStaged : LoaderState → Bool
  | .staged _ => true
  | _ => false

/-- Step 2 of R61: the inputs latched (R62). -/
def Part.latch (p : Part) : Latched :=
  { set := p.loader.activeSet, gains := p.balancer.gains, occlusion := p.groups, hold := p.engine.hold
    void := p.engine.void, divider := p.engine.divider }

/-- The picture the previous-composite pointer names (R68). -/
def Engine.previousImage (e : Engine) : List TileImage :=
  match e.previous with
  | some b => e.buffers[b].image
  | none => []

/-- Steps 2 to 6 of R61 into composite buffer `b`: latch, select, claim, clear and paint. The written marks are cleared
once the gains are latched (R86). -/
def Part.compose (n : Half) (stale : Nat) (firstOfSet : Bool) (b : Fin 3) (p : Part) : Part :=
  let lat := p.latch
  let present := Vector.ofFn fun i : Fin 4 => p.ports[i].presentFor n stale
  let ports := mapAll p.ports (Port.atStart n stale)
  let frames := mapAll ports Port.frameInUse
  let pts := paintings lat present p.engine.previous.isSome p.loader.active p.engine.tiles
  let image := picture lat frames p.engine.previousImage p.loader.active pts
  { p with
    ports := ports
    balancer := { p.balancer with written := #v[false, false, false, false] }
    engine := { p.engine with
      slot := .empty
      inflight := some
        { trigger := n, completion := p.now + totalCost pts * lat.divider / 4, latched := lat, present := present
          counts := countsOf pts, firstOfSet := firstOfSet, next := List.zipWith Painting.next pts p.engine.tiles }
      stats := seamStats frames p.loader.active pts
      buffers := update p.engine.buffers b fun _ => { state := .writing, record := none, image := image } } }

/-- A composition starts when the engine is IDLE and the slot is READY; a FREE composite buffer then exists (R61, R77;
log 27). -/
def Part.tryStart (p : Part) : Part :=
  match p.engine.slot, p.engine.inflight, p.engine.find? .free with
  | .ready n stale, none, some b => (p.swapTables n).compose n stale p.loader.state.isStaged b
  | _, _, _ => p

/-! ### The gather slot -/

/-- The slot as given. -/
def Part.setSlot (slot : GatherSlot) (p : Part) : Part := { p with engine := { p.engine with slot := slot } }

/-- The pace timer's deadline for trigger `n` cancelled (R43). -/
def Pace.cancel (n : Half) (t : Pace) : Pace :=
  match t.deadline with
  | some d => if d.trigger = n then { t with deadline := none } else t
  | none => t

/-- The all-present test: a gather whose condition holds closes, its deadline is cancelled, and a composition starts
when the engine is IDLE (R58). -/
def Part.gatherTest (p : Part) : Part :=
  match p.engine.slot with
  | .gathering n stale =>
    if p.allPresent n then ({ p with pace := p.pace.cancel n }.setSlot (.ready n stale)).tryStart else p
  | _ => p

/-- A gather closed as at its deadline (R57, R59). -/
def Part.closeGather (p : Part) : Part :=
  match p.engine.slot with
  | .gathering n stale => (p.setSlot (.ready n stale)).tryStart
  | _ => p

/-- A deadline expiry for trigger `m` delivered to the gatherer (R59). -/
def Part.gatherDeadline (m : Half) (p : Part) : Part :=
  match p.engine.slot with
  | .gathering n _ => if n = m then p.closeGather else p
  | _ => p

/-- The trigger in the slot is SKIPPED with OVERRUN when the slot is READY and the engine busy (R57, R60). -/
def Part.skipReady (p : Part) : Part :=
  match p.engine.slot, p.engine.inflight with
  | .ready m _, some c => p.raise .overrun (le16 m.toNat ++ le16 c.trigger.toNat)
  | _, _ => p

/-- The gatherer takes boundary `n` with the stale allowance handed over (R57). -/
def Part.gatherBoundary (n : Half) (stale : Nat) (p : Part) : Part :=
  if p.supply.low then p.setSlot .empty
  else (p.closeGather.skipReady).setSlot (.gathering n stale)

/-! ### A change of port state, as the gatherer hears it (R27, R58) -/

/-- Port `i` changed by `f`; a change of its state raises CAMERA_STATE and is told to the gatherer, in this order: a
SET_SWITCHED of a composition that starts then comes after CAMERA_STATE (R27; log 21). -/
def Part.changePort (i : Fin 4) (f : Port → Port) (p : Part) : Part :=
  let q := p.onPort i f
  if q.ports[i].state = p.ports[i].state then q
  else (q.raise .cameraState [byte i.val, q.ports[i].state.code]).gatherTest

/-! ### Abandonment (R81) -/

/-- The WRITING composite buffer becomes FREE and its record is cleared. -/
def CompositeBuffer.abandon (b : CompositeBuffer) : CompositeBuffer :=
  if b.state = .writing then { b with state := .free, record := none } else b

/-- A composition in flight is abandoned (R81). -/
def Part.abandon (p : Part) : Part :=
  match p.engine.inflight with
  | none => p
  | some _ =>
    { p with
      engine := { p.engine with
        inflight := none
        stats := #v[.zero, .zero, .zero, .zero]
        buffers := mapAll p.engine.buffers CompositeBuffer.abandon } }.releaseFrames

end Sys2Proof.Machine
end

