-- ==== Sys2Proof/Machine/Balance.lean ====
section
/-! DEFINITION. The seam balancer's update at a completion (R87 to R93). -/

namespace Sys2Proof.Machine

/-- The mean pre-gain luma of a camera in sixteenths (R89). -/
def meanOf (sum count : Nat) : Nat := 16 * sum / count

/-- A mean inside the range in which a quotient is drawn (R89). -/
def meanInRange (m : Nat) : Bool := decide (256 ≤ m ∧ m ≤ 3760)

/-- The target of a zone: the midpoint of the two gained means (R90). -/
def targetOf (ma mb ga gb : Nat) : Nat := (ma * ga / 1024 + mb * gb / 1024) / 2

/-- The report on zone `z` from its statistics and the latched gains (R88 to R90). -/
def zoneReport (gains : Vector Nat 4) (z : Fin 4) (s : ZoneStats) : ZoneReport :=
  if s.count < 2048 then { verdict := .sparse, count := s.count, target := none }
  else if meanInRange (meanOf s.sumA s.count) && meanInRange (meanOf s.sumB s.count) then
    { verdict := .valid, count := s.count
      target := some (targetOf (meanOf s.sumA s.count) (meanOf s.sumB s.count) gains[z] gains[nextCamera z]) }
  else { verdict := .outOfRange, count := s.count, target := none }

/-- The quotient of a camera in a zone with this target, from its mean (R90). -/
def quotientOf (target mean : Nat) : Nat := 1024 * target / mean

/-- The quotient of camera `c` in zone c, where it is camera a (R90); none when the zone is not valid. -/
def quotientA (zones : Vector ZoneReport 4) (stats : Vector ZoneStats 4) (c : Fin 4) : Option Nat :=
  zones[c].target.map fun t => quotientOf t (meanOf stats[c].sumA stats[c].count)

/-- The quotient of camera `c` in zone c − 1, where it is camera b (R90); none when the zone is not valid. -/
def quotientB (zones : Vector ZoneReport 4) (stats : Vector ZoneStats 4) (c : Fin 4) : Option Nat :=
  zones[c - 1].target.map fun t => quotientOf t (meanOf stats[c - 1].sumB stats[c - 1].count)

/-- The desired gain of a camera from the quotients of its two zones (R91). -/
def desiredOf : Option Nat → Option Nat → Option Nat
  | some q, some r => some ((q + r) / 2)
  | some q, none => some q
  | none, some r => some r
  | none, none => none

/-- The scaled step: the signed difference times k / 16, truncated toward zero (R92). -/
def scaledStep (desired gain k : Nat) : Int := (((desired : Int) - (gain : Int)) * (k : Int)).tdiv 16

/-- The new gain, clamped to 512..2048 (R92). -/
def steppedGain (desired gain k : Nat) : Nat := (max 512 (min 2048 ((gain : Int) + scaledStep desired gain k))).toNat

/-- The report on a camera (R93). -/
def cameraReport (desired : Option Nat) (written : Bool) : CameraReport :=
  match desired with
  | none => { desired := none, outcome := .notMade }
  | some d => { desired := some d, outcome := if written then .heldBack else .applied }

/-- The gain of a camera after an update (R92). -/
def updatedGain (desired : Option Nat) (written : Bool) (gain k : Nat) : Nat :=
  match desired with
  | none => gain
  | some d => if written then gain else steppedGain d gain k

/-- One update from the statistics and the latched gains of a completed composite (R87). -/
def Balancer.update (b : Balancer) (trigger : Half) (latched : Vector Nat 4) (stats : Vector ZoneStats 4) : Balancer :=
  let zones := Vector.ofFn fun z : Fin 4 => zoneReport latched z stats[z]
  let desired := Vector.ofFn fun c : Fin 4 => desiredOf (quotientB zones stats c) (quotientA zones stats c)
  { b with
    gains := Vector.ofFn fun c => updatedGain desired[c] b.written[c] b.gains[c] b.k
    report :=
      { trigger := trigger, zones := zones
        cameras := Vector.ofFn fun c => cameraReport desired[c] b.written[c] } }

/-- The balancer takes a completion; with the enable OFF it leaves everything as it is (R87). -/
def Balancer.takeCompletion (b : Balancer) (trigger : Half) (latched : Vector Nat 4) (stats : Vector ZoneStats 4) :
    Balancer :=
  if b.enable then b.update trigger latched stats else b

end Sys2Proof.Machine
end

