-- ==== Sys2Proof/Machine/Display.lean ====
section
/-! DEFINITION. The display port: frame requests, the choice of what is shown, the status line and the words of a
display frame (R171 to R177). -/

namespace Sys2Proof.Machine

/-- The composite record of the SHOWN buffer (R177). -/
def Engine.shownRecord (e : Engine) : Option CompositeRecord :=
  match e.find? .shown with
  | some b => e.buffers[b].record
  | none => none

/-- A composite buffer as the DONE one is taken: it becomes SHOWN and the SHOWN one FREE with an empty record (R173,
R78). -/
def CompositeBuffer.show (b : CompositeBuffer) : CompositeBuffer :=
  match b.state with
  | .done => { b with state := .shown }
  | .shown => { b with state := .free, record := none }
  | _ => b

/-- The flags byte of the status line: FROZEN, NO_COMPOSITE, NO_CALIBRATION, LOW_SUPPLY in bits 0 to 3 (R177). -/
def statusFlags (frozen noComposite noCalibration low : Bool) : Byte :=
  (if frozen then 1 else 0) ||| (if noComposite then 2 else 0) ||| (if noCalibration then 4 else 0)
    ||| (if low then 8 else 0)

/-- NO_CALIBRATION of the status line (R177). -/
def Part.noCalibrationFlag (p : Part) : Bool :=
  match p.engine.find? .shown with
  | some _ => (match p.engine.shownRecord with | some r => r.set.isNone | none => true)
  | none => p.loader.activeSet.isNone

/-- The 1280 bytes of the status line as the part stands, with the display frame counter and repeat count of the
display port (R177 and *Display status line*). -/
def Part.statusLine (p : Part) : List Byte :=
  let r := p.engine.shownRecord
  let counts : TileCounts := (r.map CompositeRecord.counts).getD { sampled := 0, blended := 0, held := 0, filled := 0 }
  let gains : Vector Nat 4 := (r.map CompositeRecord.gains).getD #v[1024, 1024, 1024, 1024]
  let present : Vector Bool 4 := (r.map CompositeRecord.present).getD #v[false, false, false, false]
  le32 p.display.counter.toNat
    ++ le16 ((r.map CompositeRecord.trigger).getD 0).toNat
    ++ [byte p.display.repeats,
        statusFlags p.display.frozen (p.engine.find? .shown).isNone p.noCalibrationFlag p.supply.low,
        setOrNone (r.bind CompositeRecord.set), byteOrNone (p.height.band.map (·.val))]
    ++ (List.finRange 4).map (fun i => p.ports[i].state.code)
    ++ [flags4 present]
    ++ (List.finRange 4).flatMap (fun i => le16 gains[i])
    ++ le16 counts.sampled ++ le16 counts.blended ++ le16 counts.held ++ le16 counts.filled
    ++ List.replicate 1249 0

/-- The display port takes a DONE buffer at this frame start: one is DONE and the supply is NORMAL (R173, R174). -/
def Part.takesDone (p : Part) : Bool := !p.supply.low && (p.engine.find? .done).isSome

/-- A display frame starts: the counter is incremented, the content chosen, and the status line fixed (R173, R174,
R176). -/
def Part.startFrame (p : Part) : Part :=
  let takes := p.takesDone
  let p1 := { p with
    engine := if takes then { p.engine with buffers := mapAll p.engine.buffers CompositeBuffer.show } else p.engine
    display := { p.display with
      counter := p.display.counter + 1
      repeats := if takes then 0 else bump255 p.display.repeats
      frozen := if takes then false else p.display.frozen } }
  let content : DisplayContent :=
    match p1.engine.find? .shown with
    | some b => .composite b
    | none => .void p1.engine.void
  { p1 with display := { p1.display with
      transfer := some { due := p.now + Config.transferTicks, statusLine := p1.statusLine, content := content } } }

/-- A frame request: dropped outside RUN; it starts a frame when the transfer is idle and is held otherwise (R172). -/
def Part.requestFrame (p : Part) : Part :=
  if p.power.state = .run then
    match p.display.transfer with
    | none => p.startFrame
    | some _ => { p with display := { p.display with held := true } }
  else p

/-- The display port takes a boundary with the mode in force (R172). -/
def Part.displayBoundary (mode : PaceMode) (p : Part) : Part :=
  let q := { p with display := { p.display with mode := mode } }
  if mode = .continuous then q.requestFrame else q

/-- The display port takes a completion: a frame request in SINGLE display mode (R172). -/
def Part.displayCompletion (p : Part) : Part := if p.display.mode = .single then p.requestFrame else p

/-- The transfer ends; a held request starts a frame at that moment (R172). -/
def Part.endTransfer (p : Part) : Part :=
  match p.display.transfer with
  | none => p
  | some t =>
    let q := { p.at t.due with display := { p.display with transfer := none } }
    if p.display.held then { q with display := { q.display with held := false } }.startFrame else q

/-- At entry into DOZE or PARKED the held request is cleared (R175). -/
def Part.displayLeavesRun (p : Part) : Part := { p with display := { p.display with held := false } }

/-! ### The words on the bus (R171) -/

/-- The luma and chroma bytes of picture word `u` of row `v`: the luma of pixel (u, v), with Cb at even and Cr at odd
columns. -/
def pictureWord (image : List TileImage) (u v : Nat) : Option (Byte × Byte) :=
  match image[v / 32 * 20 + u / 32]? with
  | none => none
  | some tile =>
    let i := u % 32
    let j := v % 32
    match tile.luma[j * 32 + i]?, (if i % 2 = 0 then tile.cb else tile.cr)[j * 16 + i / 2]? with
    | some y, some c => some (y, c)
    | _, _ => none

/-- The word `w` of line `line` of the display frame in transfer: line 0 is the status line, lines 1 to 896 are the rows
of the picture (R171). -/
def Part.busWord (p : Part) (line w : Nat) : Option (Byte × Byte) :=
  match p.display.transfer with
  | none => none
  | some t =>
    if 640 ≤ w ∨ 897 ≤ line then none
    else if line = 0 then
      match t.statusLine[2 * w]?, t.statusLine[2 * w + 1]? with
      | some y, some c => some (y, c)
      | _, _ => none
    else
      match t.content with
      | .composite b => pictureWord p.engine.buffers[b].image w (line - 1)
      | .void c => some (c.y, if w % 2 = 0 then c.cb else c.cr)

end Sys2Proof.Machine
end

