-- ==== Sys2Proof/Machine/Outputs.lean ====
section
/-! DEFINITION. The OUT lines follow what drives them: when the pad drive of a line changes, its mismatch check starts
again (R143, R146, R149, R152). Every change of parity, run state, supply state, FILLED count or line configuration
passes through `Part.follow`. -/

namespace Sys2Proof.Machine

/-- The mismatch count and flag of line `i` cleared; a flag that was set is reported as MISMATCH_CLEAR when the line
reports (R146, R149). -/
def Part.clearMismatch (i : Fin 8) (p : Part) : Part :=
  let l := p.lines.line[i]
  let q := p.onLine i fun l => { l with mismatch := 0, flag := false }
  if l.flag && l.config.report then q.raise .lineChange [byte i.val, 3] else q

/-- The fields of a record that say how an OUT line drives its pad: attribute, role and written level (R143, R152). -/
def LineConfig.drive (c : LineConfig) : LineAttr × LineRole × Bool := (c.attr, c.role, c.level)

/-- The pad drive of line `i` has changed from `before` to `p`: its intended pad level differs, or its attribute, role or
written level was changed (R146, R152; log 19). -/
def Part.driveChanged (before : Part) (i : Fin 8) (p : Part) : Bool :=
  before.intended i != p.intended i || before.lines.line[i].config.drive != p.lines.line[i].config.drive

/-- Line `i` of `p` after a change from `before`: an OUT line that stays one and whose pad drive has changed restarts its
mismatch check (R146, R152). -/
def Part.followLine (before : Part) (i : Fin 8) (p : Part) : Part :=
  if before.lines.line[i].config.out && p.lines.line[i].config.out && before.driveChanged i p then p.clearMismatch i
  else p

/-- The outputs of `after` follow the change from `before`. -/
def Part.follow (before after : Part) : Part := eachLine (Part.followLine before) after

end Sys2Proof.Machine
end

