-- ==== Sys2Proof/Machine/Complete.lean ====
section
/-! DEFINITION. The completion of a composition and what it hands over (R79, R80), and COMPOSITION_COMPLETE and
DEADLINE_EXPIRY. -/

namespace Sys2Proof.Machine

/-- The record of a composition (R78). -/
def Composition.record (c : Composition) : CompositeRecord :=
  { trigger := c.trigger, set := c.latched.set, gains := c.latched.gains, present := c.present
    occlusion := c.latched.occlusion, counts := c.counts, firstOfSet := c.firstOfSet }

/-- A composite buffer at a completion: the WRITING one becomes DONE with its record, another DONE one FREE (R79). -/
def CompositeBuffer.complete (record : CompositeRecord) (b : CompositeBuffer) : CompositeBuffer :=
  match b.state with
  | .writing => { b with state := .done, record := some record }
  | .done => { b with state := .free, record := none }
  | _ => b

/-- The composite the previous-composite pointer names has a FILLED count of 0 (R80). -/
def Engine.previousUnfilled (e : Engine) : Bool :=
  match e.previous with
  | some b => (match e.buffers[b].record with | some r => r.counts.filled == 0 | none => false)
  | none => false

/-- TILES_FILLED is raised at the completion of `c` (R80). -/
def Engine.reportsFilled (e : Engine) (c : Composition) : Bool :=
  decide (0 < c.counts.filled) && (e.firstComposite || e.previousUnfilled)

/-- Steps 1 to 3 of R79 and IDLE of step 4. -/
def Engine.commit (e : Engine) (c : Composition) : Engine :=
  { e with
    inflight := none
    tiles := c.next
    buffers := mapAll e.buffers (CompositeBuffer.complete c.record)
    previous := match e.find? .writing with | some b => some b | none => e.previous
    firstComposite := false }

/-- The line unit takes the FILLED count of a completed composite (R148, R159). -/
def Part.takeFilled (filled : Nat) (p : Part) : Part :=
  p.follow { p with lines := { p.lines with filled := some filled, awaiting := false } }

/-- The composition in flight completes (R79): the engine commits it, TILES_FILLED may be raised, the frames are
released, the balancer, the line unit and the display port take the completion, and a composition of a READY trigger
starts (log 5). -/
def Part.completeComposition (p : Part) : Part :=
  match p.engine.inflight with
  | none => p
  | some c =>
    let p1 := { p.at c.completion with
      engine := p.engine.commit c
      balancer := p.balancer.takeCompletion c.trigger c.latched.gains p.engine.stats }
    let p2 :=
      if p.engine.reportsFilled c then p1.raise .tilesFilled (le16 c.trigger.toNat ++ le16 c.counts.filled) else p1
    ((p2.releaseFrames.takeFilled c.counts.filled).displayCompletion).tryStart

/-- The armed deadline expires and is delivered to the gatherer (R43, R59). -/
def Part.deadlineExpires (p : Part) : Part :=
  match p.pace.deadline with
  | none => p
  | some d => ({ p.at d.due with pace := { p.pace with deadline := none } }).gatherDeadline d.trigger

/-- COMPOSITION_COMPLETE. -/
def execCompositionComplete (s : State) : Host.Outcome State Fault Refusal := s.act Part.completeComposition

/-- DEADLINE_EXPIRY. -/
def execDeadlineExpiry (s : State) : Host.Outcome State Fault Refusal := s.act Part.deadlineExpires

/-- TRANSFER_END (R172). -/
def execTransferEnd (s : State) : Host.Outcome State Fault Refusal := s.act Part.endTransfer

end Sys2Proof.Machine
end

