-- ==== Sys2Proof/Machine/Flash.lean ====
section
/-! DEFINITION. The flash as the store and the loader see it: places of sets, rows and records, mark rows and their
conditions, the byte sum, and what a cut step leaves (R120 to R123). -/

namespace Sys2Proof.Machine

/-- What erased flash reads as (R120, R121). -/
def blankByte : Byte := 0xFF

/-- The first address of set `s`: six sectors of 4 KiB for each set (R120). -/
def setBase (s : Fin 8) : Nat := 24576 * s.val

/-- The first address of row `r` of set `s` (R120). -/
def rowBase (s : Fin 8) (r : Nat) : Nat := setBase s + 256 * r

/-- The address of byte `b` of the record stream of set `s`: the stream begins at row 4 (R120). -/
def streamBase (s : Fin 8) (b : Nat) : Nat := rowBase s 4 + b

/-- Sector `e` (0..5) of set `s`. -/
def sectorOf (s : Fin 8) (e : Nat) : Fin 48 := ⟨(6 * s.val + e) % 48, Nat.mod_lt _ (by decide)⟩

/-- The set that sector `q` belongs to. -/
def setOfSector (q : Fin 48) : Fin 8 := ⟨q.val / 6, by omega⟩

/-- The byte sum modulo 2^32 (R121). -/
def byteSum (bytes : List Byte) : Word := bytes.foldl (fun acc b => acc + b.setWidth 32) 0

/-- The open, lock and retire marks: the verification pattern and 240 bytes FFh (R121, *Mark rows*). -/
def plainMarkRow : List Byte := Config.pattern ++ List.replicate 240 blankByte

/-- The complete mark with a sum: pattern, count 560, sum, complement of the sum, FFh (R121, *Mark rows*). -/
def completeMarkRow (sum : Word) : List Byte :=
  Config.pattern ++ le16 560 ++ le32 sum.toNat ++ le32 (~~~sum).toNat ++ List.replicate 230 blankByte

/-- The condition of a mark row that should hold `image` when set (R121). -/
def markCondition (image row : List Byte) : MarkCondition :=
  if row = List.replicate 256 blankByte then .blank else if row = image then .set else .torn

/-- The sum field of a complete mark row. -/
def sumField (row : List Byte) : Word :=
  word (row[18]?.getD 0) (row[19]?.getD 0) (row[20]?.getD 0) (row[21]?.getD 0)

/-- Row `r` of set `s` as it stands in flash. -/
def flashRow (flash : Memory) (s : Fin 8) (r : Nat) : List Byte := flash.readAll blankByte (rowBase s r) 256

/-- What the mark rows of set `s` say as they stand in flash (R121, R122). -/
def entryFromFlash (flash : Memory) (s : Fin 8) : SetEntry :=
  let row := flashRow flash s 1
  let complete := markCondition (completeMarkRow (sumField row)) row
  { openMark := markCondition plainMarkRow (flashRow flash s 0)
    completeMark := complete
    lockMark := markCondition plainMarkRow (flashRow flash s 2)
    retireMark := markCondition plainMarkRow (flashRow flash s 3)
    sum := if complete = .set then some (sumField row) else none }

/-- The 40 bytes of record `t` of set `s` as they stand in flash (R120, R138). -/
def recordBytes (flash : Memory) (s : Fin 8) (t : Nat) : List Byte := flash.readAll blankByte (streamBase s (40 * t)) 40

/-- The 560 records of set `s` as they stand in flash, in index order (R3). -/
def recordsFromFlash (flash : Memory) (s : Fin 8) : List TileRecord :=
  (List.range 560).map fun t => TileRecord.ofBytes (recordBytes flash s t)

/-- The byte sum of the 22,400 record bytes of set `s` as they stand in flash (R112). -/
def sumFromFlash (flash : Memory) (s : Fin 8) : Word := byteSum (flash.readAll blankByte (streamBase s 0) 22400)

/-- A row of 256 bytes: the bytes given, followed by FFh (R120, R132). -/
def paddedRow (bytes : List Byte) : List Byte := bytes ++ List.replicate (256 - bytes.length) blankByte

/-- Flash with row `r` of set `s` programmed (R123). -/
def programRow (flash : Memory) (s : Fin 8) (r : Nat) (bytes : List Byte) : Memory :=
  flash.writeAll blankByte (rowBase s r) bytes

/-- Flash with a sector erased (R123). -/
def eraseSector (flash : Memory) (q : Fin 48) : Memory := flash.clear (4096 * q.val) 4096

/-- 256 bytes that may be anything: draw `n` of the free value, by address (R123; log 8). -/
def anyRow (n base : Nat) : List Byte := (List.range 256).map fun k => Config.freeByte n (base + k)

/-- Flash with the row at `base` left as anything, unless it is blank (a cut erase, R123). -/
def cutErasedRow (n : Nat) (flash : Memory) (base : Nat) : Memory :=
  if flash.readAll blankByte base 256 = List.replicate 256 blankByte then flash
  else flash.writeAll blankByte base (anyRow n base)

/-- Flash after an erase of sector `q` was cut (R123). -/
def cutErase (n : Nat) (flash : Memory) (q : Fin 48) : Memory :=
  (List.range 16).foldl (fun m r => cutErasedRow n m (4096 * q.val + 256 * r)) flash

/-- Flash after a program of row `r` of set `s` was cut (R123). -/
def cutProgram (n : Nat) (flash : Memory) (s : Fin 8) (r : Nat) : Memory :=
  programRow flash s r (anyRow n (rowBase s r))

/-- Flash after a running step was cut (R123, R141). -/
def cutStep (n : Nat) (flash : Memory) : StepKind → Memory
  | .erase q => cutErase n flash q
  | .recordRow s r => cutProgram n flash s r
  | .openMark s => cutProgram n flash s 0
  | .completeMark s _ => cutProgram n flash s 1
  | .lockMark s => cutProgram n flash s 2
  | .retireMark s => cutProgram n flash s 3

end Sys2Proof.Machine
end

