-- ==== Sys2Proof/Machine/Loading.lean ====
section
/-! DEFINITION. The set loader and its side of the flash arbiter: set requests, loads and their outcomes, the scan after
a reset and the start-up request (R110 to R115, R124, R125). -/

namespace Sys2Proof.Machine

/-- Nobody holds the flash and nobody waits for it: an asking user takes it at once (R125). -/
def Store.flashFree (t : Store) : Bool := t.holder == .nobody && t.line.isEmpty

/-- The flash released by the loader, if it holds it. -/
def Store.releaseLoader (t : Store) : Store := if t.holder = .loader then { t with holder := .nobody } else t

/-- The loader withdrawn from the arbiter's line (R125). -/
def Store.withdrawLoader (t : Store) : Store := { t with line := t.line.filter (· != .loader) }

/-- The loader IDLE with the standby table EMPTY. -/
def Loader.cleared (l : Loader) : Loader := { l with state := .idle, standby := .empty }

/-- Whatever the loader holds is dropped: a waiting request withdrawn, a load abandoned, a staged table lost (R110). -/
def Part.dropLoad (p : Part) : Part :=
  let store :=
    match p.loader.state with
    | .waitingStore _ => p.store.withdrawLoader
    | .loading _ _ _ => p.store.releaseLoader
    | _ => p.store
  { p with store := store, loader := p.loader.cleared }

/-- The loader takes the flash and begins to read set `s` (R112). -/
def Part.beginLoad (s : Fin 8) (p : Part) : Part :=
  { p with
    store := { p.store with holder := .loader }
    loader := { p.loader with state := .loading s p.now false, standby := .loading s } }

/-- The loader asks the arbiter for the flash to read set `s` (R112, R125). -/
def Part.askLoad (s : Fin 8) (p : Part) : Part :=
  if p.store.flashFree then p.beginLoad s
  else
    { p with
      store := { p.store with line := p.store.line ++ [.loader] }
      loader := { p.loader with state := .waitingStore s } }

/-- SET_UNUSABLE is raised with reason, cause and record index, and NO_CALIBRATION when no set is active (R113). -/
def Part.setUnusable (s : Fin 8) (reason cause : Byte) (index : Option Nat) (p : Part) : Part :=
  let q := p.raise .setUnusable ([byte s.val, reason, cause] ++ le16OrNone index)
  if q.loader.activeSet.isNone then q.raise .noCalibration [byte s.val] else q

/-- The loader takes a request for set `s` (R110, R111). -/
def Part.requestSet (s : Fin 8) (p : Part) : Part :=
  if p.loader.activeSet = some s then p.dropLoad
  else if p.loader.state.set? = some s then p
  else
    let q := p.dropLoad
    if q.loader.damaged[s] then q.setUnusable s 2 0 none
    else if q.store.sessionOn s then q.setUnusable s 1 0 none
    else q.askLoad s

/-- The arbiter hands the flash to the loader at the head of the line (R112, R125). -/
def Part.loadStarts (p : Part) : Part :=
  match p.loader.state, p.store.holder, p.store.line with
  | .waitingStore s, .nobody, .loader :: rest => { p with store := { p.store with line := rest } }.beginLoad s
  | _, _, _ => p

/-- A load has failed: the flash is released, the loader IDLE and the standby table EMPTY (R113). -/
def Part.failLoad (p : Part) : Part := { p with store := p.store.releaseLoader, loader := p.loader.cleared }

/-- 0.2 ms into a load the mark rows have been read (R112, R113). -/
def Part.loadMarksRead (p : Part) : Part :=
  match p.loader.state with
  | .loading s start false =>
    let p := p.at (start + Config.marksTicks)
    if (entryFromFlash p.store.flash s).state = .complete then
      { p with loader := { p.loader with state := .loading s start true } }
    else p.failLoad.setUnusable s 1 0 none
  | _ => p

/-- Set `s` marked DAMAGED in the set-status table (R113). -/
def Loader.markDamaged (s : Fin 8) (l : Loader) : Loader := { l with damaged := l.damaged.set s true }

/-- The first ill-formed record of a list (R113). -/
def firstIllFormed (rs : List TileRecord) : Option Nat := rs.findIdx? fun r => !r.wellFormed

/-- A load failed on form or sum: DAMAGED and SET_UNUSABLE with the cause (R113). -/
def Part.loadDamaged (s : Fin 8) (cause : Byte) (index : Option Nat) (p : Part) : Part :=
  let q := p.failLoad
  { q with loader := q.loader.markDamaged s }.setUnusable s 2 cause index

/-- The end of the read: the load passes to STAGED or fails on form or sum (R112, R113). -/
def Part.loadEnds (p : Part) : Part :=
  match p.loader.state with
  | .loading s start true =>
    let p := p.at (start + Config.loadTicks)
    let records := recordsFromFlash p.store.flash s
    match firstIllFormed records with
    | some t => p.loadDamaged s 1 (some t)
    | none =>
      if (entryFromFlash p.store.flash s).sum = some (sumFromFlash p.store.flash s) then
        { p with
          store := p.store.releaseLoader
          loader := { p.loader with state := .staged s, standby := .holding s records } }
      else p.loadDamaged s 2 none
  | _ => p

/-- The lowest-numbered set that the directory shows COMPLETE (R115). -/
def Store.firstComplete (t : Store) : Option (Fin 8) := (List.finRange 8).find? fun s => t.setState s == .complete

/-- The start-up request (R115). -/
def Part.startUpRequest (p : Part) : Part :=
  match p.store.firstComplete with
  | some s => p.requestSet s
  | none => p.raise .noCalibration [0xFF]

/-- The scan after a reset ends: the directory is built, the flash released, and the loader makes its start-up request
(R115, R124). -/
def Part.scanEnds (p : Part) : Part :=
  match p.store.holder with
  | .scan due =>
    let p := p.at due
    { p with store := { p.store with
        holder := .nobody
        directory := Vector.ofFn fun s => entryFromFlash p.store.flash s } }.startUpRequest
  | _ => p

/-- LOAD_START (R112). -/
def execLoadStart (s : State) : Host.Outcome State Fault Refusal := s.act Part.loadStarts

/-- LOAD_MARKS_READ (R112). -/
def execLoadMarksRead (s : State) : Host.Outcome State Fault Refusal := s.act Part.loadMarksRead

/-- LOAD_END (R113). -/
def execLoadEnd (s : State) : Host.Outcome State Fault Refusal := s.act Part.loadEnds

/-- SCAN_END (R124). -/
def execScanEnd (s : State) : Host.Outcome State Fault Refusal := s.act Part.scanEnds

end Sys2Proof.Machine
end

