-- ==== Sys2Proof/Machine/Heights.lean ====
section
/-! DEFINITION. The height monitor: its filter, edges and readings, the window and its mean, the band decision, the
silence timer, and what the power state does to it (R102 to R109, R116). -/

namespace Sys2Proof.Machine

/-! ### Readings (R103, R104) -/

/-- The duty of a reading in permille (R103); a period of 0 µs has no quotient (log 15). -/
def dutyOf (active period : Nat) : Nat :=
  if period = 0 then Config.dutyOfNoPeriod active else 1000 * active / period

/-- The verdict on a reading with a signal (R104). -/
def verdictOf (duty period : Nat) : ReadingVerdict :=
  if period < 1000 ∨ 10000 < period then .periodRange
  else if duty < 50 ∨ 950 < duty then .dutyRange
  else .valid

/-- The reading that an active time and a period give. -/
def readingOf (active period : Nat) : Reading :=
  { duty := dutyOf active period, period := period, verdict := verdictOf (dutyOf active period) period }

/-- The reading of a silence (R104). -/
def noSignalReading : Reading := { duty := 0, period := 0, verdict := .noSignal }

/-- The window after a valid reading joins its tail (R105). -/
def joinWindow (window : List Nat) (duty : Nat) : List Nat :=
  (if 8 ≤ window.length then window.drop 1 else window) ++ [duty]

/-! ### Bands (R107, R108) -/

/-- Boundary b_j of the configuration, j = 1, 2, 3. -/
def HeightConfig.boundary (c : HeightConfig) (j : Nat) : Nat := if j = 1 then c.b1 else if j = 2 then c.b2 else c.b3

/-- The boundaries in use (R107). -/
def HeightConfig.inUse (c : HeightConfig) : List Nat := [c.b1, c.b2, c.b3].take (c.bands - 1)

/-- The band of a fresh decision: how many boundaries in use are at most the mean (R108). -/
def HeightConfig.freshBand (c : HeightConfig) (mean : Nat) : Fin 4 :=
  ⟨min 3 (c.inUse.filter fun b => decide (b ≤ mean)).length, by omega⟩

/-- The largest band above `k` whose upward threshold the mean has reached (R108). -/
def HeightConfig.upward (c : HeightConfig) (k : Fin 4) (mean : Nat) : Option (Fin 4) :=
  (([1, 2, 3] : List (Fin 4)).filter fun j =>
    decide (k < j ∧ j.val < c.bands ∧ c.boundary j.val + c.hysteresis ≤ mean)).getLast?

/-- The smallest band below `k` whose downward threshold the mean is under (R108). -/
def HeightConfig.downward (c : HeightConfig) (k : Fin 4) (mean : Nat) : Option (Fin 4) :=
  (([0, 1, 2] : List (Fin 4)).filter fun j =>
    decide (j < k ∧ j.val + 1 < c.bands ∧ mean + c.hysteresis < c.boundary (j.val + 1))).head?

/-- The band of a decision with hysteresis from band `k` (R108). -/
def HeightConfig.heldBand (c : HeightConfig) (k : Fin 4) (mean : Nat) : Fin 4 :=
  match c.upward k mean with
  | some j => j
  | none => (c.downward k mean).getD k

/-- The band is decided as `b` from a mean: a band change raises BAND_CHANGE (R108). -/
def Part.setBand (b : Fin 4) (mean : Nat) (p : Part) : Part :=
  if p.height.band = some b then p
  else
    { p with height := { p.height with band := some b } }.raise .bandChange
      ([byteOrNone (p.height.band.map Fin.val), byte b.val] ++ le16 mean)

/-- The band is decided, and in AUTO a band change requests the mapped set (R108, R109). -/
def Part.decideBand (b : Fin 4) (mean : Nat) (p : Part) : Part :=
  if p.height.band = some b ∨ p.height.config.auto = false then p.setBand b mean
  else (p.setBand b mean).requestSet p.height.config.map[b]

/-- The band that a mean gives: with hysteresis in TRACKING, fresh otherwise (R106, R108; log 27). -/
def Height.bandFor (h : Height) (mean : Nat) : Fin 4 :=
  match h.state, h.band with
  | .tracking, some k => h.config.heldBand k mean
  | _, _ => h.config.freshBand mean

/-! ### Taking a reading (R104 to R106) -/

/-- A valid reading: it joins the window, and a full window forms a mean that is decided (R104 to R106). -/
def Part.takeValid (r : Reading) (p : Part) : Part :=
  let w := joinWindow p.height.window r.duty
  let h := { p.height with lastReading := some r, invalid := 0, window := w }
  if w.length = 8 then
    let mean := w.sum / 8
    { p with height := { h with lastMean := some mean, state := .tracking } }.decideBand (p.height.bandFor mean) mean
  else { p with height := h }

/-- An invalid reading: the third in a row empties the window and brings FAULT (R104, R106). -/
def Part.takeInvalid (r : Reading) (p : Part) : Part :=
  let h := { p.height with lastReading := some r }
  if p.height.invalid + 1 < 3 then { p with height := { h with invalid := p.height.invalid + 1 } }
  else
    let q := { p with height := { h with invalid := 0, window := [], state := .fault } }
    if p.height.state = .fault then q else q.raise .heightFault [r.verdict.code]

/-- A reading is taken (R104). -/
def Part.takeReading (r : Reading) (p : Part) : Part :=
  if r.verdict = .valid then p.takeValid r else p.takeInvalid r

/-! ### The filter (R102) -/

/-- The run of equal samples after one more sample. -/
def SampleRun.add (level : Bool) (run : Option SampleRun) : SampleRun :=
  match run with
  | some r => if r.level = level then { r with length := min 4 (r.length + 1) } else { level := level, length := 1 }
  | none => { level := level, length := 1 }

/-- The filter takes one sample of HGT: the fourth in a row of a level makes it the accepted level (R102). -/
def Height.sample (level : Bool) (h : Height) : Height :=
  let run := SampleRun.add level h.run
  { h with run := some run, accepted := if run.length = 4 then some level else h.accepted }

/-- The filter takes the samples of an acceptance at `t` µs, which read `level` at `t` and at the three µs before it;
the accepting moment is the fourth (R102). -/
def Height.fourSamples (level : Bool) (t : Nat) (h : Height) : Height :=
  { (((h.sample level).sample level).sample level).sample level with filterSince := t }

/-- The filter can have read four samples since its last acceptance or its start, and it is not stopped (R102). -/
def Height.mayAccept (t : Nat) (h : Height) : Bool := h.state != .stopped && decide (h.filterSince + 4 ≤ t)

/-- The filter can accept an edge to `level` at `t` µs: from the other accepted level (R102). -/
def Height.edgeTo (level : Bool) (t : Nat) (h : Height) : Bool := h.mayAccept t && h.accepted == some (!level)

/-! ### Edges and silence (R102, R103) -/

/-- The time in µs of an acceptance stamped `micros`: not before the clock (log 15). -/
def Part.edgeMicros (micros : Nat) (p : Part) : Nat := max micros (p.now / Config.ticksPerMicro)

/-- A level accepted at `t` µs: the clock stands at it (R102). -/
def Part.acceptLevel (level : Bool) (t : Nat) (p : Part) : Part :=
  { p.at (t * Config.ticksPerMicro) with height := p.height.fourSamples level t }

/-- An accepted edge to `level` at `t` µs: it restarts the silence timer (R103). -/
def Part.acceptEdge (level : Bool) (t : Nat) (p : Part) : Part :=
  let q := p.acceptLevel level t
  { q with height := { q.height with silence := some (q.now + Config.silenceTicks) } }

/-- An active edge: it starts a measurement, or completes a reading and starts the next (R103). -/
def Part.activeEdge (micros : Nat) (p : Part) : Part :=
  let t := p.edgeMicros micros
  if p.height.edgeTo p.height.config.polarity t then
    let q := p.acceptEdge p.height.config.polarity t
    let q := { q with height := { q.height with heldEdge := some t } }
    match p.height.heldEdge with
    | none => q
    | some since => q.takeReading (readingOf p.height.activeTime (t - since))
  else p

/-- An inactive edge: the active time of the pulse in progress stands (R103). -/
def Part.inactiveEdge (micros : Nat) (p : Part) : Part :=
  let t := p.edgeMicros micros
  if p.height.edgeTo (!p.height.config.polarity) t then
    let q := p.acceptEdge (!p.height.config.polarity) t
    match p.height.heldEdge with
    | none => q
    | some since => { q with height := { q.height with activeTime := t - since } }
  else p

/-- The first level accepted after a reset or after STOPPED sets the accepted level and is no edge (R102). -/
def Part.firstLevel (first : FirstLevel) (p : Part) : Part :=
  let t := p.edgeMicros first.micros
  if p.height.accepted.isNone && p.height.mayAccept t then p.acceptLevel first.level t else p

/-- The silence timer expires: a NO_SIGNAL reading, the held edge let go, the timer restarted (R103). -/
def Part.silenceExpires (p : Part) : Part :=
  match p.height.silence with
  | none => p
  | some t =>
    let q := p.at t
    { q with height := { q.height with heldEdge := none, silence := some (q.now + Config.silenceTicks) } }.takeReading
      noSignalReading

/-! ### The power state (R116) -/

/-- The monitor at entry into PARKED (R116). -/
def Height.stop (h : Height) : Height :=
  { h with state := .stopped, silence := none, heldEdge := none, window := [], invalid := 0 }

/-- The monitor at leaving PARKED at tick `now`: its filter starts with no accepted level (R103, R116). -/
def Height.restart (now : Nat) (h : Height) : Height :=
  { h with
    state := .filling
    accepted := none
    run := none
    filterSince := now / Config.ticksPerMicro
    silence := some (now + Config.silenceTicks) }

/-! ### The values of HEIGHT_CONFIGURE (R117) -/

/-- The band layouts are the same: band count, boundaries in use and hysteresis (R107; log 34). -/
def HeightConfig.sameLayout (c d : HeightConfig) : Bool :=
  c.bands == d.bands && c.inUse == d.inUse && c.hysteresis == d.hysteresis

/-- Neighbouring boundaries in use lie at least 2 × hy + 1 apart (R107, R117). -/
def spaced (hysteresis : Nat) : List Nat → Bool
  | a :: b :: rest => decide (a + 2 * hysteresis + 1 ≤ b) && spaced hysteresis (b :: rest)
  | _ => true

/-- A polarity change: the held edge let go, the window emptied, the invalid count 0, FILLING but for FAULT and STOPPED
(R103, R117). -/
def Height.changePolarity (now : Nat) (h : Height) : Height :=
  { h with
    heldEdge := none
    window := []
    invalid := 0
    silence := if h.state = .stopped then h.silence else some (now + Config.silenceTicks)
    state := if h.state = .tracking then .filling else h.state }

/-- In AUTO the mapped set of a band below the band count is requested (R117). -/
def Part.requestMapped (p : Part) : Part :=
  match p.height.band with
  | some b =>
    if p.height.config.auto = true ∧ b.val < p.height.config.bands then p.requestSet p.height.config.map[b] else p
  | none => p

/-- A band layout change in TRACKING with the polarity unchanged: the last mean is decided fresh (R117). -/
def Part.redecide (p : Part) : Part :=
  match p.height.state, p.height.lastMean with
  | .tracking, some mean => p.setBand (p.height.config.freshBand mean) mean
  | _, _ => p

/-- The accepted values of HEIGHT_CONFIGURE act at once (R117). -/
def Part.applyHeight (c : HeightConfig) (p : Part) : Part :=
  let old := p.height.config
  let q := { p with height := { p.height with config := c } }
  let q :=
    if old.polarity != c.polarity then { q with height := q.height.changePolarity q.now }
    else if old.sameLayout c then q
    else q.redecide
  q.requestMapped

/-! ### The commands -/

/-- HGT_ACTIVE_EDGE (R103). -/
def execHgtActiveEdge (micros : Nat) (s : State) : Host.Outcome State Fault Refusal := s.act (Part.activeEdge micros)

/-- HGT_INACTIVE_EDGE (R103). -/
def execHgtInactiveEdge (micros : Nat) (s : State) : Host.Outcome State Fault Refusal :=
  s.act (Part.inactiveEdge micros)

/-- HGT_FIRST_LEVEL_ACCEPTED (R102). -/
def execHgtFirstLevelAccepted (first : FirstLevel) (s : State) : Host.Outcome State Fault Refusal :=
  s.act (Part.firstLevel first)

/-- SILENCE_EXPIRY (R103). -/
def execSilenceExpiry (s : State) : Host.Outcome State Fault Refusal := s.act Part.silenceExpires

end Sys2Proof.Machine
end

