-- ==== Sys2Proof/Machine/Ports.lean ====
section
/-! DEFINITION. The camera ports: reception into the frame buffers, the timers, recovery, camera power and its fault,
and what supply and power state do to a port (R19 to R35). -/

namespace Sys2Proof.Machine

/-! ### Frame buffers -/

/-- The port with frame buffer `b` changed. -/
def Port.onBuffer (b : Fin 3) (f : FrameBuffer → FrameBuffer) (q : Port) : Port :=
  { q with buffers := update q.buffers b f }

/-- Buffer `b` becomes FREE. -/
def Port.freeBuffer (b : Fin 3) (q : Port) : Port := q.onBuffer b fun f => { f with state := .free }

/-- A FILLING or READY buffer becomes FREE. -/
def FrameBuffer.dropped (f : FrameBuffer) : FrameBuffer :=
  if f.state = .filling ∨ f.state = .ready then { f with state := .free } else f

/-- The port's FILLING frame is abandoned without an event and its READY buffers become FREE (R26). -/
def Port.clearBuffers (q : Port) : Port := { q with buffers := mapAll q.buffers FrameBuffer.dropped, ready := [] }

/-- A buffer taken for a new frame with the tag given (R21). -/
def FrameBuffer.begin (tag : Half) (f : FrameBuffer) : FrameBuffer :=
  { f with state := .filling, tag := tag, broken := none, lines := 0, data := [] }

/-- The new frame takes the lowest-numbered FREE buffer, or else the oldest READY one (R21; log 27). -/
def Port.beginFrame (tag : Half) (q : Port) : Port :=
  match q.free? with
  | some b => q.onBuffer b (FrameBuffer.begin tag)
  | none =>
    match q.ready with
    | b :: rest => { q with ready := rest }.onBuffer b (FrameBuffer.begin tag)
    | [] => q

/-- The detail of FRAME_BROKEN: port, tag, cause. -/
def brokenDetail (i : Fin 4) (tag : Half) (cause : Byte) : List Byte := byte i.val :: (le16 tag.toNat ++ [cause])

/-- A FILLING frame of port `i` met by a new FRAME START is abandoned (R21). -/
def Part.abandonFrame (i : Fin 4) (p : Part) : Part :=
  match p.ports[i].filling? with
  | none => p
  | some b => (p.onPort i (Port.freeBuffer b)).raise .frameBroken (brokenDetail i p.ports[i].buffers[b].tag 1)

/-- A FRAME START arrives at port `i` (R21). -/
def Part.takeFrameStart (i : Fin 4) (p : Part) : Part :=
  if p.receiving i then (p.abandonFrame i).onPort i (Port.beginFrame p.pace.trigger) else p

/-- The length of a line: its sample count divided by 2 (R19). -/
def lineLength (samples : List Byte) : Nat := samples.length / 2

/-- The broken flag after a fault found: the first cause stays (R22). -/
def markBroken (old : Option BrokenCause) (fault : Bool) (cause : BrokenCause) : Option BrokenCause :=
  match old with
  | some c => some c
  | none => if fault then some cause else none

/-- A LINE packet taken into a FILLING buffer (R22). At a line count of 960 a packet of another length than 1280 finds
the cause EXTRA_LINES: the model's choice between the two that R22 allows (log 37). -/
def FrameBuffer.takeLine (samples : List Byte) (f : FrameBuffer) : FrameBuffer :=
  if f.lines < 960 then
    { f with
      lines := f.lines + 1
      data := f.data ++ [samples.take 2560]
      broken := markBroken f.broken (lineLength samples != 1280) .lineLength }
  else { f with broken := markBroken f.broken true .extraLines }

/-- A LINE packet arrives at port `i` (R22). -/
def Part.takeLine (i : Fin 4) (samples : List Byte) (p : Part) : Part :=
  if p.receiving i then
    match p.ports[i].filling? with
    | some b => p.onPort i (Port.onBuffer b (FrameBuffer.takeLine samples))
    | none => p
  else p

/-! ### Timers and states -/

/-- The watchdog of a port as R30 allows it: running for the full interval, or held at zero. -/
def Part.watchdogTimer (p : Part) (q : Port) : PortTimer :=
  if p.watchdogRuns then .running (p.afterMillis q.watchdog) else .held

/-- The port in POWERING at tick `now`: CPWRn on, the settle timer started at the configured time (R28, R33). -/
def Port.powerUp (now : Nat) (q : Port) : Port :=
  { q with
    state := .powering
    power := true
    timer := .running (now + q.settle * Config.ticksPerMilli)
    faultCount := if q.power then q.faultCount else 0 }

/-- The port out of service in state `st` (OFF, RECOVERING or FAILED): CPWRn off, the timer stopped, the buffers
cleared (R26, R33). -/
def Port.powerDown (st : PortState) (q : Port) : Port :=
  { q.clearBuffers with state := st, power := false, timer := .stopped, faultCount := 0 }

/-- A good frame end at port `i`, whose frame is in buffer `b`: the buffer becomes READY and joins the list; WAITING and
STALLED become LIVE; the watchdog restarts; the gatherer is told (R23, R29, R58). CAMERA_STATE comes before what a
composition start raises (log 21). -/
def Part.goodFrameEnd (i : Fin 4) (b : Fin 3) (p : Part) : Part :=
  let q := p.ports[i]
  let q' := { q.onBuffer b (fun f => { f with state := .ready }) with
    ready := q.ready ++ [b]
    state := .live
    attempts := if q.state = .live then q.attempts else 0
    timer := p.watchdogTimer q }
  let p1 := p.onPort i fun _ => q'
  (if q.state = .live then p1 else p1.raise .cameraState [byte i.val, PortState.live.code]).gatherTest

/-- A broken frame end at port `i` (R23). -/
def Part.brokenFrameEnd (i : Fin 4) (b : Fin 3) (p : Part) : Part :=
  let f := p.ports[i].buffers[b]
  let cause : Byte := match f.broken with | some c => c.code | none => 4
  (p.onPort i (Port.freeBuffer b)).raise .frameBroken (brokenDetail i f.tag cause)

/-- A frame is good when its broken flag is clear and 960 lines are stored (R23). -/
def FrameBuffer.good (f : FrameBuffer) : Bool := f.broken.isNone && f.lines == 960

/-- A FRAME END arrives at port `i` (R23). -/
def Part.takeFrameEnd (i : Fin 4) (p : Part) : Part :=
  if p.receiving i then
    match p.ports[i].filling? with
    | some b => if p.ports[i].buffers[b].good then p.goodFrameEnd i b else p.brokenFrameEnd i b
    | none => p
  else p

/-- An attempt step of port `i` (R32). -/
def Part.attemptStep (i : Fin 4) (p : Part) : Part :=
  if p.ports[i].attempts < p.ports[i].limit then
    p.changePort i fun q =>
      { q.powerDown .recovering with
        attempts := q.attempts + 1, timer := .running (p.afterMillis Config.recoveryMillis) }
  else p.changePort i fun q => q.powerDown .failed

/-- The tick at which the running timer of port `i` expires. -/
def Port.due? (q : Port) : Option Nat :=
  match q.timer with
  | .running t => some t
  | _ => none

/-- The settle timer of port `i` expires (R28). -/
def Part.settleExpires (i : Fin 4) (p : Part) : Part :=
  match p.ports[i].state, p.ports[i].due? with
  | .powering, some t =>
    let p := p.at t
    p.changePort i fun q => { q with state := .waiting, timer := p.watchdogTimer q }
  | _, _ => p

/-- The frame watchdog of port `i` expires (R31). -/
def Part.watchdogExpires (i : Fin 4) (p : Part) : Part :=
  match p.ports[i].state, p.ports[i].due? with
  | .live, some t =>
    let p := p.at t
    p.changePort i fun q => { q with state := .stalled, timer := p.watchdogTimer q }
  | .stalled, some t => (p.at t).attemptStep i
  | .waiting, some t => (p.at t).attemptStep i
  | _, _ => p

/-- The recovery timer of port `i` expires (R32). -/
def Part.recoveryExpires (i : Fin 4) (p : Part) : Part :=
  match p.ports[i].state, p.ports[i].due? with
  | .recovering, some t =>
    let p := p.at t
    p.changePort i (Port.powerUp p.now)
  | _, _ => p

/-- A timer that runs in WAITING, LIVE or STALLED is held while R30 does not allow it, and one that was held starts from
zero when R30 allows it again. -/
def Part.syncTimer (p : Part) (q : Port) : Port :=
  if q.state.watches then
    match p.watchdogRuns, q.timer with
    | true, .running t => { q with timer := .running t }
    | true, _ => { q with timer := .running (p.afterMillis q.watchdog) }
    | false, _ => { q with timer := .held }
  else q

/-- The watchdogs follow a change of run state or supply state (R30, R48). -/
def Part.syncWatchdogs (p : Part) : Part := { p with ports := mapAll p.ports p.syncTimer }

/-! ### Camera power (R33) -/

/-- The power fault of port `i` is taken: FAILED, CPWRn off, CAMERA_STATE and POWER_FAULT (R33). What the gather does at
the change of state, a SET_SWITCHED among it, comes before POWER_FAULT (log 21). -/
def Part.takePowerFault (i : Fin 4) (p : Part) : Part :=
  (p.changePort i (Port.powerDown .failed)).raise .powerFault [byte i.val]

/-- A CSNSn sample of port `i` (R33). The twentieth sample in a row that reads off takes the power fault. -/
def Part.takeCsns (i : Fin 4) (level : Bool) (p : Part) : Part :=
  let p1 := p.onPort i fun q => { q with csns := level }
  if p.ports[i].power && !p.supply.low && !level then
    if 20 ≤ p.ports[i].faultCount + 1 then p1.takePowerFault i
    else p1.onPort i fun q => { q with faultCount := q.faultCount + 1 }
  else p1.onPort i fun q => { q with faultCount := 0 }

/-! ### Supply and power state (R34, R35) -/

/-- The ports at entry into supply LOW: buffers cleared, power fault counts at 0, watchdogs held (R34). -/
def Part.portsGoLow (p : Part) : Part :=
  { p with ports := mapAll p.ports fun q => { q.clearBuffers with faultCount := 0 } }.syncWatchdogs

/-- The states from which a supply restore sends a port to POWERING (R34). -/
def PortState.settlesAgain : PortState → Bool
  | .powering | .waiting | .live | .stalled => true
  | _ => false

/-- Port `i` at the return to NORMAL (R34). -/
def Part.portRestored (i : Fin 4) (p : Part) : Part :=
  if p.ports[i].state.settlesAgain then p.changePort i (Port.powerUp p.now) else p

/-- Port `i` at entry into PARKED: OFF, but FAILED stays FAILED (R35). -/
def Part.portParked (i : Fin 4) (p : Part) : Part :=
  if p.ports[i].state = .failed then p else p.changePort i (Port.powerDown .off)

/-- Port `i`, if OFF, is taken as by PORT_POWER on (R37, R150). -/
def Part.portPoweredOn (i : Fin 4) (p : Part) : Part :=
  if p.ports[i].state = .off then p.changePort i (fun q => { q.powerUp p.now with attempts := 0 }) else p

/-! ### The commands -/

/-- FRAME_START (R21). -/
def execFrameStart (i : Fin 4) (s : State) : Host.Outcome State Fault Refusal := s.act (Part.takeFrameStart i)

/-- LINE_PACKET (R22). -/
def execLinePacket (i : Fin 4) (samples : List Byte) (s : State) : Host.Outcome State Fault Refusal :=
  s.act (Part.takeLine i samples)

/-- FRAME_END (R23). -/
def execFrameEnd (i : Fin 4) (s : State) : Host.Outcome State Fault Refusal := s.act (Part.takeFrameEnd i)

/-- SETTLE_EXPIRY (R28). -/
def execSettleExpiry (i : Fin 4) (s : State) : Host.Outcome State Fault Refusal := s.act (Part.settleExpires i)

/-- WATCHDOG_EXPIRY (R31). -/
def execWatchdogExpiry (i : Fin 4) (s : State) : Host.Outcome State Fault Refusal := s.act (Part.watchdogExpires i)

/-- RECOVERY_EXPIRY (R32). -/
def execRecoveryExpiry (i : Fin 4) (s : State) : Host.Outcome State Fault Refusal := s.act (Part.recoveryExpires i)

/-- CSNS_SAMPLE (R33). -/
def execCsnsSample (i : Fin 4) (level : Bool) (s : State) : Host.Outcome State Fault Refusal :=
  s.act (Part.takeCsns i level)

/-- POWER_FAULT: the twentieth consecutive sample that reads off (R33; log 4). -/
def execPowerFault (i : Fin 4) (s : State) : Host.Outcome State Fault Refusal :=
  s.act fun p => if 19 ≤ p.ports[i].faultCount then p.takeCsns i false else p

end Sys2Proof.Machine
end

