-- ==== Sys2Proof/Machine/Timing.lean ====
section
/-! DEFINITION. The pace timer: adoption, boundaries, the end of a period, forced stops (R41 to R54). -/

namespace Sys2Proof.Machine

/-- The run state is set and handed to the watchdogs and to PICTURE_OK (R48). -/
def Part.setRunState (r : RunState) (p : Part) : Part :=
  p.follow ({ p with pace := { p.pace with runState := r } }.syncWatchdogs)

/-- Steps 1 to 6 of R44 inside the pace timer at tick `now`. -/
def Pace.boundary (now : Nat) (t : Pace) : Pace :=
  { t with
    inForce := t.configured
    trigger := t.trigger + 1
    counter := .counting now
    deadline := some { due := now + t.configured.deadlineOffset, trigger := t.trigger + 1 }
    capture := some (now + Config.captureTicks)
    parity := !t.parity }

/-- A boundary (R44): the pace timer's own work, then the line unit, the gatherer and the display port (log 5). -/
def Part.boundary (p : Part) : Part :=
  let q := p.follow { p with pace := p.pace.boundary p.now }
  (q.gatherBoundary q.pace.trigger q.pace.inForce.stale).displayBoundary q.pace.inForce.mode

/-- The period counter stopped at its count. -/
def PeriodCounter.stop (now : Nat) : PeriodCounter → PeriodCounter
  | .counting since => .stopped (now - since)
  | .stopped n => .stopped n

/-- The pace timer enters STOPPED: the configured settings are adopted and the counter stops (R41, R47). -/
def Part.enterStopped (p : Part) : Part :=
  { p with pace := { p.pace with inForce := p.pace.configured, counter := p.pace.counter.stop p.now } }.setRunState
    .stopped

/-- The end of the period at tick `t` (the table of R47). -/
def Part.endPeriod (p : Part) : Part :=
  match p.pace.runState, p.pace.inForce.mode with
  | .running, .continuous => p.boundary
  | .running, .single => p.enterStopped
  | .stopping, _ => p.enterStopped
  | .stopped, _ => p

/-- The period counter reaches the period in force (R47). -/
def Part.periodEnds (p : Part) : Part :=
  match p.pace.counter with
  | .counting since => (p.at (since + p.pace.inForce.period)).endPeriod
  | .stopped _ => p

/-- A forced stop: STOPPED at once with no boundary, the deadline cleared without an expiry (R53; log 28). -/
def Part.forceStop (p : Part) : Part :=
  let q := if p.pace.runState = .stopped then p else p.enterStopped
  { q with pace := { q.pace with deadline := none } }

/-- The pace is started by PACE_START in RUN or by auto-start (R50). -/
def Part.startPace (p : Part) : Part :=
  match p.pace.runState with
  | .stopped => (p.setRunState .running).boundary
  | .stopping => p.setRunState .running
  | .running => p

/-- Auto-start reaches the pace timer: CONTINUOUS is written into both copies of the mode (R54). -/
def Part.autoStartPace (p : Part) : Part :=
  { p with pace := { p.pace with
      configured := { p.pace.configured with mode := .continuous }
      inForce := { p.pace.inForce with mode := .continuous } } }.startPace

/-- The CAPTURE pulse ends (R45). -/
def Part.capturePulseEnds (p : Part) : Part :=
  match p.pace.capture with
  | some t => { p.at t with pace := { p.pace with capture := none } }
  | none => p

/-- PERIOD_END (R47). -/
def execPeriodEnd (s : State) : Host.Outcome State Fault Refusal := s.act Part.periodEnds

/-- CAPTURE_PULSE_END (R45). -/
def execCapturePulseEnd (s : State) : Host.Outcome State Fault Refusal := s.act Part.capturePulseEnds

end Sys2Proof.Machine
end

