-- ==== Sys2Proof/Machine/Powering.lean ====
section
/-! DEFINITION. Power control: entry into DOZE, PARKED and RUN, wakes, and reverse auto-start (R150, R151, R160 to
R164). At entry into DOZE or PARKED the blocks act in the order pace, engine, ports, height, lines, display, and
auto-start powers the ports before it starts the pace: the manual gives no order between them (log 5). -/

namespace Sys2Proof.Machine

/-- The power state as given. -/
def Part.setPower (st : PowerState) (p : Part) : Part := { p with power := { p.power with state := st } }

/-- Entry into DOZE from RUN: the pace forced STOPPED, the slot cleared, the composition in flight left to complete, the
held frame request cleared (R82, R161, R175). -/
def Part.enterDoze (p : Part) : Part := (((p.setPower .doze).forceStop).setSlot .empty).displayLeavesRun

/-- The wake snapshot of a line at entry into PARKED (R151). -/
def Line.takeSnapshot (l : Line) : Line :=
  { l with snapshot := if !l.config.out && l.config.wake then l.debounced else none }

/-- The wake snapshot of a line discarded (R151). -/
def Line.dropSnapshot (l : Line) : Line := { l with snapshot := none }

/-- Every line changed by `f`. -/
def Part.mapLines (f : Line → Line) (p : Part) : Part :=
  { p with lines := { p.lines with line := mapAll p.lines.line f } }

/-- Entry into PARKED (R163). -/
def Part.enterParked (p : Part) : Part :=
  let q := eachPort Part.portParked ((((p.setPower .parked).forceStop).abandon).setSlot .empty)
  ({ q with height := q.height.stop }.mapLines Line.takeSnapshot).displayLeavesRun

/-- The part leaves PARKED for power state `st`: the height monitor starts again and the snapshot is discarded (R161,
R162). -/
def Part.leaveParked (st : PowerState) (p : Part) : Part :=
  { p.setPower st with height := p.height.restart p.now }.mapLines Line.dropSnapshot

/-- A wake into power state `st`, with the cause code and the line number or request kind (R164). -/
def Part.wake (cause what : Byte) (st : PowerState) (p : Part) : Part :=
  (p.leaveParked st).raise .woken [cause, what, st.code]

/-- A request record of kind `kind` arrives: it wakes a PARKED part while link wake is ON (R164). -/
def Part.wakeByRequest (kind : Byte) (p : Part) : Part :=
  if p.power.state = .parked ∧ p.power.linkWake = true then p.wake 2 kind .doze else p

/-! ### Reverse auto-start (R150) -/

/-- Auto-start acts: the part comes to RUN, every OFF port is powered, then the pace runs CONTINUOUS. R150 leaves the
order of ports and pace open: the model takes the ports first (log 5). -/
def Part.autoStart (p : Part) : Part :=
  (eachPort Part.portPoweredOn (if p.power.state = .doze then p.setPower .run else p)).autoStartPace

/-- REVERSE_ON is raised for line `i`, and auto-start acts if it applies (R150). -/
def Part.reverseOn (i : Fin 8) (p : Part) : Part :=
  if p.lines.autoStart then
    if p.power.state = .parked then p.raise .reverseOn [byte i.val, 3]
    else (p.raise .reverseOn [byte i.val, 1]).autoStart
  else p.raise .reverseOn [byte i.val, 2]

/-- A recomputation of REVERSE, which was `before`: a step from not asserted to asserted raises REVERSE_ON (R150). -/
def Part.reverseChange (before : Bool) (i : Fin 8) (p : Part) : Part :=
  if !before && p.reverse then p.reverseOn i else p

end Sys2Proof.Machine
end

