-- ==== Sys2Proof/Machine/Sampling.lean ====
section
/-! DEFINITION. The 1 ms samples: the vehicle lines with their debounce and mismatch check (R144 to R151), and VSENSE
with the supply state (R156 to R159). -/

namespace Sys2Proof.Machine

/-! ### Input lines (R144, R149 to R151) -/

/-- The new level `level` of line `i` differs from its snapshot level while PARKED: a wake (R151). -/
def Part.wakesBy (i : Fin 8) (level : Bool) (p : Part) : Bool :=
  p.power.state == .parked && p.lines.line[i].snapshot == some (!level)

/-- LINE_CHANGE of line `i`, if the line reports (R149). -/
def Part.reportLine (i : Fin 8) (what : Byte) (p : Part) : Part :=
  if p.lines.line[i].config.report then p.raise .lineChange [byte i.val, what] else p

/-- An accepted change of IN line `i` to `level`: the debounced level, a wake, LINE_CHANGE, and REVERSE (R144, R149 to
R151, R164; log 20). -/
def Part.acceptChange (i : Fin 8) (level : Bool) (p : Part) : Part :=
  let before := p.reverse
  let q := p.onLine i fun l => { l with debounced := some level }
  let q :=
    if p.wakesBy i level then
      q.wake 1 (byte i.val) (if q.lines.autoStart && !before && q.reverse then .run else .doze)
    else q
  (q.reportLine i (bit level)).reverseChange before i

/-- A line after its first sample: the debounced level, and a snapshot level while PARKED for a wake-enabled line that
has none (R144, R151). -/
def Line.firstSample (level parked : Bool) (l : Line) : Line :=
  { l with
    debounced := some level
    snapshot := if parked && l.config.wake && l.snapshot.isNone then some level else l.snapshot }

/-- The first sample of IN line `i` (R144). -/
def Part.takeFirstSample (i : Fin 8) (level : Bool) (p : Part) : Part :=
  (p.onLine i (Line.firstSample level (p.power.state == .parked))).reverseChange p.reverse i

/-- The sample of line `i`, if it is an IN line (R144). -/
def Part.sampleIn (i : Fin 8) (level : Bool) (p : Part) : Part :=
  let l := p.lines.line[i]
  if l.config.out then p
  else
    let q := p.onLine i fun l => { l with prev := some level, raw := level }
    match l.debounced with
    | none => q.takeFirstSample i level
    | some d => if level ≠ d ∧ l.prev = some level then q.acceptChange i level else q

/-! ### Output lines (R146, R149) -/

/-- The sample of line `i`, if it is an OUT line: an agreeing sample clears count and flag, the second differing sample
in a row sets the flag (R146, R149). -/
def Part.sampleOut (i : Fin 8) (level : Bool) (p : Part) : Part :=
  let l := p.lines.line[i]
  if l.config.out then
    let q := p.onLine i fun l => { l with raw := level }
    if level = p.intended i then q.clearMismatch i
    else
      let q := q.onLine i fun l => { l with mismatch := min 2 (l.mismatch + 1), flag := l.flag || decide (1 ≤ l.mismatch) }
      if !l.flag && decide (1 ≤ l.mismatch) then q.reportLine i 2 else q
  else p

/-- The sample of all eight lines at one moment, line k at bit k: the outputs against their present levels, then the
inputs, each in ascending order (R144, R146; log 5). -/
def Part.sampleLines (levels : BitVec 8) (p : Part) : Part :=
  eachLine (fun i => Part.sampleIn i (levels.getLsbD i.val))
    (eachLine (fun i => Part.sampleOut i (levels.getLsbD i.val)) p)

/-! ### The supply (R156 to R159, R174) -/

/-- A reading is below the threshold (R156). -/
def Supply.below (s : Supply) (reading : Nat) : Bool := decide (reading < 2 * s.threshold)

/-- A reading is at or above the restore level, which lies 0.8 V over the threshold (R156). -/
def Supply.restores (s : Supply) (reading : Nat) : Bool := decide (2 * s.threshold + 16 ≤ reading)

/-- The supply monitor with a new last reading, taken at the next millisecond (R156; logs 16, 30). -/
def Supply.read (s : Supply) (reading : Nat) : Supply :=
  { s with last := some (min 500 reading), readings := s.readings + 1 }

/-- The supply becomes LOW at the reading just taken (R157, R158, R174): camera ports, engine, display port, line unit
(log 5). -/
def Part.enterLow (p : Part) : Part :=
  let s := p.supply
  let q := { p with supply := { s with low := true, lowCount := 0, restoreCount := 0, holdStart := some s.readings } }
  let q := q.raise .supplyLow (le16OrNone s.last ++ [byte s.threshold])
  let q := ((q.portsGoLow).abandon).setSlot .empty
  p.follow { q with display := { q.display with frozen := true } }

/-- The length of the hold in ms, held at 65535 (R157). -/
def Supply.holdLength (s : Supply) : Nat := min 65535 (s.readings - s.holdStart.getD s.readings)

/-- The supply returns to NORMAL at the reading just taken (R157, R159): camera ports, then the line unit, whose PICTURE_OK
waits for a completion (logs 5, 40). -/
def Part.leaveLow (p : Part) : Part :=
  let s := p.supply
  let q := { p with
    supply := { s with low := false, lowCount := 0, restoreCount := 0 }, lines := { p.lines with awaiting := true } }
  let q := q.raise .supplyRestored (le16 s.holdLength)
  p.follow (eachPort Part.portRestored q).syncWatchdogs

/-- A VSENSE reading in 0.05 V steps acts on the supply state (R157). -/
def Part.takeSupply (reading : Nat) (p : Part) : Part :=
  let s := p.supply.read reading
  let q := { p with supply := s }
  if s.low then
    if s.restores reading then
      if 20 ≤ s.restoreCount + 1 then q.leaveLow
      else { q with supply := { s with restoreCount := s.restoreCount + 1 } }
    else { q with supply := { s with restoreCount := 0 } }
  else if s.below reading then
    if 2 ≤ s.lowCount + 1 then q.enterLow else { q with supply := { s with lowCount := s.lowCount + 1 } }
  else { q with supply := { s with lowCount := 0 } }

/-! ### The commands -/

/-- VEHICLE_LINE_SAMPLE (R144, R146). -/
def execVehicleLineSample (levels : BitVec 8) (s : State) : Host.Outcome State Fault Refusal :=
  s.act (Part.sampleLines levels)

/-- LINE_ACCEPTED_CHANGE: the second sample in a row of a level that is not the debounced one (R144; log 4). -/
def execLineAcceptedChange (i : Fin 8) (level : Bool) (s : State) : Host.Outcome State Fault Refusal :=
  s.act fun p =>
    if p.lines.line[i].debounced = some (!level) ∧ p.lines.line[i].prev = some level then p.sampleIn i level else p

/-- LINE_FIRST_SAMPLE: the sample of an IN line that has no debounced level (R144; log 4). -/
def execLineFirstSample (i : Fin 8) (level : Bool) (s : State) : Host.Outcome State Fault Refusal :=
  s.act fun p => if p.lines.line[i].debounced = none then p.sampleIn i level else p

/-- OUTPUT_MISMATCH: the second sample in a row that differs from the intended level (R146; log 4). -/
def execOutputMismatch (i : Fin 8) (s : State) : Host.Outcome State Fault Refusal :=
  s.act fun p =>
    if 1 ≤ p.lines.line[i].mismatch ∧ p.lines.line[i].flag = false then p.sampleOut i (!p.intended i) else p

/-- MISMATCH_CLEARED: a sample that agrees with the intended level (R146; log 4). -/
def execMismatchCleared (i : Fin 8) (s : State) : Host.Outcome State Fault Refusal :=
  s.act fun p => p.sampleOut i (p.intended i)

/-- VSENSE_READING (R156, R157). -/
def execVsenseReading (reading : Nat) (s : State) : Host.Outcome State Fault Refusal :=
  s.act (Part.takeSupply reading)

/-- SUPPLY_LOW: the second reading in a row below the threshold (R157; log 4). -/
def execSupplyLow (reading : Nat) (s : State) : Host.Outcome State Fault Refusal :=
  s.act fun p =>
    if p.supply.low = false ∧ 1 ≤ p.supply.lowCount ∧ p.supply.below reading = true then p.takeSupply reading else p

/-- SUPPLY_RESTORED: the twentieth reading in a row at or above the restore level (R157; log 4). -/
def execSupplyRestored (reading : Nat) (s : State) : Host.Outcome State Fault Refusal :=
  s.act fun p =>
    if p.supply.low = true ∧ 19 ≤ p.supply.restoreCount ∧ p.supply.restores reading = true then p.takeSupply reading
    else p

end Sys2Proof.Machine
end

