-- ==== Sys2Proof/Machine/Storing.lean ====
section
/-! DEFINITION. The calibration store: its steps and their ends, the write session, aborts and CAL_WE (R125 to R136). -/

namespace Sys2Proof.Machine

/-! ### Store steps (R126) -/

/-- How long a step holds the flash (R123). -/
def StepKind.ticks : StepKind → Nat
  | .erase _ => Config.eraseTicks
  | _ => Config.programTicks

/-- The store issues a step: it runs at once when the flash is free and joins the line otherwise. From an accepted RESET
on no step is issued (R125, R126, R140). -/
def Part.issueStep (kind : StepKind) (p : Part) : Part :=
  if p.link.resetWait = .clear then
    if p.store.flashFree then
      { p with store := { p.store with
          holder := .store, step := some { kind := kind, phase := .running (p.now + kind.ticks) } } }
    else
      { p with store := { p.store with
          line := p.store.line ++ [.store], step := some { kind := kind, phase := .pending } } }
  else p

/-- The pending step takes the flash from the arbiter (R125, R126). -/
def Part.stepStarts (p : Part) : Part :=
  match p.store.step, p.store.holder, p.store.line with
  | some { kind := k, phase := .pending }, .nobody, .store :: rest =>
    { p with store := { p.store with
        line := rest, holder := .store, step := some { kind := k, phase := .running (p.now + k.ticks) } } }
  | _, _, _ => p

/-- A pending step withdrawn from the arbiter; a running one is left (R133, R140). -/
def Store.withdrawStep (t : Store) : Store :=
  match t.step with
  | some { phase := .pending, .. } => { t with step := none, line := t.line.filter (· != .store) }
  | _ => t

/-- A step ends: the flash is released with new contents. -/
def Store.endStep (t : Store) (flash : Memory) : Store := { t with flash := flash, step := none, holder := .nobody }

/-- The store issues what its session calls for next in RECEIVING and CLOSING when no step is pending or running: a full
row, in CLOSING the last half row, and then the complete mark (R131, R132). -/
def Part.advance (p : Part) : Part :=
  match p.store.step, p.store.session with
  | none, some x =>
    match x.phase with
    | .erasing => p
    | .receiving => if 256 ≤ p.store.staging.length then p.issueStep (.recordRow x.set x.nextRow) else p
    | .closing =>
      if p.store.staging = [] then p.issueStep (.completeMark x.set x.sum)
      else p.issueStep (.recordRow x.set x.nextRow)
  | _, _ => p

/-- STORE_ABORTED is raised with set, cause, the set state the directory shows, and the next index (R133). -/
def Part.raiseAborted (a : Abort) (p : Part) : Part :=
  p.raise .storeAborted ([byte a.set.val, a.cause.code, (p.store.setState a.set).code] ++ le16 a.nextIndex)

/-- A step has ended: an abort whose trailing step it was is reported, or else `go` goes on (R133). -/
def Part.afterStep (go : Part → Part) (p : Part) : Part :=
  match p.store.trailing with
  | some a => { p with store := { p.store with trailing := none } }.raiseAborted a
  | none => go p

/-- The directory entry of set `s` changed. -/
def Store.onEntry (s : Fin 8) (f : SetEntry → SetEntry) (t : Store) : Store :=
  { t with directory := update t.directory s f }

/-- After an erase the next erase or the open mark program is issued (R129). -/
def Part.afterErase (p : Part) : Part :=
  match p.store.session with
  | some x =>
    match x.phase with
    | .erasing =>
      if x.eraseSector < 5 then
        { p with store := { p.store with session := some { x with eraseSector := x.eraseSector + 1 } } }.issueStep
          (.erase (sectorOf x.set (x.eraseSector + 1)))
      else p.issueStep (.openMark x.set)
    | _ => p
  | none => p

/-- A sector erase ends (R123, R124, R129). -/
def Part.eraseEnds (p : Part) : Part :=
  match p.store.step with
  | some { kind := .erase q, phase := .running due } =>
    let p := p.at due
    let t := p.store.endStep (eraseSector p.store.flash q)
    { p with store := (if q.val % 6 = 0 then t.onEntry (setOfSector q) (fun _ => .blank) else t) }.afterStep
      Part.afterErase
  | _ => p

/-- The session of an open mark becomes RECEIVING and STORE_DONE (OPENED) is raised (R129). -/
def Part.afterOpenMark (s : Fin 8) (p : Part) : Part :=
  { p with store := { p.store with
      session := p.store.session.map (fun (x : Session) => { x with phase := .receiving }) } }.raise .storeDone [byte s.val, 1]

/-- The open mark program ends (R124, R129). -/
def Part.openMarkEnds (p : Part) : Part :=
  match p.store.step with
  | some { kind := .openMark s, phase := .running due } =>
    let p := p.at due
    let t := (p.store.endStep (programRow p.store.flash s 0 plainMarkRow)).onEntry s
      (fun e => { e with openMark := .set })
    { p with store := t }.afterStep (Part.afterOpenMark s)
  | _ => p

/-- A record row program ends: the row is in flash, its bytes leave the staging buffer and the next row advances
(R131). -/
def Part.rowProgramEnds (p : Part) : Part :=
  match p.store.step with
  | some { kind := .recordRow s r, phase := .running due } =>
    let p := p.at due
    let t := p.store.endStep (programRow p.store.flash s r (paddedRow (p.store.staging.take 256)))
    { p with store := { t with
        staging := p.store.staging.drop 256
        session := t.session.map (fun (x : Session) => { x with nextRow := x.nextRow + 1 }) } }.afterStep Part.advance
  | _ => p

/-- The session closes and STORE_DONE (COMPLETE) is raised (R132). -/
def Part.afterCompleteMark (s : Fin 8) (p : Part) : Part :=
  { p with store := { p.store with session := none } }.raise .storeDone [byte s.val, 2]

/-- The complete mark program ends (R124, R132). -/
def Part.completeMarkEnds (p : Part) : Part :=
  match p.store.step with
  | some { kind := .completeMark s sum, phase := .running due } =>
    let p := p.at due
    let t := (p.store.endStep (programRow p.store.flash s 1 (completeMarkRow sum))).onEntry s
      (fun e => { e with completeMark := .set, sum := some sum })
    { p with store := t }.afterStep (Part.afterCompleteMark s)
  | _ => p

/-- The lock mark program ends (R135). -/
def Part.lockMarkEnds (p : Part) : Part :=
  match p.store.step with
  | some { kind := .lockMark s, phase := .running due } =>
    let p := p.at due
    let t := (p.store.endStep (programRow p.store.flash s 2 plainMarkRow)).onEntry s
      (fun e => { e with lockMark := .set })
    { p with store := t }.raise .storeDone [byte s.val, 3]
  | _ => p

/-- The retire mark program ends (R136). -/
def Part.retireMarkEnds (p : Part) : Part :=
  match p.store.step with
  | some { kind := .retireMark s, phase := .running due } =>
    let p := p.at due
    let t := (p.store.endStep (programRow p.store.flash s 3 plainMarkRow)).onEntry s
      (fun e => { e with retireMark := .set })
    { p with store := t }.raise .storeDone [byte s.val, 4]
  | _ => p

/-! ### Aborts and CAL_WE (R133, R134) -/

/-- A record row program is running: its bytes stay in the staging buffer through an abort (R133). -/
def Store.rowRunning (t : Store) : Bool :=
  match t.step with
  | some { kind := .recordRow _ _, phase := .running _ } => true
  | _ => false

/-- An open session is aborted (R133). -/
def Part.abortSession (cause : AbortCause) (p : Part) : Part :=
  match p.store.session with
  | none => p
  | some x =>
    let a : Abort := { set := x.set, cause := cause, nextIndex := x.nextIndex }
    let staging := if p.store.rowRunning then p.store.staging.take 256 else []
    let t := { p.store.withdrawStep with session := none, staging := staging }
    if p.store.stepRunning then { p with store := { t with trailing := some a } }
    else { p with store := t }.raiseAborted a

/-- A CAL_WE sample: a level read on two consecutive samples becomes the debounced level, and its deassertion aborts an
open session (R134). -/
def Part.takeCalWe (level : Bool) (p : Part) : Part :=
  let q := { p with store := { p.store with calSampled := some level } }
  if p.store.calSampled = some level ∧ level ≠ p.store.calDebounced then
    let q := { q with store := { q.store with calDebounced := level } }
    if level then q else q.abortSession .calWe
  else q

/-! ### The commands -/

/-- STORE_STEP_START (R126). -/
def execStoreStepStart (s : State) : Host.Outcome State Fault Refusal := s.act Part.stepStarts

/-- SECTOR_ERASE_END (R129). -/
def execSectorEraseEnd (s : State) : Host.Outcome State Fault Refusal := s.act Part.eraseEnds

/-- OPEN_MARK_END (R129). -/
def execOpenMarkEnd (s : State) : Host.Outcome State Fault Refusal := s.act Part.openMarkEnds

/-- ROW_PROGRAM_END (R131). -/
def execRowProgramEnd (s : State) : Host.Outcome State Fault Refusal := s.act Part.rowProgramEnds

/-- COMPLETE_MARK_END (R132). -/
def execCompleteMarkEnd (s : State) : Host.Outcome State Fault Refusal := s.act Part.completeMarkEnds

/-- LOCK_MARK_END (R135). -/
def execLockMarkEnd (s : State) : Host.Outcome State Fault Refusal := s.act Part.lockMarkEnds

/-- RETIRE_MARK_END (R136). -/
def execRetireMarkEnd (s : State) : Host.Outcome State Fault Refusal := s.act Part.retireMarkEnds

/-- CAL_WE_SAMPLE (R134). -/
def execCalWeSample (level : Bool) (s : State) : Host.Outcome State Fault Refusal := s.act (Part.takeCalWe level)

/-- CAL_WE_CHANGE: the second consecutive sample of a new level (R134; log 4). -/
def execCalWeChange (level : Bool) (s : State) : Host.Outcome State Fault Refusal :=
  s.act fun p => if p.store.calSampled = some level ∧ level ≠ p.store.calDebounced then p.takeCalWe level else p

end Sys2Proof.Machine
end

