-- ==== Sys2Proof/Machine/Answering.lean ====
section
/-! DEFINITION. How a request is taken and answered (R164, R182, R183): one shared operation, over the effect of each
request, which forms the body of the reply and the part after the immediate effect. -/

namespace Sys2Proof.Machine

/-- What a request does: the body of its reply, and the part after its immediate effect. -/
abbrev Effect := Part → List Byte × Part

/-- A request refused, or answered, with its status alone; it changes nothing. -/
def refuse (status : Byte) : Effect := fun p => ([status], p)

/-- The reply queue is full (R183). -/
def Part.queueFull (p : Part) : Bool := decide (4 ≤ p.link.queue.length)

/-- A request of this kind and tag is taken: the effect acts, and the reply joins the queue (R182). An event that the
effect raises takes an empty slot before the reply joins (log 22). -/
def Part.reply (kind tag : Byte) (act : Effect) (p : Part) : Part :=
  { (act p).2 with link := (act p).2.link.join { kind := kind + 0x80, tag := tag, body := (act p).1 } }

/-- A request record arrives: it wakes a PARKED part while link wake is ON (R164); with four records queued it is
discarded with REPLY_OVERRUN (R183); otherwise it is taken (R182; log 3). -/
def Part.answer (kind tag : Byte) (act : Effect) (p : Part) : Part :=
  let q := p.wakeByRequest kind
  if q.queueFull then q.raise .replyOverrun [kind, tag] else q.reply kind tag act

end Sys2Proof.Machine
end

