-- ==== Sys2Proof/Machine/LineRequests.lean ====
section
/-! DEFINITION. The requests to the vehicle line unit, power control and the supply monitor (R152 to R154, R165 to
R167). -/

namespace Sys2Proof.Machine

/-! ### LINE_CONFIGURE (R152) -/

/-- An attribute belongs to a direction (R143). -/
def LineAttr.fits (out : Bool) : LineAttr → Bool
  | .floating | .biased => !out
  | .plain | .inverted => out

/-- A role belongs to a direction (R143). -/
def LineRole.fits (out : Bool) : LineRole → Bool
  | .none => true
  | .occlude _ | .reverse => !out
  | .parity | .pictureOk => out

/-- A role that drives an output from elsewhere than its written level (R143). -/
def LineRole.drives : LineRole → Bool
  | .parity | .pictureOk => true
  | _ => false

/-- The fields of an accepted entry as they are stored: a level that is not used as LOW, the active level of an output
as HIGH (R143, R152). -/
def LineConfig.stored (c : LineConfig) : LineConfig :=
  { c with level := c.level && c.attr != .floating && !c.role.drives, active := c.out || c.active }

/-- The line and the record of an entry; none where a value lies outside its field or does not belong to the direction
(R152). -/
def entry? (e : LineEntry) : Option (Fin 8 × LineConfig) :=
  match set? e.line, bit? e.direction, lineAttr? e.attr, bit? e.level, lineRole? e.role, bit? e.active,
      bit? e.report, bit? e.wake with
  | some i, some out, some a, some level, some role, some active, some report, some wake =>
    if a.fits out && role.fits out && !(out && wake) then
      some (i, LineConfig.stored
        { out := out, attr := a, level := level, role := role, active := active, report := report, wake := wake })
    else none
  | _, _, _, _, _, _, _, _ => none

/-- The lines and records of a list of entries; none if one of them is refused. -/
def entries? : List LineEntry → Option (List (Fin 8 × LineConfig))
  | [] => some []
  | e :: rest =>
    match entry? e, entries? rest with
    | some x, some xs => some (x :: xs)
    | _, _ => none

/-- The wake snapshot after a line's record becomes `c` (R151). -/
def Line.newSnapshot (parked : Bool) (c : LineConfig) (l : Line) : Option Bool :=
  if c.out || !c.wake || !parked then none
  else if l.config.wake then l.snapshot
  else l.debounced

/-- A line whose record becomes `c`: input state and mismatch state go with a change of direction, and the wake snapshot
is adjusted (R151, R152). -/
def Line.configure (parked : Bool) (c : LineConfig) (l : Line) : Line :=
  let kept := l.config.out == c.out
  { l with
    config := c
    prev := if kept then l.prev else none
    debounced := if kept then l.debounced else none
    mismatch := if kept then l.mismatch else 0
    flag := kept && l.flag
    snapshot := l.newSnapshot parked c }

/-- The named lines take their records. -/
def Part.configureLines (xs : List (Fin 8 × LineConfig)) (p : Part) : Part :=
  xs.foldl (fun p x => p.onLine x.1 (Line.configure (p.power.state == .parked) x.2)) p

/-- The lowest-numbered line that asserts REVERSE (log 20). -/
def Lines.reverseLine (u : Lines) : Fin 8 :=
  ((List.finRange 8).find? fun i => u.line[i].asserted && u.line[i].config.role == .reverse).getD 0

/-- The auto-start setting and the named records replaced, the outputs following, and REVERSE recomputed (R152). -/
def Part.applyLines (autoStart : Bool) (xs : List (Fin 8 × LineConfig)) (p : Part) : Part :=
  let q := p.follow ({ p with lines := { p.lines with autoStart := autoStart } }.configureLines xs)
  q.reverseChange p.reverse q.lines.reverseLine

/-- A configuration record as replies carry it, in seven bytes. -/
def LineConfig.bytes (c : LineConfig) : List Byte :=
  [bit c.out, c.attr.code, bit c.level, c.role.code, bit c.active, bit c.report, bit c.wake]

/-- LINE_CONFIGURE (R152). -/
def doLineConfigure (autoStart : Byte) (entries : List LineEntry) : Effect := fun p =>
  match bit? autoStart, entries? entries with
  | some auto, some xs =>
    if (xs.map Prod.fst).Nodup then
      let q := p.applyLines auto xs
      (stOk :: bit q.lines.autoStart :: (List.finRange 8).flatMap fun i => q.lines.line[i].config.bytes, q)
    else refuse stBadArgument p
  | _, _ => refuse stBadArgument p

/-! ### LINE_READ (R153) -/

/-- The thirteen bytes of line `i`. -/
def Part.lineBytes (p : Part) (i : Fin 8) : List Byte :=
  let l := p.lines.line[i]
  l.config.bytes ++ [bit l.raw]
    ++ (if l.config.out then [0, 0, bit (p.logicalLevel i), bit (p.intended i), bit l.flag]
        else [bitOrNone l.debounced, bit l.asserted, 0, 0, 0])

/-- The wake snapshot of a line as LINE_READ carries it. -/
def Part.snapshotByte (p : Part) (i : Fin 8) : Byte :=
  if p.power.state = .parked then bitOrNone p.lines.line[i].snapshot else 0xFF

/-- LINE_READ (R153). -/
def doLineRead : Effect := fun p =>
  (stOk :: ((List.finRange 8).flatMap p.lineBytes
    ++ [p.groupBits, bit p.pace.parity, bit p.pictureOk, bit p.lines.autoStart]
    ++ (List.finRange 8).map p.snapshotByte), p)

/-! ### LINE_WRITE (R154) -/

/-- The line and level of each pair; none if a byte names none. -/
def levels? : List (Byte × Byte) → Option (List (Fin 8 × Bool))
  | [] => some []
  | x :: rest =>
    match set? x.1, bit? x.2, levels? rest with
    | some i, some b, some xs => some ((i, b) :: xs)
    | _, _, _ => none

/-- A line that LINE_WRITE may write: an OUT line with role NONE (R154). -/
def Line.writable (l : Line) : Bool := l.config.out && l.config.role == .none

/-- A line with another written level. -/
def Line.withLevel (level : Bool) (l : Line) : Line := { l with config := { l.config with level := level } }

/-- The written levels of the named lines set, the pads following (R154). -/
def Part.writeLevels (xs : List (Fin 8 × Bool)) (p : Part) : Part :=
  p.follow (xs.foldl (fun p x => p.onLine x.1 (Line.withLevel x.2)) p)

/-- LINE_WRITE (R154). A list to which both refusals apply is answered BAD_ARGUMENT: R154 gives no precedence (log 39). -/
def doLineWrite (pairs : List (Byte × Byte)) : Effect := fun p =>
  match levels? pairs with
  | none => refuse stBadArgument p
  | some xs =>
    if xs = [] ∨ ¬ (xs.map Prod.fst).Nodup then refuse stBadArgument p
    else if xs.all (fun x => p.lines.line[x.1].writable) then
      let q := p.writeLevels xs
      (stOk :: xs.flatMap fun x => [byte x.1.val, bit (q.intended x.1)], q)
    else refuse stRefusedState p

/-! ### POWER_STATE, WAKE_CONFIGURE, SUPPLY_CONFIGURE (R165 to R167) -/

/-- A reply that carries the power state and the supply state whatever the status. -/
def withPower (status : Byte) : Effect := fun p => ([status, p.power.state.code, bit p.supply.low], p)

/-- POWER_STATE with target RUN (R165). -/
def Part.powerRun (p : Part) : Part :=
  match p.power.state with
  | .run => p
  | .doze => p.setPower .run
  | .parked => p.leaveParked .run

/-- POWER_STATE with target DOZE (R165). -/
def Part.powerDoze (p : Part) : Part :=
  match p.power.state with
  | .run => p.enterDoze
  | .doze => p
  | .parked => p.leaveParked .doze

/-- POWER_STATE (R165). -/
def doPowerState (target : Byte) : Effect := fun p =>
  match target.toNat with
  | 0 => withPower stOk p.powerRun
  | 1 => withPower stOk p.powerDoze
  | 2 =>
    if p.power.state = .parked then withPower stOk p
    else if p.store.engaged then withPower stBusy p
    else withPower stOk p.enterParked
  | _ => withPower stBadArgument p

/-- The input lines whose wake enable is ON (R166). -/
def Lines.wakeBits (u : Lines) : Byte := flags8 fun i => !u.line[i].config.out && u.line[i].config.wake

/-- WAKE_CONFIGURE (R166). -/
def doWakeConfigure (value : Byte) : Effect := fun p =>
  match bit? value with
  | none => refuse stBadArgument p
  | some on => ([stOk, bit on, p.lines.wakeBits], { p with power := { p.power with linkWake := on } })

/-- The threshold that a value in tenths of a volt leaves in force: 65, 70, 75 or 80 (R167). -/
def thresholdInForce (tenths : Nat) : Nat := 65 + (clamp 65 80 tenths - 65) / 5 * 5

/-- SUPPLY_CONFIGURE (R167). -/
def doSupplyConfigure (threshold : Byte) : Effect := fun p =>
  let v := thresholdInForce threshold.toNat
  ([stAccepted (v != threshold.toNat), byte v, bit p.supply.low] ++ le16OrNone p.supply.last,
    { p with supply := { p.supply with threshold := v, lowCount := 0, restoreCount := 0 } })

/-! ### The commands -/

/-- LINE_CONFIGURE. -/
def execLineConfigure (tag autoStart : Byte) (entries : List LineEntry) (s : State) :
    Host.Outcome State Fault Refusal :=
  s.act (Part.answer 0x40 tag (doLineConfigure autoStart entries))

/-- LINE_READ. -/
def execLineRead (tag : Byte) (s : State) : Host.Outcome State Fault Refusal := s.act (Part.answer 0x41 tag doLineRead)

/-- LINE_WRITE. -/
def execLineWrite (tag : Byte) (pairs : List (Byte × Byte)) (s : State) : Host.Outcome State Fault Refusal :=
  s.act (Part.answer 0x42 tag (doLineWrite pairs))

/-- POWER_STATE. -/
def execPowerState (tag target : Byte) (s : State) : Host.Outcome State Fault Refusal :=
  s.act (Part.answer 0x48 tag (doPowerState target))

/-- WAKE_CONFIGURE. -/
def execWakeConfigure (tag value : Byte) (s : State) : Host.Outcome State Fault Refusal :=
  s.act (Part.answer 0x49 tag (doWakeConfigure value))

/-- SUPPLY_CONFIGURE. -/
def execSupplyConfigure (tag threshold : Byte) (s : State) : Host.Outcome State Fault Refusal :=
  s.act (Part.answer 0x4A tag (doSupplyConfigure threshold))

end Sys2Proof.Machine
end

