-- ==== Sys2Proof/Machine/LinkRequests.lean ====
section
/-! DEFINITION. The link requests: IDENTIFY, STATUS, RESET, EVENT_CONFIGURE, EVENT_CLEAR (R188 to R192). -/

namespace Sys2Proof.Machine

/-- IDENTIFY (R188). -/
def doIdentify : Effect := fun p =>
  (stOk :: (le16 4120 ++ [byte Config.revision] ++ le16 256 ++ [4, 18]), p)

/-! ### STATUS (R189, *STATUS reply body*) -/

/-- Bytes 1 to 7: power, supply, wake. -/
def statusPower (p : Part) : List Byte :=
  [p.power.state.code, bit p.supply.low, p.power.cause.code] ++ le16OrNone p.supply.last
    ++ [byte p.supply.threshold, bit p.power.linkWake]

/-- Bytes 8 to 16: the pace. -/
def statusPace (p : Part) : List Byte :=
  let c := p.pace.inForce
  [p.pace.runState.code, c.mode.code] ++ le16 p.pace.trigger.toNat ++ [byte c.prescaler] ++ le16 c.reload
    ++ [byte c.percent, byte c.stale]

/-- The gather slot's state code and trigger. -/
def slotBytes : GatherSlot → List Byte
  | .empty => [0, 0, 0]
  | .gathering n _ => 1 :: le16 n.toNat
  | .ready n _ => 2 :: le16 n.toNat

/-- Bytes 17 to 27: the slot, the engine and its configured values. -/
def statusEngine (p : Part) : List Byte :=
  let e := p.engine
  slotBytes e.slot
    ++ (match e.inflight with | none => [0, 0, 0] | some c => 1 :: le16 c.trigger.toNat)
    ++ [byte e.hold, byte e.divider, e.void.y, e.void.cb, e.void.cr]

/-- Bytes 28 to 43: the ports. -/
def statusPorts (p : Part) : List Byte :=
  (List.finRange 4).flatMap fun i =>
    [p.ports[i].state.code, byte p.ports[i].attempts, bit p.ports[i].power, bit p.ports[i].csns]

/-- A zone in the balance report; the layout gives no target for a zone that is not VALID (log 14). -/
def zoneBytes (draw : Nat) (z : Fin 4) (r : ZoneReport) : List Byte :=
  r.verdict.code :: (le24 r.count ++
    (match r.target with
      | some t => le16 t
      | none => [Config.freeByte draw (61 + 6 * z.val), Config.freeByte draw (62 + 6 * z.val)]))

/-- Bytes 44 to 92: the balancer and its report. -/
def statusBalance (p : Part) : List Byte :=
  let b := p.balancer
  (List.finRange 4).flatMap (fun c => le16 b.gains[c])
    ++ [flags4 b.written, bit b.enable, byte b.k]
    ++ le16 b.report.trigger.toNat
    ++ (List.finRange 4).flatMap (fun z => zoneBytes p.draws z b.report.zones[z])
    ++ (List.finRange 4).flatMap (fun c => le16OrNone b.report.cameras[c].desired)
    ++ (List.finRange 4).map (fun c => b.report.cameras[c].outcome.code)

/-- The code of the height mode: AUTO 0, MANUAL 1. -/
def modeCode (auto : Bool) : Byte := if auto then 0 else 1

/-- The last reading: duty, period, verdict (R104, R119). -/
def readingBytes : Option Reading → List Byte
  | none => [0, 0, 0, 0, 0xFF]
  | some r => le16 r.duty ++ le16 r.period ++ [r.verdict.code]

/-- Bytes 93 to 105: the height monitor. -/
def statusHeight (p : Part) : List Byte :=
  let h := p.height
  [h.state.code, byteOrNone (h.band.map Fin.val), byte h.config.bands, modeCode h.config.auto]
    ++ readingBytes h.lastReading ++ [byte h.invalid, byte h.window.length] ++ le16OrNone h.lastMean

/-- The code of the loader state. -/
def LoaderState.code : LoaderState → Byte
  | .idle => 0
  | .waitingStore _ => 1
  | .loading _ _ _ => 2
  | .staged _ => 3

/-- Bytes 106 to 110: the loader and the derived line states. -/
def statusLoader (p : Part) : List Byte :=
  [p.loader.state.code, setOrNone p.loader.state.set?, setOrNone p.loader.activeSet,
    flags8 fun s => p.loader.damaged[s], p.groupBits]

/-- The record of the previous composite. -/
def Engine.previousRecord (e : Engine) : Option CompositeRecord := e.previous.bind fun b => e.buffers[b].record

/-- Bytes 111 to 133: the previous composite record; without one the layout gives the valid flag only (log 14). -/
def statusRecord (p : Part) : List Byte :=
  match p.engine.previousRecord with
  | none => 0 :: (List.range 22).map fun k => Config.freeByte p.draws (112 + k)
  | some r =>
    1 :: (le16 r.trigger.toNat ++ [setOrNone r.set] ++ (List.finRange 4).flatMap (fun c => le16 r.gains[c])
      ++ [flags4 r.present, flags4 r.occlusion] ++ le16 r.counts.sampled ++ le16 r.counts.blended
      ++ le16 r.counts.held ++ le16 r.counts.filled ++ [bit r.firstOfSet])

/-- Whether pending record `k` is pending; no for places beyond the eighteen. -/
def Link.isPending (l : Link) (k : Nat) : Bool := if h : k < 18 then l.records[k].pending else false

/-- The pending flags of all kinds in three bytes, bit k − 1 for kind k. -/
def Link.pendingFlags (l : Link) : List Byte :=
  [flags8 fun b => l.isPending b.val, flags8 fun b => l.isPending (8 + b.val),
    flags8 fun b => l.isPending (16 + b.val)]

/-- Bytes 134 to 155: the link. -/
def statusLink (p : Part) : List Byte :=
  p.link.pendingFlags ++ (List.finRange 18).map (fun k => byte p.link.records[k].repeats)
    ++ [byte p.link.queue.length]

/-- The 156 bytes of a STATUS reply. -/
def statusBody (p : Part) : List Byte :=
  stOk :: (statusPower p ++ statusPace p ++ statusEngine p ++ statusPorts p ++ statusBalance p ++ statusHeight p
    ++ statusLoader p ++ statusRecord p ++ statusLink p)

/-- STATUS (R189): it changes nothing; the bytes for which the layout gives no value are drawn anew (log 14). -/
def doStatus : Effect := fun p => (statusBody p, { p with draws := p.draws + 1 })

/-! ### RESET (R140, R190) -/

/-- RESET: the first sets the reset wait and withdraws a pending store step; a later one sets nothing more. -/
def doReset : Effect := fun p =>
  ([stOk],
    if p.link.resetWait = .clear then
      { p with link := { p.link with resetWait := .replyWaiting }, store := p.store.withdrawStep }
    else p)

/-! ### EVENT_CONFIGURE and EVENT_CLEAR (R191, R192) -/

/-- The kinds that a list of pairs names; none if a code names no kind. -/
def kindsOf : List (Byte × Byte) → Option (List EventKind)
  | [] => some []
  | x :: rest =>
    match kind? x.1, kindsOf rest with
    | some k, some ks => some (k :: ks)
    | _, _ => none

/-- A pending record with another priority. -/
def PendingRecord.withPriority (n : Nat) (r : PendingRecord) : PendingRecord := { r with priority := n }

/-- The link with the priority of a kind set to at most 3 (R191). -/
def Link.setPriority (l : Link) (k : EventKind) (n : Nat) : Link :=
  { l with records := update l.records k.index (PendingRecord.withPriority (min 3 n)) }

/-- The link with the priorities of a list of pairs set. -/
def Link.setPriorities (l : Link) (pairs : List (Byte × Byte)) : Link :=
  pairs.foldl (fun l x => match kind? x.1 with | some k => l.setPriority k x.2.toNat | none => l) l

/-- The priorities of kinds 01h to 12h. -/
def Link.priorities (l : Link) : List Byte := (List.finRange 18).map fun k => byte l.records[k].priority

/-- EVENT_CONFIGURE (R191; log 22). -/
def doEventConfigure (pairs : List (Byte × Byte)) : Effect := fun p =>
  match kindsOf pairs with
  | none => refuse stBadArgument p
  | some ks =>
    if ks = [] ∨ ¬ ks.Nodup then refuse stBadArgument p
    else
      let link := (p.link.setPriorities pairs).fill
      (stAccepted (pairs.any fun x => decide (3 < x.2.toNat)) :: link.priorities, { p with link := link })

/-- The link with the records of a set of kinds cleared, bit k − 1 for kind k (R192). -/
def Link.clearKinds (l : Link) (kinds : BitVec 24) : Link :=
  { l with records := Vector.ofFn fun k =>
      if kinds.getLsbD k.val then .clear l.records[k].priority else l.records[k] }

/-- EVENT_CLEAR; bits 18 to 23 name codes above 12h (R192). -/
def doEventClear (kinds : BitVec 24) : Effect := fun p =>
  if 262144 ≤ kinds.toNat then refuse stBadArgument p
  else
    let link := p.link.clearKinds kinds
    (stOk :: link.pendingFlags, { p with link := link })

/-! ### The commands -/

/-- IDENTIFY. -/
def execIdentify (tag : Byte) (s : State) : Host.Outcome State Fault Refusal := s.act (Part.answer 0x01 tag doIdentify)

/-- STATUS. -/
def execStatus (tag : Byte) (s : State) : Host.Outcome State Fault Refusal := s.act (Part.answer 0x02 tag doStatus)

/-- RESET. -/
def execReset (tag : Byte) (s : State) : Host.Outcome State Fault Refusal := s.act (Part.answer 0x03 tag doReset)

/-- EVENT_CONFIGURE. -/
def execEventConfigure (tag : Byte) (pairs : List (Byte × Byte)) (s : State) : Host.Outcome State Fault Refusal :=
  s.act (Part.answer 0x04 tag (doEventConfigure pairs))

/-- EVENT_CLEAR. -/
def execEventClear (tag : Byte) (kinds : BitVec 24) (s : State) : Host.Outcome State Fault Refusal :=
  s.act (Part.answer 0x05 tag (doEventClear kinds))

end Sys2Proof.Machine
end

