-- ==== Sys2Proof/Machine/StoreRequests.lean ====
section
/-! DEFINITION. The requests to the calibration store (R128 to R138). -/

namespace Sys2Proof.Machine

/-! ### Opening, locking, retiring (R128, R135, R136) -/

/-- The checks that STORE_OPEN, STORE_LOCK and STORE_RETIRE make first, in this order; none when they pass. -/
def Part.writeCheck (p : Part) (s : Fin 8) : Option Byte :=
  if p.store.scanning then some stBusy
  else if p.power.state = .parked then some stRefusedState
  else if p.store.calDebounced = false then some stNotEnabled
  else if p.store.engaged then some stBusy
  else if p.store.directory[s].locked then some stLocked
  else none

/-- The session that STORE_OPEN begins (R128). -/
def Session.start (s : Fin 8) : Session :=
  { phase := .erasing, set := s, nextIndex := 0, sum := 0, nextRow := 4, eraseSector := 0 }

/-- A write session is begun on set `s` (R128, R129). -/
def Part.openSession (s : Fin 8) (p : Part) : Part :=
  { p with
    store := { p.store with session := some (.start s), staging := [] }
    loader := { p.loader with damaged := p.loader.damaged.set s false } }.issueStep (.erase (sectorOf s 0))

/-- STORE_OPEN (R128). -/
def doStoreOpen (set : Byte) : Effect := fun p =>
  match set? set with
  | none => refuse stBadArgument p
  | some s =>
    match p.writeCheck s with
    | some st => refuse st p
    | none => if p.loader.inUse s then refuse stInUse p else ([stOk], p.openSession s)

/-- STORE_LOCK (R135). -/
def doStoreLock (set : Byte) : Effect := fun p =>
  match set? set with
  | none => refuse stBadArgument p
  | some s =>
    match p.writeCheck s with
    | some st => refuse st p
    | none =>
      if p.store.setState s = .complete then ([stOk], p.issueStep (.lockMark s)) else refuse stRefusedState p

/-- STORE_RETIRE (R136). -/
def doStoreRetire (set : Byte) : Effect := fun p =>
  match set? set with
  | none => refuse stBadArgument p
  | some s =>
    match p.writeCheck s with
    | some st => refuse st p
    | none =>
      if p.loader.inUse s then refuse stInUse p
      else
        match p.store.directory[s].retireMark with
        | .blank => ([stOk], p.issueStep (.retireMark s))
        | .set => refuse stOk p
        | .torn => refuse stRefusedState p

/-! ### The session (R130, R132, R133) -/

/-- The next index of the session, 0 while CLOSED. -/
def Store.nextIndex (t : Store) : Nat := (t.session.map Session.nextIndex).getD 0

/-- A reply that carries the next index whatever the status. -/
def withNext (status : Byte) : Effect := fun p => (status :: le16 p.store.nextIndex, p)

/-- The bytes of records in index order. -/
def recordsToBytes (records : List TileRecord) : List Byte := records.flatMap TileRecord.toBytes

/-- Records accepted: staged, summed and counted (R130). -/
def Part.stage (x : Session) (records : List TileRecord) (p : Part) : Part :=
  { p with store := { p.store with
      staging := p.store.staging ++ recordsToBytes records
      session := some { x with
        nextIndex := x.nextIndex + records.length, sum := x.sum + byteSum (recordsToBytes records) } } }

/-- STORE_DATA (R130). -/
def doStoreData (first : Half) (records : List TileRecord) : Effect := fun p =>
  if records.length < 1 ∨ 6 < records.length ∨ 560 < first.toNat + records.length then withNext stBadArgument p
  else if p.store.scanning then withNext stBusy p
  else
    match p.store.session with
    | none => withNext stRefusedState p
    | some x =>
      if x.phase ≠ .receiving then withNext stBusy p
      else if first.toNat ≠ x.nextIndex then withNext stOutOfOrder p
      else if records.all TileRecord.wellFormed = false then withNext stBadRecord p
      else if 512 < p.store.staging.length + 40 * records.length then withNext stBusy p
      else withNext stOk (p.stage x records).advance

/-- STORE_CLOSE (R132). -/
def doStoreClose : Effect := fun p =>
  if p.store.scanning then withNext stBusy p
  else
    match p.store.session with
    | none => withNext stRefusedState p
    | some x =>
      if x.phase ≠ .receiving then withNext stBusy p
      else if x.nextIndex < 560 then withNext stIncomplete p
      else withNext stOk ({ p with store := { p.store with session := some { x with phase := .closing } } }.advance)

/-- STORE_ABORT (R133). -/
def doStoreAbort : Effect := fun p => ([stOk], p.abortSession .request)

/-! ### Reading the store (R137, R138) -/

/-- What STORE_QUERY carries for set `s`. -/
def Part.setBytes (p : Part) (s : Fin 8) : List Byte :=
  let e := p.store.directory[s]
  [e.state.code, bit e.locked, bit p.loader.damaged[s]]
    ++ (match e.sum with | some w => le32 w.toNat | none => [0xFF, 0xFF, 0xFF, 0xFF])

/-- The session state code. -/
def SessionPhase.code : SessionPhase → Byte
  | .erasing => 1
  | .receiving => 2
  | .closing => 3

/-- The session's state, set, next index and staged byte count. -/
def Store.sessionBytes (t : Store) : List Byte :=
  match t.session with
  | none => [0, 0xFF, 0, 0, 0, 0]
  | some x => [x.phase.code, byte x.set.val] ++ le16 x.nextIndex ++ le16 t.staging.length

/-- The kind code and the place of a store step. -/
def StepKind.bytes : StepKind → List Byte
  | .erase q => [1, byte q.val]
  | .recordRow _ r => [2, byte r]
  | .openMark s => [3, byte s.val]
  | .completeMark s _ => [4, byte s.val]
  | .lockMark s => [5, byte s.val]
  | .retireMark s => [6, byte s.val]

/-- The step phase code: pending 0, running 1. -/
def StepPhase.code : StepPhase → Byte
  | .pending => 0
  | .running _ => 1

/-- The store step's kind, place and phase. -/
def Store.stepBytes (t : Store) : List Byte :=
  match t.step with
  | none => [0, 0, 0]
  | some x => x.kind.bytes ++ [x.phase.code]

/-- STORE_QUERY (R137). -/
def doStoreQuery : Effect := fun p =>
  if p.store.scanning then refuse stBusy p
  else
    (stOk :: ((List.finRange 8).flatMap p.setBytes ++ p.store.sessionBytes ++ p.store.stepBytes
      ++ [bitOrNone p.store.calSampled, bit p.store.calDebounced]), p)

/-- STORE_READ (R138): a set or an index out of range is refused first, also while the store is busy (log 42). -/
def doStoreRead (set : Byte) (index : Half) : Effect := fun p =>
  match set? set with
  | none => refuse stBadArgument p
  | some s =>
    if 559 < index.toNat then refuse stBadArgument p
    else if p.store.stepRunning || p.store.scanning then refuse stBusy p
    else (stOk :: (p.store.setState s).code :: recordBytes p.store.flash s index.toNat, p)

/-! ### The commands -/

/-- STORE_OPEN. -/
def execStoreOpen (tag set : Byte) (s : State) : Host.Outcome State Fault Refusal :=
  s.act (Part.answer 0x38 tag (doStoreOpen set))

/-- STORE_DATA. -/
def execStoreData (tag : Byte) (first : Half) (records : List TileRecord) (s : State) :
    Host.Outcome State Fault Refusal :=
  s.act (Part.answer 0x39 tag (doStoreData first records))

/-- STORE_CLOSE. -/
def execStoreClose (tag : Byte) (s : State) : Host.Outcome State Fault Refusal :=
  s.act (Part.answer 0x3A tag doStoreClose)

/-- STORE_ABORT. -/
def execStoreAbort (tag : Byte) (s : State) : Host.Outcome State Fault Refusal :=
  s.act (Part.answer 0x3B tag doStoreAbort)

/-- STORE_LOCK. -/
def execStoreLock (tag set : Byte) (s : State) : Host.Outcome State Fault Refusal :=
  s.act (Part.answer 0x3C tag (doStoreLock set))

/-- STORE_RETIRE. -/
def execStoreRetire (tag set : Byte) (s : State) : Host.Outcome State Fault Refusal :=
  s.act (Part.answer 0x3D tag (doStoreRetire set))

/-- STORE_QUERY. -/
def execStoreQuery (tag : Byte) (s : State) : Host.Outcome State Fault Refusal :=
  s.act (Part.answer 0x3E tag doStoreQuery)

/-- STORE_READ. -/
def execStoreRead (tag set : Byte) (index : Half) (s : State) : Host.Outcome State Fault Refusal :=
  s.act (Part.answer 0x3F tag (doStoreRead set index))

end Sys2Proof.Machine
end

