-- ==== Sys2Proof/Machine/UnitRequests.lean ====
section
/-! DEFINITION. The requests to the ports, the pace timer, the composition engine, the balancer, the height monitor and
the loader (R36 to R39, R49 to R52, R83, R98 to R100, R117, R118). -/

namespace Sys2Proof.Machine

/-! ### Ports (R36 to R39) -/

/-- A settle time brought into 10..2000 ms in steps of 10 (R36). -/
def settleInForce (ms : Nat) : Nat := clamp 10 2000 ms / 10 * 10

/-- A watchdog interval brought into 40..1000 ms (R36). -/
def watchdogInForce (ms : Nat) : Nat := clamp 40 1000 ms

/-- PORT_CONFIGURE (R36). -/
def doPortConfigure (port : Byte) (settle watchdog : Half) (limit : Byte) : Effect := fun p =>
  match camera? port with
  | none => refuse stBadArgument p
  | some i =>
    if p.ports[i].state = .standby then refuse stPortInStandby p
    else
      let st := settleInForce settle.toNat
      let wd := watchdogInForce watchdog.toNat
      let lim := min 3 limit.toNat
      (stAccepted (st != settle.toNat || wd != watchdog.toNat || lim != limit.toNat) ::
          port :: (le16 st ++ le16 wd ++ [byte lim]),
        p.onPort i fun q => { q with settle := st, watchdog := wd, limit := lim })

/-- An OFF or FAILED port as PORT_POWER on takes it (R37). -/
def Port.switchOn (now : Nat) (q : Port) : Port := { q.powerUp now with attempts := 0 }

/-- A port as PORT_POWER off takes it (R37). -/
def Port.switchOff (q : Port) : Port := { q.powerDown .off with attempts := 0 }

/-- Port `i` after PORT_POWER on or off in a state other than STANDBY (R37). -/
def Part.switchPort (i : Fin 4) (on : Bool) (p : Part) : Part :=
  if on then
    if p.ports[i].state = .off ∨ p.ports[i].state = .failed then p.changePort i (Port.switchOn p.now) else p
  else if p.ports[i].state = .off then p
  else p.changePort i Port.switchOff

/-- PORT_POWER (R37): a port number or an action out of range is refused first, also while PARKED and for a
port in STANDBY (log 42). -/
def doPortPower (port action : Byte) : Effect := fun p =>
  match camera? port, bit? action with
  | some i, some on =>
    if p.ports[i].state = .standby then refuse stPortInStandby p
    else if on = true ∧ p.power.state = .parked then refuse stRefusedState p
    else
      let q := p.switchPort i on
      ([stOk, port, q.ports[i].state.code], q)
  | _, _ => refuse stBadArgument p

/-- A port as PORT_STANDBY enter takes it (R38). -/
def Port.enterStandby (q : Port) : Port :=
  { q.clearBuffers with
    state := .standby, timer := .stopped, settle := 300, watchdog := 200, limit := 2, attempts := 0 }

/-- PORT_STANDBY enter (R38): a port number above 3 is refused first, also while PARKED (log 42). -/
def doStandbyEnter (port : Byte) : Effect := fun p =>
  match camera? port with
  | none => refuse stBadArgument p
  | some i =>
    if p.power.state = .parked then refuse stRefusedState p
    else if p.ports[i].state = .standby then ([stOk, port, PortState.standby.code], p)
    else ([stOk, port, PortState.standby.code], p.changePort i Port.enterStandby)

/-- A port as PORT_STANDBY leave takes it: WAITING with its camera powered, OFF without (R39). -/
def Port.leaveStandby (timer : PortTimer) (q : Port) : Port :=
  if q.power then { q with state := .waiting, timer := timer } else { q with state := .off, timer := .stopped }

/-- PORT_STANDBY leave (R39). -/
def doStandbyLeave (port : Byte) : Effect := fun p =>
  match camera? port with
  | none => refuse stBadArgument p
  | some i =>
    if p.ports[i].state = .standby then
      let q := p.changePort i (Port.leaveStandby (p.watchdogTimer p.ports[i]))
      ([stOk, port, q.ports[i].state.code], q)
    else refuse stRefusedState p

/-! ### The pace timer (R49 to R52) -/

/-- The reload that the floor of R42 leaves for a prescaler. -/
def floorReload (prescaler reload : Nat) : Nat :=
  if prescaler * (reload + 1) < Config.periodFloor then (Config.periodFloor + prescaler - 1) / prescaler - 1 else reload

/-- The settings that a PACE_CONFIGURE leaves configured (R49). -/
def paceInRange (prescaler reload : Nat) (mode : PaceMode) (percent stale : Nat) : PaceSettings :=
  { prescaler := prescaler, reload := floorReload prescaler (max 1 reload), mode := mode
    percent := clamp 10 95 percent, stale := min 3 stale }

/-- The configured copy written, and adopted at once in STOPPED (R41, R49). -/
def Pace.configure (c : PaceSettings) (t : Pace) : Pace :=
  { t with configured := c, inForce := if t.runState = .stopped then c else t.inForce }

/-- PACE_CONFIGURE (R49). -/
def doPaceConfigure (prescaler : Byte) (reload : Half) (mode percent stale : Byte) : Effect := fun p =>
  match mode? mode with
  | none => refuse stBadArgument p
  | some m =>
    if prescaler ≠ 16 ∧ prescaler ≠ 64 then refuse stBadArgument p
    else
      let c := paceInRange prescaler.toNat reload.toNat m percent.toNat stale.toNat
      (stAccepted (c.reload != reload.toNat || c.percent != percent.toNat || c.stale != stale.toNat) ::
          byte c.prescaler :: (le16 c.reload ++ [c.mode.code, byte c.percent, byte c.stale, p.pace.runState.code]),
        { p with pace := p.pace.configure c })

/-- PACE_START (R50). -/
def doPaceStart : Effect := fun p =>
  if p.power.state = .run then
    let q := p.startPace
    (stOk :: q.pace.runState.code :: le16 q.pace.trigger.toNat, q)
  else refuse stRefusedState p

/-- PACE_STOP (R51). -/
def doPaceStop : Effect := fun p =>
  let q := if p.pace.runState = .running then p.setRunState .stopping else p
  ([stOk, q.pace.runState.code], q)

/-- The pace timer after a preset at tick `now` (R52). -/
def Pace.preset (now : Nat) (t : Pace) : Pace :=
  { t with
    inForce := { t.inForce with prescaler := t.configured.prescaler, reload := t.configured.reload }
    counter := .counting now }

/-- PACE_PRESET (R52). -/
def doPacePreset : Effect := fun p =>
  if p.pace.runState = .stopped then refuse stRefusedState p
  else
    let t := p.pace.preset p.now
    (stOk :: byte t.inForce.prescaler :: le16 t.inForce.reload, { p with pace := t })

/-! ### The composition engine (R83) -/

/-- COMPOSE_CONFIGURE (R83). -/
def doComposeConfigure (hold y cb cr divider : Byte) : Effect := fun p =>
  if divider = 1 ∨ divider = 2 ∨ divider = 4 then
    let h := min 60 hold.toNat
    ([stAccepted (h != hold.toNat), byte h, y, cb, cr, divider],
      { p with engine := { p.engine with hold := h, void := { y := y, cb := cb, cr := cr }, divider := divider.toNat } })
  else refuse stBadArgument p

/-! ### The seam balancer (R98 to R100) -/

/-- BALANCE_CONFIGURE (R98). -/
def doBalanceConfigure (enable k : Byte) : Effect := fun p =>
  match bit? enable with
  | none => refuse stBadArgument p
  | some on =>
    let n := clamp 1 16 k.toNat
    ([stAccepted (n != k.toNat), bit on, byte n], { p with balancer := { p.balancer with enable := on, k := n } })

/-- BALANCE_SET_GAIN (R99). -/
def doBalanceSetGain (camera : Byte) (gain : Half) : Effect := fun p =>
  match camera? camera with
  | none => refuse stBadArgument p
  | some c =>
    let g := clamp 512 2048 gain.toNat
    (stAccepted (g != gain.toNat) :: camera :: le16 g,
      { p with balancer := { p.balancer with
          gains := update p.balancer.gains c fun _ => g
          written := update p.balancer.written c fun _ => true } })

/-- BALANCE_RESET (R100). -/
def doBalanceReset : Effect := fun p =>
  ([stOk], { p with balancer := { p.balancer with
      gains := #v[1024, 1024, 1024, 1024], written := #v[true, true, true, true] } })

/-! ### The height monitor and the loader (R117, R118) -/

/-- The configuration that HEIGHT_CONFIGURE's arguments name after steps 1 and 2; none if step 1 refuses them (R117). -/
def heightConfig? (a : HeightArgs) : Option HeightConfig :=
  match bit? a.polarity, bit? a.mode, set? a.map0, set? a.map1, set? a.map2, set? a.map3 with
  | some pol, some manual, some m0, some m1, some m2, some m3 =>
    if 1 ≤ a.bands.toNat ∧ a.bands.toNat ≤ 4 then
      some
        { polarity := pol, bands := a.bands.toNat, b1 := clamp 1 999 a.b1.toNat, b2 := clamp 1 999 a.b2.toNat
          b3 := clamp 1 999 a.b3.toNat, hysteresis := min 50 a.hysteresis.toNat, map := #v[m0, m1, m2, m3]
          auto := !manual }
    else none
  | _, _, _, _, _, _ => none

/-- Step 2 of R117 changed a value. -/
def heightClamped (a : HeightArgs) (c : HeightConfig) : Bool :=
  c.b1 != a.b1.toNat || c.b2 != a.b2.toNat || c.b3 != a.b3.toNat || c.hysteresis != a.hysteresis.toNat

/-- The fields of a height configuration, as HEIGHT_CONFIGURE's reply carries them. -/
def HeightConfig.bytes (c : HeightConfig) : List Byte :=
  [bit c.polarity, byte c.bands] ++ le16 c.b1 ++ le16 c.b2 ++ le16 c.b3
    ++ [byte c.hysteresis, byte c.map[0].val, byte c.map[1].val, byte c.map[2].val, byte c.map[3].val, bit (!c.auto)]

/-- HEIGHT_CONFIGURE (R117). -/
def doHeightConfigure (a : HeightArgs) : Effect := fun p =>
  match heightConfig? a with
  | none => refuse stBadArgument p
  | some c =>
    if spaced c.hysteresis c.inUse then (stAccepted (heightClamped a c) :: c.bytes, p.applyHeight c)
    else refuse stBadArgument p

/-- The store and the loader know set `s` to be unusable: not COMPLETE, DAMAGED, or in a write session (R118). -/
def Part.knownUnusable (p : Part) (s : Fin 8) : Bool :=
  p.store.setState s != .complete || p.loader.damaged[s] || p.store.sessionOn s

/-- SELECT_SET (R118; log 35). -/
def doSelectSet (set : Byte) : Effect := fun p =>
  match set? set with
  | none => refuse stBadArgument p
  | some s =>
    if p.height.config.auto then refuse stRefusedState p
    else if p.store.scanning then refuse stBusy p
    else if p.knownUnusable s then refuse stSetUnusable p
    else ([stOk], p.requestSet s)

/-! ### The commands -/

/-- PORT_CONFIGURE. -/
def execPortConfigure (tag port : Byte) (settle watchdog : Half) (limit : Byte) (s : State) :
    Host.Outcome State Fault Refusal :=
  s.act (Part.answer 0x10 tag (doPortConfigure port settle watchdog limit))

/-- PORT_POWER. -/
def execPortPower (tag port action : Byte) (s : State) : Host.Outcome State Fault Refusal :=
  s.act (Part.answer 0x11 tag (doPortPower port action))

/-- PORT_STANDBY enter. -/
def execPortStandbyEnter (tag port : Byte) (s : State) : Host.Outcome State Fault Refusal :=
  s.act (Part.answer 0x12 tag (doStandbyEnter port))

/-- PORT_STANDBY leave. -/
def execPortStandbyLeave (tag port : Byte) (s : State) : Host.Outcome State Fault Refusal :=
  s.act (Part.answer 0x12 tag (doStandbyLeave port))

/-- PACE_CONFIGURE. -/
def execPaceConfigure (tag prescaler : Byte) (reload : Half) (mode percent stale : Byte) (s : State) :
    Host.Outcome State Fault Refusal :=
  s.act (Part.answer 0x18 tag (doPaceConfigure prescaler reload mode percent stale))

/-- PACE_START. -/
def execPaceStart (tag : Byte) (s : State) : Host.Outcome State Fault Refusal :=
  s.act (Part.answer 0x19 tag doPaceStart)

/-- PACE_STOP. -/
def execPaceStop (tag : Byte) (s : State) : Host.Outcome State Fault Refusal := s.act (Part.answer 0x1A tag doPaceStop)

/-- PACE_PRESET. -/
def execPacePreset (tag : Byte) (s : State) : Host.Outcome State Fault Refusal :=
  s.act (Part.answer 0x1B tag doPacePreset)

/-- COMPOSE_CONFIGURE. -/
def execComposeConfigure (tag hold y cb cr divider : Byte) (s : State) : Host.Outcome State Fault Refusal :=
  s.act (Part.answer 0x20 tag (doComposeConfigure hold y cb cr divider))

/-- BALANCE_CONFIGURE. -/
def execBalanceConfigure (tag enable k : Byte) (s : State) : Host.Outcome State Fault Refusal :=
  s.act (Part.answer 0x28 tag (doBalanceConfigure enable k))

/-- BALANCE_SET_GAIN. -/
def execBalanceSetGain (tag camera : Byte) (gain : Half) (s : State) : Host.Outcome State Fault Refusal :=
  s.act (Part.answer 0x29 tag (doBalanceSetGain camera gain))

/-- BALANCE_RESET. -/
def execBalanceReset (tag : Byte) (s : State) : Host.Outcome State Fault Refusal :=
  s.act (Part.answer 0x2A tag doBalanceReset)

/-- HEIGHT_CONFIGURE. -/
def execHeightConfigure (tag : Byte) (args : HeightArgs) (s : State) : Host.Outcome State Fault Refusal :=
  s.act (Part.answer 0x30 tag (doHeightConfigure args))

/-- SELECT_SET. -/
def execSelectSet (tag set : Byte) (s : State) : Host.Outcome State Fault Refusal :=
  s.act (Part.answer 0x31 tag (doSelectSet set))

end Sys2Proof.Machine
end

