-- ==== Sys2Proof/Machine/Frame.lean ====
section
/-! DEFINITION. Frames on the link: the CRC and the envelope (R180), the checks of a received frame (R181), what the
body of each request kind names (*Request bodies*), and the end of a transaction (R184). -/

namespace Sys2Proof.Machine

/-! ### The CRC and the envelope (R180) -/

/-- One bit of the cyclic check with polynomial 1021h. -/
def crcBit (c : BitVec 16) : BitVec 16 := if c.msb then (c <<< 1) ^^^ 0x1021 else c <<< 1

/-- One byte of the cyclic check, most significant bit first. -/
def crcByte (c : BitVec 16) (b : Byte) : BitVec 16 :=
  let x := c ^^^ (b ++ (0 : Byte))
  crcBit (crcBit (crcBit (crcBit (crcBit (crcBit (crcBit (crcBit x)))))))

/-- The cyclic check of some bytes, from FFFFh. -/
def crc (bytes : List Byte) : BitVec 16 := bytes.foldl crcByte 0xFFFF

/-- What the CRC of a record is computed over. -/
def Frame.covered (f : Frame) : List Byte := [f.kind, f.tag] ++ le16 f.body.length ++ f.body

/-- The bytes of a record on the link; the CRC is sent high byte first. -/
def Frame.bytes (f : Frame) : List Byte :=
  f.covered ++ [(crc f.covered).extractLsb' 8 8, (crc f.covered).extractLsb' 0 8]

/-! ### The checks of a received frame (R181) -/

/-- What the checks decide. -/
inductive FrameCheck where
  | rejected (reason : Byte)
  | passed (body : List Byte)
  deriving DecidableEq, Repr

/-- The CRC in the two bytes after the body is that of the bytes before it. -/
def crcMatches (bytes : List Byte) (len : Nat) : Bool :=
  crc (bytes.take (4 + len)) == bytes[4 + len]?.getD 0 ++ bytes[5 + len]?.getD 0

/-- The checks in the order of R181; reasons 01h LENGTH, 02h TRUNCATED, 03h CRC, 04h KIND. -/
def checkFrame (bytes : List Byte) : FrameCheck :=
  let len := (bytes[3]?.getD 0).toNat * 256 + (bytes[2]?.getD 0).toNat
  if bytes.length < 4 then .rejected 2
  else if 256 < len then .rejected 1
  else if bytes.length < 6 + len then .rejected 2
  else if crcMatches bytes len = false then .rejected 3
  else if 0x7F ≤ (bytes[0]?.getD 0).toNat then .rejected 4
  else .passed ((bytes.drop 4).take len)

/-! ### Request bodies -/

/-- The pairs of a body of an even number of bytes. -/
def pairs? : List Byte → Option (List (Byte × Byte))
  | [] => some []
  | a :: b :: rest =>
    match pairs? rest with
    | some ps => some ((a, b) :: ps)
    | none => none
  | [_] => none

/-- The line entries of a body of whole entries. -/
def lineEntries? : List Byte → Option (List LineEntry)
  | [] => some []
  | a :: b :: c :: d :: e :: f :: g :: h :: rest =>
    match lineEntries? rest with
    | some es =>
      some ({ line := a, direction := b, attr := c, level := d, role := e, active := f, report := g, wake := h } :: es)
    | none => none
  | _ => none

/-- `n` tile records from the front of some bytes. -/
def tileRecords : Nat → List Byte → List TileRecord
  | 0, _ => []
  | n + 1, bytes => TileRecord.ofBytes (bytes.take 40) :: tileRecords n (bytes.drop 40)

/-- A request without arguments; any body is of the wrong length. -/
def noBody (act : Effect) : List Byte → Effect
  | [] => act
  | _ => refuse stBadArgument

/-- A request with one byte of arguments. -/
def oneByte (act : Byte → Effect) : List Byte → Effect
  | [a] => act a
  | _ => refuse stBadArgument

/-- Requests 01h to 05h. -/
def serveLink (kind : Nat) (body : List Byte) : Effect :=
  match kind with
  | 0x01 => noBody doIdentify body
  | 0x02 => noBody doStatus body
  | 0x03 => noBody doReset body
  | 0x04 => match pairs? body with | some ps => doEventConfigure ps | none => refuse stBadArgument
  | 0x05 => match body with | [a, b, c] => doEventClear (c ++ b ++ a) | _ => refuse stBadArgument
  | _ => refuse stUnknownRequest

/-- Requests 10h to 12h; a PORT_STANDBY whose action is neither enter nor leave is refused (R39). -/
def servePorts (kind : Nat) (body : List Byte) : Effect :=
  match kind, body with
  | 0x10, [port, s0, s1, w0, w1, limit] => doPortConfigure port (half s0 s1) (half w0 w1) limit
  | 0x11, [port, action] => doPortPower port action
  | 0x12, [port, action] =>
    if action = 1 then doStandbyEnter port
    else if action = 0 then doStandbyLeave port
    else refuse stBadArgument
  | 0x10, _ => refuse stBadArgument
  | 0x11, _ => refuse stBadArgument
  | 0x12, _ => refuse stBadArgument
  | _, _ => refuse stUnknownRequest

/-- Requests 18h to 1Bh. -/
def servePace (kind : Nat) (body : List Byte) : Effect :=
  match kind with
  | 0x18 =>
    match body with
    | [p, r0, r1, mode, percent, stale] => doPaceConfigure p (half r0 r1) mode percent stale
    | _ => refuse stBadArgument
  | 0x19 => noBody doPaceStart body
  | 0x1A => noBody doPaceStop body
  | 0x1B => noBody doPacePreset body
  | _ => refuse stUnknownRequest

/-- Requests 20h to 31h. -/
def servePicture (kind : Nat) (body : List Byte) : Effect :=
  match kind with
  | 0x20 =>
    match body with
    | [h, y, cb, cr, d] => doComposeConfigure h y cb cr d
    | _ => refuse stBadArgument
  | 0x28 => match body with | [enable, k] => doBalanceConfigure enable k | _ => refuse stBadArgument
  | 0x29 => match body with | [camera, g0, g1] => doBalanceSetGain camera (half g0 g1) | _ => refuse stBadArgument
  | 0x2A => noBody doBalanceReset body
  | 0x30 =>
    match body with
    | [pol, n, a0, a1, b0, b1, c0, c1, hy, m0, m1, m2, m3, mode] =>
      doHeightConfigure
        { polarity := pol, bands := n, b1 := half a0 a1, b2 := half b0 b1, b3 := half c0 c1, hysteresis := hy
          map0 := m0, map1 := m1, map2 := m2, map3 := m3, mode := mode }
    | _ => refuse stBadArgument
  | 0x31 => oneByte doSelectSet body
  | _ => refuse stUnknownRequest

/-- STORE_DATA's body: first index, record count, and that many records; its reply carries the next index whatever the
status. -/
def serveStoreData : List Byte → Effect
  | f0 :: f1 :: n :: rest =>
    if rest.length = 40 * n.toNat then doStoreData (half f0 f1) (tileRecords n.toNat rest) else withNext stBadArgument
  | _ => withNext stBadArgument

/-- Requests 38h to 3Fh. -/
def serveStore (kind : Nat) (body : List Byte) : Effect :=
  match kind with
  | 0x38 => oneByte doStoreOpen body
  | 0x39 => serveStoreData body
  | 0x3A => match body with | [] => doStoreClose | _ => withNext stBadArgument
  | 0x3B => noBody doStoreAbort body
  | 0x3C => oneByte doStoreLock body
  | 0x3D => oneByte doStoreRetire body
  | 0x3E => noBody doStoreQuery body
  | 0x3F => match body with | [set, t0, t1] => doStoreRead set (half t0 t1) | _ => refuse stBadArgument
  | _ => refuse stUnknownRequest

/-- Requests 40h to 4Ah; POWER_STATE's reply carries power and supply state whatever the status. -/
def serveLines (kind : Nat) (body : List Byte) : Effect :=
  match kind with
  | 0x40 =>
    match body with
    | auto :: rest =>
      match lineEntries? rest with
      | some es => doLineConfigure auto es
      | none => refuse stBadArgument
    | [] => refuse stBadArgument
  | 0x41 => noBody doLineRead body
  | 0x42 => match pairs? body with | some ps => doLineWrite ps | none => refuse stBadArgument
  | 0x48 => match body with | [target] => doPowerState target | _ => withPower stBadArgument
  | 0x49 => oneByte doWakeConfigure body
  | 0x4A => oneByte doSupplyConfigure body
  | _ => refuse stUnknownRequest

/-- What a request of this kind with this body does: UNKNOWN_REQUEST where the kind names none, BAD_ARGUMENT where the
body length does not match (R182). -/
def serve (kind : Nat) (body : List Byte) : Effect :=
  if kind < 0x10 then serveLink kind body
  else if kind < 0x18 then servePorts kind body
  else if kind < 0x20 then servePace kind body
  else if kind < 0x38 then servePicture kind body
  else if kind < 0x40 then serveStore kind body
  else serveLines kind body

/-! ### The end of a transaction (R184) -/

/-- The record in the slot. -/
def Outgoing.frame : Outgoing → Frame
  | .reply f => f
  | .notice _ f => f

/-- What is shifted out on MISO in a transaction of `n` whole bytes: the slot's record from its first byte, then 00h; 00h
throughout when the slot was empty (R179). A transaction that a reset cut leaves the bytes of the one before it
(log 18). -/
def Link.shiftOut (l : Link) (n : Nat) (start : TransactionStart) : List Byte :=
  match start, l.slot with
  | .lost, _ => l.miso
  | .slotHeld, some o => (o.frame.bytes ++ List.replicate n 0).take n
  | .slotHeld, none => List.replicate n 0
  | .slotEmpty, _ => List.replicate n 0

/-- A damaged frame is answered by a REJECT, or reported by REPLY_OVERRUN with four records queued (R181, R183). -/
def Part.rejectFrame (reason kind tag : Byte) (p : Part) : Part :=
  if p.queueFull then p.raise .replyOverrun [kind, tag]
  else { p with link := p.link.join { kind := 0x80, tag := tag, body := [reason, kind] } }

/-- Step 1 of R184: the received bytes are checked, and a request is taken or a REJECT queued. A first byte 00h is
filler, and no byte is nothing (R179). A tag that was not received counts as 00h, in a REJECT (R181) and in the detail
of REPLY_OVERRUN (log 41). -/
def Part.takeBytes (bytes : List Byte) (p : Part) : Part :=
  match bytes with
  | [] => p
  | kind :: _ =>
    if kind = 0 then p
    else
      match checkFrame bytes with
      | .rejected reason => p.rejectFrame reason kind (bytes[1]?.getD 0)
      | .passed body => p.answer kind (bytes[1]?.getD 0) (serve kind.toNat body)

/-- The reply of an accepted RESET (R190). -/
def Frame.acceptsReset (f : Frame) : Bool := f.kind == 0x83 && f.body == [stOk]

/-- The reset wait after a reply was fully transmitted (R190). -/
def ResetWait.afterReply (w : ResetWait) (f : Frame) : ResetWait :=
  if f.acceptsReset = true ∧ w = .replyWaiting then .replySent else w

/-- The record in the slot has been fully transmitted and leaves it (R184, R186, R190). -/
def Link.leave (l : Link) (o : Outgoing) : Link :=
  match o with
  | .reply f =>
    { l with resetWait := l.resetWait.afterReply f }.setSlot none
  | .notice k _ => { l with records := update l.records k.index PendingRecord.sent }.setSlot none

/-- Step 2 of R184: `n` bytes were shifted out in the transaction. -/
def Link.leaveAfter (l : Link) (n : Nat) : Link :=
  match l.slot with
  | some o => if 6 + o.frame.body.length ≤ n then l.leave o else l
  | none => l

/-- The end of a transaction, taken as one event (R184; log 18). -/
def Part.endTransaction (mosi : List Byte) (start : TransactionStart) (p : Part) : Part :=
  let bytes := p.link.receiver ++ mosi
  let q := { p with link := { p.link with receiver := [], miso := p.link.shiftOut bytes.length start } }
  match start with
  | .lost => q
  | .slotEmpty =>
    let q := q.takeBytes bytes
    { q with link := q.link.fill }
  | .slotHeld =>
    let q := q.takeBytes bytes
    { q with link := (q.link.leaveAfter bytes.length).fill }

/-- TRANSACTION_END (R184). -/
def execTransactionEnd (mosi : List Byte) (start : TransactionStart) (s : State) : Host.Outcome State Fault Refusal :=
  s.act (Part.endTransaction mosi start)

end Sys2Proof.Machine
end

