-- ==== Sys2Proof/Machine/Resets.lean ====
section
/-! DEFINITION. The resets: a soft reset once its conditions are met (R140, R190), the beginning of a full reset, which
cuts a running store step (R141, R168), and its end (R169). -/

namespace Sys2Proof.Machine

/-- A port after a soft reset: WAITING with its watchdog held if its camera is powered, OFF otherwise; the level last read
on CSNSn, which R40 does not list, is kept (R40; log 13). -/
def Port.afterSoftReset (q : Port) : Port :=
  { Port.atReset with
    state := if q.power then .waiting else .off
    power := q.power
    csns := q.csns
    timer := if q.power then .held else .stopped }

/-- The store after a soft reset at tick `now`: flash and CAL_WE kept, the directory until the scan has built it anew
(R124, R142; log 26). -/
def Store.afterSoftReset (now : Nat) (t : Store) : Store :=
  { Store.atReset t.flash (.scan (now + Config.scanTicks)) with
    directory := t.directory, calSampled := t.calSampled, calDebounced := t.calDebounced }

/-- A line after a soft reset (R155). -/
def Line.afterSoftReset (l : Line) : Line := { l with mismatch := 0, flag := false, snapshot := none }

/-- The soft reset is carried out (R40, R55, R84, R101, R119, R142, R155, R170, R178, R193). -/
def Part.softReset (p : Part) : Part :=
  { p with
    link := .atReset
    ports := mapAll p.ports Port.afterSoftReset
    pace := .atReset
    engine := .atReset
    balancer := .atReset
    height := .atReset (p.now / Config.ticksPerMicro) (some (p.now + Config.silenceTicks))
    loader := .atReset
    store := p.store.afterSoftReset p.now
    lines := { p.lines with line := mapAll p.lines.line Line.afterSoftReset, filled := none, awaiting := false }
    power := { p.power with state := .doze, cause := .soft }
    display := .atReset }

/-- The conditions of a soft reset: the RESET reply has been fully transmitted, and no store step runs (R140, R190). -/
def Part.softResetDue (p : Part) : Bool := p.link.resetWait == .replySent && p.store.step.isNone

/-- The flash as a full reset leaves it: a running step is cut (R123, R141). -/
def Part.flashAfterCut (p : Part) : Memory :=
  match p.store.step with
  | some { kind := k, phase := .running _ } => cutStep p.draws p.store.flash k
  | _ => p.store.flash

/-- A full reset begins: every unit at its reset values, the part held in reset, the scan and the silence timer not
started before the end (R141, R168). -/
def Part.beginReset (cause : ResetCause) (p : Part) : Part :=
  let q := Part.afterFullReset cause p.flashAfterCut p.now (p.draws + 1)
  { q with
    power := { q.power with inReset := true }, store := { q.store with holder := .nobody }
    height := .atReset (p.now / Config.ticksPerMicro) none }

/-- A full reset ends (R169). -/
def Part.endReset (p : Part) : Part :=
  if p.power.inReset then Part.afterFullReset p.power.cause p.store.flash p.now p.draws else p

/-- SOFT_RESET (R190). -/
def execSoftReset (s : State) : Host.Outcome State Fault Refusal :=
  s.act fun p => if p.softResetDue then p.softReset else p

/-- POWER_ON_RESET (R168). -/
def execPowerOnReset (s : State) : Host.Outcome State Fault Refusal :=
  .next { s with toPart := s.toPart.beginReset .powerOn }

/-- SUPPLY_RESET (R168). -/
def execSupplyReset (s : State) : Host.Outcome State Fault Refusal :=
  .next { s with toPart := s.toPart.beginReset .supply }

/-- PIN_RESET (R168). -/
def execPinReset (s : State) : Host.Outcome State Fault Refusal :=
  .next { s with toPart := s.toPart.beginReset .pin }

/-- FULL_RESET_END (R169). -/
def execFullResetEnd (s : State) : Host.Outcome State Fault Refusal := .next { s with toPart := s.toPart.endReset }

end Sys2Proof.Machine
end

