-- ==== Sys2Proof/Machine/Ticking.lean ====
section
/-! DEFINITION. What the part does of its own accord while no command waits: the events that its timers and its arbiter
make due (log 1). Each is one of the commands of the table. -/

namespace Sys2Proof.Machine

/-- The tick at which the running timer of port `i` expires, with the command it gives (R27). -/
def Part.portTimer (p : Part) (i : Fin 4) : List (Nat × Instr) :=
  match p.ports[i].state, p.ports[i].timer with
  | .powering, .running t => [(t, .settleExpiry i)]
  | .recovering, .running t => [(t, .recoveryExpiry i)]
  | .waiting, .running t => [(t, .watchdogExpiry i)]
  | .live, .running t => [(t, .watchdogExpiry i)]
  | .stalled, .running t => [(t, .watchdogExpiry i)]
  | _, _ => []

/-- The end of the period in progress. -/
def Part.periodTimer (p : Part) : List (Nat × Instr) :=
  match p.pace.counter with
  | .counting since => [(since + p.pace.inForce.period, .periodEnd)]
  | .stopped _ => []

/-- The next event of a load in progress (R112). -/
def Part.loadTimer (p : Part) : List (Nat × Instr) :=
  match p.loader.state with
  | .loading _ start false => [(start + Config.marksTicks, .loadMarksRead)]
  | .loading _ start true => [(start + Config.loadTicks, .loadEnd)]
  | _ => []

/-- The command that ends a store step (R126). -/
def StepKind.ending : StepKind → Instr
  | .erase _ => .sectorEraseEnd
  | .recordRow _ _ => .rowProgramEnd
  | .openMark _ => .openMarkEnd
  | .completeMark _ _ => .completeMarkEnd
  | .lockMark _ => .lockMarkEnd
  | .retireMark _ => .retireMarkEnd

/-- The end of a running store step, and that of the scan. -/
def Part.storeTimer (p : Part) : List (Nat × Instr) :=
  (match p.store.step with
    | some { kind := k, phase := .running t } => [(t, k.ending)]
    | _ => [])
    ++ (match p.store.holder with
      | .scan t => [(t, .scanEnd)]
      | _ => [])

/-- A timer that may be stopped. -/
def timerOf (t : Option Nat) (c : Instr) : List (Nat × Instr) :=
  match t with
  | some t => [(t, c)]
  | none => []

/-- Every running timer with its expiry tick and its command (log 5: among equals the first here comes first). -/
def Part.timers (p : Part) : List (Nat × Instr) :=
  timerOf (p.engine.inflight.map Composition.completion) .compositionComplete
    ++ timerOf (p.pace.deadline.map Deadline.due) .deadlineExpiry
    ++ timerOf p.pace.capture .capturePulseEnd
    ++ p.periodTimer
    ++ timerOf (p.display.transfer.map Transfer.due) .transferEnd
    ++ (List.finRange 4).flatMap p.portTimer
    ++ timerOf p.height.silence .silenceExpiry
    ++ p.loadTimer ++ p.storeTimer

/-- The earlier of two timers, the first on a tie. -/
def sooner (best : Option (Nat × Instr)) (x : Nat × Instr) : Option (Nat × Instr) :=
  match best with
  | none => some x
  | some b => if x.1 < b.1 then some x else some b

/-- The command that a timer has made due by now, the earliest expiry first. -/
def Part.timerDue (p : Part) : Option Instr :=
  match p.timers.foldl sooner none with
  | some x => if x.1 ≤ p.now then some x.2 else none
  | none => none

/-- The loader is at the head of the arbiter's line and the flash is free (R125). -/
def Part.loadMayStart (p : Part) : Bool :=
  match p.loader.state, p.store.holder, p.store.line with
  | .waitingStore _, .nobody, .loader :: _ => true
  | _, _, _ => false

/-- The store is at the head of the arbiter's line with a pending step and the flash is free (R125). -/
def Part.stepMayStart (p : Part) : Bool :=
  match p.store.step, p.store.holder, p.store.line with
  | some { phase := .pending, .. }, .nobody, .store :: _ => true
  | _, _, _ => false

/-- The command that the part itself has due: none while it is held in a full reset; what follows at once (log 17); else
what a timer has made due. -/
def Part.dueCommand (p : Part) : Option Instr :=
  if p.power.inReset then none
  else if p.softResetDue then some .softReset
  else if p.loadMayStart then some .loadStart
  else if p.stepMayStart then some .storeStepStart
  else p.timerDue

/-- One reference tick passes. -/
def Part.tick (p : Part) : Part := { p with now := p.now + 1 }

end Sys2Proof.Machine
end

