-- ==== Sys2Proof/Machine/Dispatch.lean ====
section
/-! DEFINITION. The meaning of every command, one arm per constructor. -/

namespace Sys2Proof.Machine

def exec (i : Instr) (s : State) : Host.Outcome State Fault Refusal :=
  match i with
  | .identify tag => Sys2Proof.Machine.execIdentify tag s
  | .status tag => Sys2Proof.Machine.execStatus tag s
  | .reset tag => Sys2Proof.Machine.execReset tag s
  | .eventConfigure tag pairs => Sys2Proof.Machine.execEventConfigure tag pairs s
  | .eventClear tag kinds => Sys2Proof.Machine.execEventClear tag kinds s
  | .portConfigure tag port settle watchdog limit => Sys2Proof.Machine.execPortConfigure tag port settle watchdog limit s
  | .portPower tag port action => Sys2Proof.Machine.execPortPower tag port action s
  | .portStandbyEnter tag port => Sys2Proof.Machine.execPortStandbyEnter tag port s
  | .portStandbyLeave tag port => Sys2Proof.Machine.execPortStandbyLeave tag port s
  | .paceConfigure tag prescaler reload mode percent stale => Sys2Proof.Machine.execPaceConfigure tag prescaler reload mode percent stale s
  | .paceStart tag => Sys2Proof.Machine.execPaceStart tag s
  | .paceStop tag => Sys2Proof.Machine.execPaceStop tag s
  | .pacePreset tag => Sys2Proof.Machine.execPacePreset tag s
  | .composeConfigure tag hold y cb cr divider => Sys2Proof.Machine.execComposeConfigure tag hold y cb cr divider s
  | .balanceConfigure tag enable k => Sys2Proof.Machine.execBalanceConfigure tag enable k s
  | .balanceSetGain tag camera gain => Sys2Proof.Machine.execBalanceSetGain tag camera gain s
  | .balanceReset tag => Sys2Proof.Machine.execBalanceReset tag s
  | .heightConfigure tag args => Sys2Proof.Machine.execHeightConfigure tag args s
  | .selectSet tag set => Sys2Proof.Machine.execSelectSet tag set s
  | .storeOpen tag set => Sys2Proof.Machine.execStoreOpen tag set s
  | .storeData tag first records => Sys2Proof.Machine.execStoreData tag first records s
  | .storeClose tag => Sys2Proof.Machine.execStoreClose tag s
  | .storeAbort tag => Sys2Proof.Machine.execStoreAbort tag s
  | .storeLock tag set => Sys2Proof.Machine.execStoreLock tag set s
  | .storeRetire tag set => Sys2Proof.Machine.execStoreRetire tag set s
  | .storeQuery tag => Sys2Proof.Machine.execStoreQuery tag s
  | .storeRead tag set index => Sys2Proof.Machine.execStoreRead tag set index s
  | .lineConfigure tag autoStart entries => Sys2Proof.Machine.execLineConfigure tag autoStart entries s
  | .lineRead tag => Sys2Proof.Machine.execLineRead tag s
  | .lineWrite tag pairs => Sys2Proof.Machine.execLineWrite tag pairs s
  | .powerState tag target => Sys2Proof.Machine.execPowerState tag target s
  | .wakeConfigure tag value => Sys2Proof.Machine.execWakeConfigure tag value s
  | .supplyConfigure tag threshold => Sys2Proof.Machine.execSupplyConfigure tag threshold s
  | .transactionEnd mosi start => Sys2Proof.Machine.execTransactionEnd mosi start s
  | .softReset => Sys2Proof.Machine.execSoftReset s
  | .powerOnReset => Sys2Proof.Machine.execPowerOnReset s
  | .supplyReset => Sys2Proof.Machine.execSupplyReset s
  | .pinReset => Sys2Proof.Machine.execPinReset s
  | .fullResetEnd => Sys2Proof.Machine.execFullResetEnd s
  | .frameStart port => Sys2Proof.Machine.execFrameStart port s
  | .linePacket port samples => Sys2Proof.Machine.execLinePacket port samples s
  | .frameEnd port => Sys2Proof.Machine.execFrameEnd port s
  | .settleExpiry port => Sys2Proof.Machine.execSettleExpiry port s
  | .watchdogExpiry port => Sys2Proof.Machine.execWatchdogExpiry port s
  | .recoveryExpiry port => Sys2Proof.Machine.execRecoveryExpiry port s
  | .powerFault port => Sys2Proof.Machine.execPowerFault port s
  | .periodEnd => Sys2Proof.Machine.execPeriodEnd s
  | .capturePulseEnd => Sys2Proof.Machine.execCapturePulseEnd s
  | .deadlineExpiry => Sys2Proof.Machine.execDeadlineExpiry s
  | .compositionComplete => Sys2Proof.Machine.execCompositionComplete s
  | .hgtActiveEdge micros => Sys2Proof.Machine.execHgtActiveEdge micros s
  | .hgtInactiveEdge micros => Sys2Proof.Machine.execHgtInactiveEdge micros s
  | .silenceExpiry => Sys2Proof.Machine.execSilenceExpiry s
  | .loadStart => Sys2Proof.Machine.execLoadStart s
  | .loadMarksRead => Sys2Proof.Machine.execLoadMarksRead s
  | .loadEnd => Sys2Proof.Machine.execLoadEnd s
  | .scanEnd => Sys2Proof.Machine.execScanEnd s
  | .storeStepStart => Sys2Proof.Machine.execStoreStepStart s
  | .sectorEraseEnd => Sys2Proof.Machine.execSectorEraseEnd s
  | .openMarkEnd => Sys2Proof.Machine.execOpenMarkEnd s
  | .rowProgramEnd => Sys2Proof.Machine.execRowProgramEnd s
  | .completeMarkEnd => Sys2Proof.Machine.execCompleteMarkEnd s
  | .lockMarkEnd => Sys2Proof.Machine.execLockMarkEnd s
  | .retireMarkEnd => Sys2Proof.Machine.execRetireMarkEnd s
  | .calWeChange level => Sys2Proof.Machine.execCalWeChange level s
  | .lineAcceptedChange line level => Sys2Proof.Machine.execLineAcceptedChange line level s
  | .lineFirstSample line level => Sys2Proof.Machine.execLineFirstSample line level s
  | .outputMismatch line => Sys2Proof.Machine.execOutputMismatch line s
  | .mismatchCleared line => Sys2Proof.Machine.execMismatchCleared line s
  | .supplyLow reading => Sys2Proof.Machine.execSupplyLow reading s
  | .supplyRestored reading => Sys2Proof.Machine.execSupplyRestored reading s
  | .transferEnd => Sys2Proof.Machine.execTransferEnd s
  | .hgtFirstLevelAccepted first => Sys2Proof.Machine.execHgtFirstLevelAccepted first s
  | .vsenseReading reading => Sys2Proof.Machine.execVsenseReading reading s
  | .csnsSample port level => Sys2Proof.Machine.execCsnsSample port level s
  | .calWeSample level => Sys2Proof.Machine.execCalWeSample level s
  | .vehicleLineSample levels => Sys2Proof.Machine.execVehicleLineSample levels s

end Sys2Proof.Machine
end

