-- ==== Sys2Proof/Safety.lean ====
section
/-! DEFINITION. What a sound state of each unit is: the conditions that the manual says always hold, in the terms that
statements use. Each is meant to hold at reset and to be kept by every step. -/

namespace Sys2Proof.Machine

/-! ### The command link -/

/-- Nothing waits for an empty slot, ATTN follows the slot, and at most four records wait (R183, R185, R187). -/
def Link.Settled (l : Link) : Prop :=
  l.queue.length ≤ 4 ∧ l.attn = l.slot.isSome
    ∧ (l.slot = none → l.queue = [] ∧ ∀ k : Fin 18, l.records[k].sendable = false)

/-- A pending record is in range: a repeat count of 1..255 while pending, and nothing held while not (R186). -/
def PendingRecord.Ok (r : PendingRecord) : Prop :=
  r.priority ≤ 3 ∧ r.repeats ≤ 255 ∧ r.raisedAgain ≤ 255 ∧ (r.pending = true → 1 ≤ r.repeats)
    ∧ (r.pending = false → r.repeats = 0 ∧ r.detail = [] ∧ r.raisedAgain = 0)

/-- Every pending record is in range (R186). -/
def Link.RecordsOk (l : Link) : Prop := ∀ k : Fin 18, l.records[k].Ok

/-! ### Camera ports -/

/-- CPWRn is driven as the table of R27 says; in STANDBY it may be either. -/
def Port.PowerOk (q : Port) : Prop :=
  match q.state with
  | .powering | .waiting | .live | .stalled => q.power = true
  | .off | .recovering | .failed => q.power = false
  | .standby => True

/-- Every port drives CPWRn as its state says (R27, R33). -/
def Part.PortsPowered (p : Part) : Prop := ∀ i : Fin 4, p.ports[i].PowerOk

/-- The frame buffers of a port: the READY list names the READY buffers once each, at most one buffer is FILLING and at
most one IN_USE, and a port that does not watch for frames has none FILLING (R20). -/
def Port.BuffersOk (q : Port) : Prop :=
  q.ready.Nodup
    ∧ (∀ b : Fin 3, b ∈ q.ready ↔ q.buffers[b].state = .ready)
    ∧ (∀ a b : Fin 3, q.buffers[a].state = .filling → q.buffers[b].state = .filling → a = b)
    ∧ (∀ a b : Fin 3, q.buffers[a].state = .inUse → q.buffers[b].state = .inUse → a = b)
    ∧ (q.state.watches = false → ∀ b : Fin 3, q.buffers[b].state ≠ .filling)

/-- The frame buffers of every port; while the supply is LOW none is FILLING or READY, and none is IN_USE with the
engine IDLE (R20, R24 to R26). -/
def Part.FramesOk (p : Part) : Prop :=
  ∀ i : Fin 4, p.ports[i].BuffersOk
    ∧ (p.supply.low = true → ∀ b : Fin 3, p.ports[i].buffers[b].state ≠ .filling ∧ p.ports[i].buffers[b].state ≠ .ready)
    ∧ (p.engine.inflight = none → ∀ b : Fin 3, p.ports[i].buffers[b].state ≠ .inUse)

/-! ### Pace timer and gather slot -/

/-- Outside RUN the pace is STOPPED with no deadline armed, the gather slot is EMPTY, and no frame request is held
(R53, R82, R160, R175). -/
def Part.QuietOutsideRun (p : Part) : Prop :=
  p.power.state ≠ .run →
    p.pace.runState = .stopped ∧ p.pace.deadline = none ∧ p.engine.slot = .empty ∧ p.display.held = false

/-- A copy of the pace settings in range: the period is never below 25.0 ms (R41, R42). -/
def PaceSettings.Ok (c : PaceSettings) : Prop :=
  (c.prescaler = 16 ∨ c.prescaler = 64) ∧ 1 ≤ c.reload ∧ c.reload ≤ 65535 ∧ 675000 ≤ c.prescaler * (c.reload + 1)
    ∧ 10 ≤ c.percent ∧ c.percent ≤ 95 ∧ c.stale ≤ 3

/-- Both copies are in range, and the period counter runs unless the pace is STOPPED (R41, R42, R47). -/
def Pace.Ok (t : Pace) : Prop :=
  t.configured.Ok ∧ t.inForce.Ok ∧ (t.runState = .stopped ↔ ∃ n, t.counter = .stopped n)

/-! ### Composition -/

/-- The composite buffers: at most one in each state but FREE, one WRITING exactly while a composition is in flight, and
the previous-composite pointer names the DONE buffer if there is one, and otherwise the SHOWN one (R68, R77). -/
def Engine.BuffersOk (e : Engine) : Prop :=
  (∀ a b : Fin 3, e.buffers[a].state ≠ .free → e.buffers[a].state = e.buffers[b].state → a = b)
    ∧ (e.inflight = none ↔ ∀ b : Fin 3, e.buffers[b].state ≠ .writing)
    ∧ (∀ b : Fin 3, e.buffers[b].state = .done → e.previous = some b)
    ∧ (∀ b : Fin 3, e.previous = some b → e.buffers[b].state = .done ∨ e.buffers[b].state = .shown)

/-- A closed gather waits only for a composition in flight (R61). -/
def Engine.NoIdleWait (e : Engine) : Prop := ∀ n stale, e.slot = .ready n stale → e.inflight ≠ none

/-! ### The balancer and the supply monitor -/

/-- Every gain is 512..2048, and the convergence step 1..16 (R85, R98). -/
def Balancer.Ok (b : Balancer) : Prop := (∀ c : Fin 4, 512 ≤ b.gains[c] ∧ b.gains[c] ≤ 2048) ∧ 1 ≤ b.k ∧ b.k ≤ 16

/-- The threshold is one of four, and the counts stay below what changes the supply state (R156, R157, R167). -/
def Supply.Ok (s : Supply) : Prop :=
  (s.threshold = 65 ∨ s.threshold = 70 ∨ s.threshold = 75 ∨ s.threshold = 80)
    ∧ (s.low = true → s.lowCount = 0 ∧ s.restoreCount ≤ 19) ∧ (s.low = false → s.restoreCount = 0 ∧ s.lowCount ≤ 1)

/-! ### The height monitor -/

/-- The window holds at most eight valid duties, the invalid count stays below 3, the state is TRACKING exactly while
the window is full, and the silence timer is stopped in STOPPED (R104 to R106, R116). Between commands the filter's
run is four samples of the accepted level, if it has accepted one: R102 has shorter runs too, but the model takes the
four samples of an acceptance together (logs 15, 31). -/
def Height.Ok (h : Height) : Prop :=
  h.run = h.accepted.map (fun level => { level := level, length := 4 })
    ∧ h.window.length ≤ 8 ∧ (∀ d ∈ h.window, 50 ≤ d ∧ d ≤ 950) ∧ h.invalid ≤ 2
    ∧ (h.state = .tracking ↔ h.window.length = 8) ∧ (h.state = .stopped → h.silence = none)

/-- The monitor is STOPPED exactly while the part is PARKED (R106, R116). -/
def Part.HeightFollowsPower (p : Part) : Prop := p.height.state = .stopped ↔ p.power.state = .parked

/-! ### The store, the flash arbiter and the loader -/

/-- The standby table is what the loader state says (the table of R110). -/
def Loader.StandbyOk (l : Loader) : Prop :=
  match l.state with
  | .idle => l.standby = .empty
  | .waitingStore _ => l.standby = .empty
  | .loading s _ _ => l.standby = .loading s
  | .staged s => l.standby.set? = some s

/-- The flash arbiter: the holder and the waiting line are those the loader state and the store step say (R110, R125,
R126). -/
def Part.ArbiterOk (p : Part) : Prop :=
  (p.store.holder = .loader ↔ ∃ s start marks, p.loader.state = .loading s start marks)
    ∧ (p.store.holder = .store ↔ p.store.stepRunning = true)
    ∧ (FlashUser.loader ∈ p.store.line ↔ ∃ s, p.loader.state = .waitingStore s)
    ∧ (FlashUser.store ∈ p.store.line ↔ ∃ k, p.store.step = some { kind := k, phase := .pending })
    ∧ p.store.line.Nodup

/-- A set under a write session is neither active, awaited, loading nor staged (R127). -/
def Part.SessionApart (p : Part) : Prop :=
  ∀ x, p.store.session = some x → p.loader.inUse x.set = false

/-- The set whose flash a store step changes. -/
def StepKind.set : StepKind → Fin 8
  | .erase q => setOfSector q
  | .recordRow s _ => s
  | .openMark s => s
  | .completeMark s _ => s
  | .lockMark s => s
  | .retireMark s => s

/-- No session and no store step works on a locked set (R128, R135, R136); there is neither during a scan, and no
session while a lock is made (R124, R126). -/
def Store.SparesLocked (t : Store) : Prop :=
  (∀ x, t.session = some x → t.directory[x.set].locked = false)
    ∧ (∀ x, t.step = some x → t.directory[x.kind.set].locked = false)
    ∧ (t.scanning = true → t.session = none ∧ t.step = none)
    ∧ (∀ s phase, t.step = some { kind := .lockMark s, phase := phase } → t.session = none)

/-- An open session against the staging buffer: what has been accepted is what has been programmed and what is staged,
until the last half row has gone (R127, R129, R131, R132). -/
def Session.Ok (staged : Nat) (x : Session) : Prop :=
  4 ≤ x.nextRow ∧ x.nextIndex ≤ 560 ∧ x.eraseSector ≤ 5
    ∧ (x.phase = .erasing → x.nextIndex = 0 ∧ x.nextRow = 4 ∧ staged = 0)
    ∧ (x.phase = .receiving ∨ staged ≠ 0 → 256 * (x.nextRow - 4) + staged = 40 * x.nextIndex)

/-- The staging buffer holds at most 512 bytes; a record row in hand is one of rows 4..91, the session's next, and its
bytes are staged; the open mark is made in ERASING (R129, R131). -/
def Store.SessionOk (t : Store) : Prop :=
  t.staging.length ≤ 512
    ∧ (∀ x, t.session = some x → x.Ok t.staging.length)
    ∧ (∀ s r phase, t.step = some { kind := .recordRow s r, phase := phase } → 4 ≤ r ∧ r ≤ 91
      ∧ ∀ x, t.session = some x →
        x.set = s ∧ x.nextRow = r ∧ t.staging ≠ [] ∧ (x.phase = .receiving → 256 ≤ t.staging.length))
    ∧ (∀ s phase, t.step = some { kind := .openMark s, phase := phase } → ∀ x, t.session = some x → x.phase = .erasing)

/-! ### Vehicle lines -/

/-- A line's state fits its direction: an input has no mismatch state, an output no input state; the mismatch flag is
set exactly at a count of 2 (R144, R146). -/
def Line.Ok (l : Line) : Prop :=
  l.mismatch ≤ 2 ∧ (l.flag = true ↔ l.mismatch = 2)
    ∧ (l.config.out = false → l.mismatch = 0)
    ∧ (l.config.out = true → l.debounced = none ∧ l.prev = none ∧ l.config.wake = false)

/-- Every line is sound, and wake snapshots are held only while PARKED (R144, R146, R151). -/
def Part.LinesOk (p : Part) : Prop :=
  ∀ i : Fin 8, p.lines.line[i].Ok ∧ (p.power.state ≠ .parked → p.lines.line[i].snapshot = none)

/-! ### How statements speak of a request -/

/-- The machine as a request of this kind finds it: awake, if its arrival wakes the part (R164). -/
def State.awake (kind : Byte) (s : State) : State := { s with toPart := s.wakeByRequest kind }

/-- A request of this kind is taken: the part is not held in reset, and fewer than four records are queued (R183). -/
def State.Takes (kind : Byte) (s : State) : Prop :=
  s.power.inReset = false ∧ (s.awake kind).link.queue.length < 4

/-- The machine with a reply queued, its kind, tag and body as given (R182). -/
def State.replied (kind tag : Byte) (body : List Byte) (t : State) : State :=
  { t with link := t.link.join { kind := kind, tag := tag, body := body } }

/-- The machine at tick `t`, or where it is if that has passed. -/
def State.atTick (t : Nat) (s : State) : State := { s with now := max s.now t }

/-- The machine with an event raised (R186). -/
def State.raised (k : EventKind) (detail : List Byte) (s : State) : State := { s with link := s.link.raise k detail }

/-- The machine after the gatherer's all-present test (R58); `State.Tested` says what it leaves. -/
def State.gathered (s : State) : State := { s with toPart := s.gatherTest }

/-! ### How statements speak of gathers, compositions, display frames and set requests -/

/-- A gather of trigger `n` is all-present: a port is LIVE, and every LIVE port has a buffer tagged `n` in its READY
list (R58). -/
def Part.AllPresent (n : Half) (p : Part) : Prop :=
  (∃ i : Fin 4, p.ports[i].state = .live)
    ∧ ∀ i : Fin 4, p.ports[i].state = .live → ∃ b ∈ p.ports[i].ready, p.ports[i].buffers[b].tag = n

/-- The composition `x` of trigger `n` is one started from `s` with the stale allowance given: what it has latched and
which cameras are present (R24, R61 to R63, R114). -/
def Composition.StartedFrom (n : Half) (stale : Nat) (s : State) (x : Composition) : Prop :=
  x.trigger = n ∧ x.latched.gains = s.balancer.gains ∧ x.latched.hold = s.engine.hold
    ∧ x.latched.void = s.engine.void ∧ x.latched.divider = s.engine.divider
    ∧ (∀ g : Fin 4, x.latched.occlusion[g] = true ↔ ∃ i : Fin 8,
      let l := s.lines.line[i]
      l.config.out = false ∧ l.config.role = .occlude g ∧ l.debounced = some l.config.active)
    ∧ (∀ k, s.loader.state = .staged k → x.firstOfSet = true ∧ x.latched.set = s.loader.standby.set?)
    ∧ ((∀ k, s.loader.state ≠ .staged k) → x.firstOfSet = false ∧ x.latched.set = s.loader.active.set?)
    ∧ ∀ i : Fin 4, x.present[i] = true ↔
      (s.ports[i].state = .live ∨ s.ports[i].state = .stalled)
        ∧ ∃ b ∈ s.ports[i].ready, (n - s.ports[i].buffers[b].tag).toNat ≤ stale

/-- `t` is `s` after the start of a composition of trigger `n`, the slot EMPTY: the lowest FREE composite buffer
WRITING, the written marks cleared, the ports asked, a staged table active (R61). -/
def State.Composes (n : Half) (stale : Nat) (s t : State) : Prop :=
  t.engine.slot = .empty ∧ (∃ x : Composition, t.engine.inflight = some x ∧ x.StartedFrom n stale s)
    ∧ t.balancer = { s.balancer with written := #v[false, false, false, false] }
    ∧ (∃ b : Fin 3, s.engine.buffers[b].state = .free ∧ (∀ c : Fin 3, c < b → s.engine.buffers[c].state ≠ .free)
      ∧ t.engine.buffers[b].state = .writing ∧ t.engine.buffers[b].record = none
      ∧ ∀ c : Fin 3, c ≠ b → t.engine.buffers[c] = s.engine.buffers[c])
    ∧ t.engine.previous = s.engine.previous ∧ t.engine.firstComposite = s.engine.firstComposite
    ∧ (∀ i : Fin 4, t.ports[i].state = s.ports[i].state ∧ t.ports[i].power = s.ports[i].power
      ∧ t.ports[i].timer = s.ports[i].timer ∧ t.ports[i].attempts = s.ports[i].attempts)
    ∧ (∀ k, s.loader.state = .staged k →
      t.loader = { s.loader with state := .idle, active := s.loader.standby, standby := .empty }
        ∧ (t.link.record .setSwitched).pending = true)
    ∧ ((∀ k, s.loader.state ≠ .staged k) → t.loader = s.loader ∧ t.link = s.link)
    ∧ { t with ports := s.ports, engine := s.engine, balancer := s.balancer, loader := s.loader, link := s.link } = s

/-- `t` is what the gatherer's all-present test leaves of `s`: a gather whose condition holds closes, its deadline is
cancelled, and its composition starts when the engine is IDLE; otherwise nothing changes (R43, R58). -/
def State.Tested (s t : State) : Prop :=
  (∀ n stale, s.engine.slot = .gathering n stale → s.AllPresent n →
    let closed : State := { s with
      pace := if s.pace.deadline.map (fun d => d.trigger) = some n then { s.pace with deadline := none } else s.pace
      engine := { s.engine with slot := .ready n stale } }
    (s.engine.inflight ≠ none → t = closed)
      ∧ (s.engine.inflight = none → s.engine.BuffersOk → State.Composes n stale closed t))
    ∧ ((∀ n stale, s.engine.slot = .gathering n stale → ¬ s.AllPresent n) → t = s)

/-- `t` is `s` after a display frame start: the counter advances, and a DONE composite is taken unless the supply is
LOW, the SHOWN one sent again otherwise, and the void colour with neither (R171, R173, R174, R176). -/
def State.ShowsFrame (s t : State) : Prop :=
  ∃ y : Transfer, t.display.transfer = some y ∧ y.due = s.now + 574080 ∧ y.statusLine.length = 1280
    ∧ y.statusLine.take 4 = le32 (s.display.counter + 1).toNat
    ∧ t.display.counter = s.display.counter + 1 ∧ t.display.mode = s.display.mode ∧ t.display.held = s.display.held
    ∧ (∀ b : Fin 3, s.supply.low = false → s.engine.buffers[b].state = .done → s.engine.BuffersOk →
      y.content = .composite b ∧ t.display.repeats = 0 ∧ t.display.frozen = false
        ∧ t.engine.buffers[b] = { s.engine.buffers[b] with state := .shown }
        ∧ ∀ c : Fin 3, s.engine.buffers[c].state = .shown →
          t.engine.buffers[c].state = .free ∧ t.engine.buffers[c].record = none)
    ∧ (s.supply.low = true ∨ (∀ b : Fin 3, s.engine.buffers[b].state ≠ .done) →
      t.engine = s.engine ∧ t.display.repeats = min 255 (s.display.repeats + 1) ∧ t.display.frozen = s.display.frozen
        ∧ (∀ b : Fin 3, s.engine.buffers[b].state = .shown → s.engine.BuffersOk → y.content = .composite b)
        ∧ ((∀ b : Fin 3, s.engine.buffers[b].state ≠ .shown) → y.content = .void s.engine.void))
    ∧ (∀ b : Fin 3, s.engine.buffers[b].state = .free ∨ s.engine.buffers[b].state = .writing →
      t.engine.buffers[b] = s.engine.buffers[b])
    ∧ { t with engine := { t.engine with buffers := s.engine.buffers }, display := s.display } = s

/-- `t` is `s` after a frame request: dropped outside RUN, it starts a frame on an idle transfer and is held on a busy
one (R172). -/
def State.FrameRequested (s t : State) : Prop :=
  (s.power.state ≠ .run → t = s)
    ∧ (s.power.state = .run → s.display.transfer ≠ none → t = { s with display := { s.display with held := true } })
    ∧ (s.power.state = .run → s.display.transfer = none → s.ShowsFrame t)

/-- `t` is `s` with whatever the loader holds dropped: a waiting request withdrawn, a load's flash released, a staged
table lost (R110). -/
def State.LoadDropped (s t : State) : Prop :=
  t = { s with store := t.store, loader := { s.loader with state := .idle, standby := .empty } }
    ∧ (∀ j, s.loader.state = .waitingStore j →
      t.store = { s.store with line := s.store.line.filter (· != FlashUser.loader) })
    ∧ (∀ j start marks, s.loader.state = .loading j start marks → s.store.holder = .loader →
      t.store = { s.store with holder := .nobody })
    ∧ (s.loader.state = .idle ∨ (∃ j, s.loader.state = .staged j) → t.store = s.store)

/-- `t` is `s` after a request for set `k`: dropped for the active set, without effect for the set in hand, failing at
once for a set DAMAGED or under a write session, and else loading or waiting for the flash (R110 to R113). -/
def State.SetRequested (k : Fin 8) (s t : State) : Prop :=
  (s.loader.activeSet = some k → s.LoadDropped t)
    ∧ (s.loader.activeSet ≠ some k → s.loader.state.set? = some k → t = s)
    ∧ (s.loader.activeSet ≠ some k → s.loader.state.set? ≠ some k →
      ∃ d : State, s.LoadDropped d
        ∧ (let failed := fun reason : Byte =>
            let u := d.raised .setUnusable [BitVec.ofNat 8 k.val, reason, 0x00, 0xFF, 0xFF]
            if s.loader.activeSet = none then u.raised .noCalibration [BitVec.ofNat 8 k.val] else u
          (s.loader.damaged[k] = true → t = failed 0x02)
            ∧ (s.loader.damaged[k] = false → s.store.sessionOn k = true → t = failed 0x01))
        ∧ (s.loader.damaged[k] = false → s.store.sessionOn k = false →
          (d.store.holder = .nobody → d.store.line = [] →
            t = { d with
              store := { d.store with holder := .loader }
              loader := { d.loader with state := .loading k d.now false, standby := .loading k } })
          ∧ (d.store.holder ≠ .nobody ∨ d.store.line ≠ [] →
            t = { d with
              store := { d.store with line := d.store.line ++ [FlashUser.loader] }
              loader := { d.loader with state := .waitingStore k } })))

end Sys2Proof.Machine
end

