-- ==== Sys2Proof/Certificates/Slice0/Obligations.lean ====
section
/-! DEFINITION. The statements for the provers: first the machine as a whole, then the requests, then the events. Each
docstring names the rules of the manual that it formalises. `State.Takes`, `State.awake`, `State.replied` and the
invariants are defined in Safety.lean. -/

open Sys2Proof Sys2Proof.Machine

/-! ### The machine as a whole -/

/-- The queue is first in, first out: with command `c` in front, a step is `c`'s meaning on the state with the queue's
rest. -/
def Obligations.StepRunsFrontCommand : Prop :=
  ∀ (c : Instr) (rest : List Instr) (s : State),
    step { s with pending := c :: rest } = exec c { s with pending := rest }

/-- State.reset meets every invariant below. -/
def Obligations.ResetIsSound : Prop :=
  let s := State.reset
  s.link.Settled ∧ s.link.RecordsOk ∧ s.PortsPowered ∧ s.FramesOk ∧ s.QuietOutsideRun ∧ s.pace.Ok ∧ s.engine.BuffersOk
    ∧ s.engine.NoIdleWait ∧ s.balancer.Ok ∧ s.supply.Ok ∧ s.height.Ok ∧ s.HeightFollowsPower
    ∧ Memory.wf 0xFF s.store.flash ∧ s.loader.StandbyOk ∧ s.ArbiterOk ∧ s.SessionApart ∧ s.store.SparesLocked
    ∧ s.store.SessionOk ∧ s.LinesOk

/-- No command looks at or changes the queue of the commands that wait. -/
def Obligations.CommandsLeaveQueue : Prop :=
  ∀ (c : Instr) (s t : State), exec c s = .next t →
    t.pending = s.pending ∧ ∀ q, exec c { s with pending := q } = .next { t with pending := q }

/-- R183, R185 to R187: a step keeps at most four records queued, ATTN equal to 'the slot holds a record', nothing
waiting for an empty slot, and every pending record in range: a repeat count of 1..255 while pending, nothing held
while not. -/
def Obligations.StepKeepsLink : Prop :=
  ∀ s t : State, step s = .next t → (s.link.Settled → t.link.Settled) ∧ (s.link.RecordsOk → t.link.RecordsOk)

/-- R20, R24 to R27, R33: a step keeps CPWRn of every port as the port's state says, and the frame buffers of every
port sound. -/
def Obligations.StepKeepsPorts : Prop :=
  ∀ s t : State, step s = .next t → (s.PortsPowered → t.PortsPowered) ∧ (s.FramesOk → t.FramesOk)

/-- R53, R82, R160, R175: a step keeps the pace STOPPED, no deadline armed, the gather slot EMPTY and no frame request
held outside RUN. That no deadline is armed rests, for a pace that is STOPPED already, on log 28. -/
def Obligations.StepKeepsQuietOutsideRun : Prop :=
  ∀ s t : State, s.QuietOutsideRun → step s = .next t → t.QuietOutsideRun

/-- R61, R68, R77: a step keeps at most one composite buffer WRITING, DONE and SHOWN, the previous-composite pointer
on the newest of them, and no closed gather waiting for an idle engine. -/
def Obligations.StepKeepsCompositeBuffers : Prop :=
  ∀ s t : State, s.engine.BuffersOk → s.engine.NoIdleWait → step s = .next t →
    t.engine.BuffersOk ∧ t.engine.NoIdleWait

/-- R41, R42, R85, R92, R98, R156, R157, R167: a step keeps both copies of the pace settings in range, so that the
period is never below 25.0 ms, every gain in 512..2048, and the supply monitor's threshold and counts in range. -/
def Obligations.StepKeepsSettings : Prop :=
  ∀ s t : State, step s = .next t →
    (s.pace.Ok → t.pace.Ok) ∧ (s.balancer.Ok → t.balancer.Ok) ∧ (s.supply.Ok → t.supply.Ok)

/-- R104 to R106, R116: a step keeps the height window, the invalid count and the height state in accord, and the
monitor STOPPED exactly while the part is PARKED. That the filter's run between commands is four samples of the
accepted level, or empty without one, is the model's choice, which takes the four samples of an acceptance together
(logs 15, 31). -/
def Obligations.StepKeepsHeight : Prop :=
  ∀ s t : State, s.height.Ok → s.HeightFollowsPower → step s = .next t → t.height.Ok ∧ t.HeightFollowsPower

/-- Every step keeps the flash in its canonical form. -/
def Obligations.StepKeepsFlashForm : Prop :=
  ∀ s t : State, Memory.wf 0xFF s.store.flash → step s = .next t → Memory.wf 0xFF t.store.flash

/-- R110, R125 to R127: a step keeps the flash arbiter, the loader's state and standby table and the store step in
accord, and a set under a write session neither active, awaited, loading nor staged. -/
def Obligations.StepKeepsArbiter : Prop :=
  ∀ s t : State, s.ArbiterOk → s.loader.StandbyOk → s.SessionApart → step s = .next t →
    t.ArbiterOk ∧ t.loader.StandbyOk ∧ t.SessionApart

/-- R135: no step changes a byte of a set that the directory shows locked, and none begins to work on it. -/
def Obligations.StepSparesLockedSets : Prop :=
  ∀ s t : State, Memory.wf 0xFF s.store.flash → s.store.SparesLocked → s.store.SessionOk → step s = .next t →
    (∀ k : Fin 8, s.store.directory[k].locked = true → ∀ a, 24576 * k.val ≤ a → a < 24576 * (k.val + 1) →
      Memory.read 0xFF t.store.flash a = Memory.read 0xFF s.store.flash a)
      ∧ t.store.SparesLocked ∧ t.store.SessionOk

/-- R144, R146, R151: a step keeps the vehicle lines sound: input state for inputs, mismatch state for outputs, and
wake snapshots only while PARKED. -/
def Obligations.StepKeepsLines : Prop :=
  ∀ s t : State, s.LinesOk → step s = .next t → t.LinesOk

/-- The envelope (R180, R181): a frame made from a kind 01h..7Eh, a tag and a body of at most 256 bytes passes the
checks with that body, whatever bytes follow it. -/
def Obligations.FrameRoundTrip : Prop :=
  ∀ (f : Frame) (extra : List Byte), f.kind ≠ 0 → f.kind.toNat < 0x7F → f.body.length ≤ 256 →
    checkFrame (f.bytes ++ extra) = .passed f.body
      ∧ (f.bytes ++ extra)[0]? = some f.kind ∧ (f.bytes ++ extra)[1]? = some f.tag ∧ f.bytes.length = 6 + f.body.length

/-- The tile record format: 40 bytes and the fields of a record determine each other, so no bit of a stored record is
dropped. -/
def Obligations.TileRecordRoundTrip : Prop :=
  (∀ r : TileRecord, TileRecord.ofBytes r.toBytes = r ∧ r.toBytes.length = 40)
    ∧ ∀ bytes : List Byte, bytes.length = 40 → (TileRecord.ofBytes bytes).toBytes = bytes

/-! ### Requests -/

/-- R188: IDENTIFY is answered OK with part identifier 4120, a die revision of 1..255, largest body length 256, queue
capacity 4 and 18 event kinds, and changes nothing else, in every power state and supply state. -/
def Obligations.IdentifyReply : Prop :=
  ∃ rev : Nat, 1 ≤ rev ∧ rev ≤ 255 ∧ ∀ (s : State) (tag : Byte), s.Takes 0x01 →
    exec (.identify tag) s
      = .next ((s.awake 0x01).replied 0x81 tag [0x00, 0x18, 0x10, BitVec.ofNat 8 rev, 0x00, 0x01, 0x04, 0x12])

/-- R164, R183: a request that finds four records queued is discarded with REPLY_OVERRUN, and still wakes the part;
shown for requests that carry no argument. What `State.awake` is: outside PARKED, or with link wake OFF, nothing;
while PARKED with link wake ON, the part enters DOZE, the height monitor starts again, the wake snapshots are dropped
and WOKEN is raised with cause REQUEST, the kind and the power state DOZE. That a request arrives whole, as its own
command, is the model's form (log 3). -/
def Obligations.RequestArrival : Prop :=
  (∀ (c : Byte → Instr) (kind : Byte),
     (c, kind) ∈ [(Instr.identify, (0x01 : Byte)), (Instr.status, 0x02), (Instr.reset, 0x03), (Instr.paceStart, 0x19),
       (Instr.paceStop, 0x1A), (Instr.pacePreset, 0x1B), (Instr.balanceReset, 0x2A), (Instr.storeClose, 0x3A),
       (Instr.storeAbort, 0x3B), (Instr.storeQuery, 0x3E), (Instr.lineRead, 0x41)] →
     ∀ (s : State) (tag : Byte), s.power.inReset = false → 4 ≤ (s.awake kind).link.queue.length →
       exec (c tag) s = .next ((s.awake kind).raised .replyOverrun [kind, tag]))
    ∧ (∀ (s : State) (kind : Byte),
         (s.power.state ≠ .parked ∨ s.power.linkWake = false → s.awake kind = s)
           ∧ (s.power.state = .parked → s.power.linkWake = true →
             s.awake kind =
               { s with
                 power := { s.power with state := .doze }
                 height := { s.height with
                   state := .filling, accepted := none, run := none, filterSince := s.now / 27
                   silence := some (s.now + 540000) }
                 lines := { s.lines with line := mapAll s.lines.line fun l => { l with snapshot := none } }
                 link := s.link.raise .woken [0x02, kind, 0x01] }))

/-- R189: STATUS is answered with 156 bytes, the power state, supply state and reset cause, the trigger number and the
queue depth at their places, and changes nothing but the link (and the model's own count of free values). The count of
free values is the model's own (log 14). -/
def Obligations.StatusReply : Prop :=
  ∀ (s : State) (tag : Byte), s.Takes 0x02 →
    let a := s.awake 0x02
    ∃ body : List Byte,
      exec (.status tag) s = .next ({ a with draws := a.draws + 1 }.replied 0x82 tag body)
        ∧ body.length = 156 ∧ body.take 4 = [0x00, a.power.state.code, bit a.supply.low, a.power.cause.code]
        ∧ (body.drop 8).take 4 = [a.pace.runState.code, a.pace.inForce.mode.code] ++ le16 a.pace.trigger.toNat
        ∧ body[28]? = some a.ports[0].state.code ∧ body[93]? = some a.height.state.code
        ∧ body[155]? = some (BitVec.ofNat 8 a.link.queue.length)

/-- R137, R138, R153: STORE_QUERY, STORE_READ and LINE_READ change nothing but the link. STORE_QUERY is refused with
BUSY during a scan, STORE_READ also while a store step is running. A read of record t of set s returns the set state
and the 40 bytes of flash from address 24576 s + 1024 + 40 t. -/
def Obligations.ReadRequests : Prop :=
  (∀ (s : State) (tag : Byte), s.Takes 0x3E → (s.awake 0x3E).store.scanning = false →
    ∃ body : List Byte, body.length = 68 ∧ body[0]? = some 0x00
      ∧ exec (.storeQuery tag) s = .next ((s.awake 0x3E).replied 0xBE tag body))
    ∧ (∀ (s : State) (tag : Byte), s.Takes 0x3E → (s.awake 0x3E).store.scanning = true →
      exec (.storeQuery tag) s = .next ((s.awake 0x3E).replied 0xBE tag [0x02]))
    ∧ (∀ (s : State) (tag : Byte) (k : Fin 8) (t : Nat), s.Takes 0x3F → t < 560 →
      let a := s.awake 0x3F
      let busy := a.store.scanning || a.store.stepRunning
      exec (.storeRead tag (BitVec.ofNat 8 k.val) (BitVec.ofNat 16 t)) s
        = .next (a.replied 0xBF tag
            (if busy then [0x02]
              else [0x00, (a.store.setState k).code]
                ++ (List.range 40).map fun b => Memory.read 0xFF a.store.flash (24576 * k.val + 1024 + 40 * t + b))))
    ∧ (∀ (s : State) (tag : Byte), s.Takes 0x41 →
      ∃ body : List Byte, body.length = 117 ∧ body[0]? = some 0x00
        ∧ exec (.lineRead tag) s = .next ((s.awake 0x41).replied 0xC1 tag body))

/-- R140, R190: the first RESET sets the reset wait and withdraws a pending store step; a RESET taken during the wait
sets nothing more; both are answered OK. -/
def Obligations.ResetRequest : Prop :=
  ∀ (s : State) (tag : Byte), s.Takes 0x03 →
    let a := s.awake 0x03
    (a.link.resetWait ≠ .clear → exec (.reset tag) s = .next (a.replied 0x83 tag [0x00]))
      ∧ (a.link.resetWait = .clear → (∀ k, a.store.step ≠ some { kind := k, phase := .pending }) →
        exec (.reset tag) s
          = .next ({ a with link := { a.link with resetWait := .replyWaiting } }.replied 0x83 tag [0x00]))
      ∧ (∀ k, a.link.resetWait = .clear → a.store.step = some { kind := k, phase := .pending } →
        exec (.reset tag) s
          = .next ({ a with
              link := { a.link with resetWait := .replyWaiting }
              store := { a.store with step := none, line := a.store.line.filter (· != FlashUser.store) } }.replied
              0x83 tag [0x00]))

/-- R191, R192: EVENT_CONFIGURE gives each named kind its priority, lowered to 3 if above; every other field of every
pending record, and every unit but the link, is as before. An empty list, a code that names no kind or a kind named
twice is refused with BAD_ARGUMENT and changes no priority. EVENT_CLEAR clears the named pending records and keeps
their priorities; every other record, and every unit but the link, is as before. A set naming a code above 12h is
refused with BAD_ARGUMENT. -/
def Obligations.EventRequests : Prop :=
  (∀ (s : State) (tag : Byte) (pairs : List (Byte × Byte)), s.Takes 0x04 →
     let a := s.awake 0x04
     (∀ ks : List EventKind, pairs.map (fun x => kind? x.1) = ks.map some → ks ≠ [] → ks.Nodup →
       ∃ t : State, exec (.eventConfigure tag pairs) s = .next t ∧ { t with link := a.link } = a
         ∧ (∀ k v, (EventKind.code k, v) ∈ pairs →
           t.link.record k = { a.link.record k with priority := min 3 v.toNat })
         ∧ ∀ k, k ∉ ks → t.link.record k = a.link.record k)
       ∧ ((pairs = [] ∨ (∃ x ∈ pairs, kind? x.1 = none) ∨ ¬ (pairs.map fun x => kind? x.1).Nodup) →
         exec (.eventConfigure tag pairs) s = .next (a.replied 0x84 tag [0x04])))
    ∧ (∀ (s : State) (tag : Byte) (kinds : BitVec 24), s.Takes 0x05 →
         let a := s.awake 0x05
         (kinds.toNat < 2 ^ 18 →
           ∃ t : State, exec (.eventClear tag kinds) s = .next t ∧ { t with link := a.link } = a
             ∧ ∀ k : Fin 18, t.link.records[k] =
               if kinds.getLsbD k.val then
                 { pending := false, repeats := 0, detail := [], priority := a.link.records[k].priority, raisedAgain := 0 }
               else a.link.records[k])
           ∧ (2 ^ 18 ≤ kinds.toNat → exec (.eventClear tag kinds) s = .next (a.replied 0x85 tag [0x04])))

/-- R36: PORT_CONFIGURE puts the three values of one port into their ranges, the settle time down to a multiple of 10,
and changes nothing else; the reply is OK_CLAMPED exactly when a value was changed. A port number above 3 is refused
with BAD_ARGUMENT, and a port in STANDBY with PORT_IN_STANDBY. The defaults are 300 ms, 200 ms and 2. -/
def Obligations.PortConfigure : Prop :=
  ∀ (s : State) (tag port : Byte) (settle watchdog : Half) (limit : Byte), s.Takes 0x10 →
    let a := s.awake 0x10
    let st := min 2000 (max 10 settle.toNat) / 10 * 10
    let wd := min 1000 (max 40 watchdog.toNat)
    let lim := min 3 limit.toNat
    (∀ i : Fin 4, port = BitVec.ofNat 8 i.val → a.ports[i].state ≠ .standby →
      exec (.portConfigure tag port settle watchdog limit) s
        = .next ({ a with ports := update a.ports i fun q => { q with settle := st, watchdog := wd, limit := lim } }.replied
            0x90 tag
            ((if st = settle.toNat ∧ wd = watchdog.toNat ∧ lim = limit.toNat then 0x00 else 0x01) :: port ::
              (le16 st ++ le16 wd ++ [BitVec.ofNat 8 lim]))))
      ∧ (∀ i : Fin 4, port = BitVec.ofNat 8 i.val → a.ports[i].state = .standby →
        exec (.portConfigure tag port settle watchdog limit) s = .next (a.replied 0x90 tag [0x0B]))
      ∧ (4 ≤ port.toNat → exec (.portConfigure tag port settle watchdog limit) s = .next (a.replied 0x90 tag [0x04]))
      ∧ ∀ i : Fin 4, State.reset.ports[i].settle = 300 ∧ State.reset.ports[i].watchdog = 200 ∧ State.reset.ports[i].limit = 2

/-- R26 to R28, R33, R37, R58: PORT_POWER on takes an OFF or FAILED port to POWERING with its camera powered, its
attempt counter 0 and its settle timer started; off takes any other port to OFF with its camera unpowered, its attempt
counter 0, its timer stopped and its FILLING and READY buffers FREE. Each raises CAMERA_STATE and is told to the
gatherer, whose test acts as R58 says (`State.Tested`). In STANDBY both are refused with PORT_IN_STANDBY, on while
PARKED with REFUSED_STATE, and otherwise the request is answered OK without effect. That on to a port in STANDBY while
PARKED is answered PORT_IN_STANDBY is the model's choice (log 42), as are CAMERA_STATE before what the gather raises
(log 21) and both before the reply (log 22). A port number above 3 and an action above 1 are not spoken of here. -/
def Obligations.PortPower : Prop :=
  ∀ (s : State) (tag : Byte) (i : Fin 4), s.Takes 0x11 →
    let a := s.awake 0x11
    let q := a.ports[i]
    let port : Byte := BitVec.ofNat 8 i.val
    let becomes := fun (c : Instr) (u : State) (reply : List Byte) =>
      exec c s = .next (u.gathered.replied 0x91 tag reply) ∧ u.Tested u.gathered
    ((q.state = .off ∨ q.state = .failed) → q.power = false → a.power.state ≠ .parked →
      becomes (.portPower tag port 0x01)
        ({ a with ports := update a.ports i fun q =>
            { q with
              state := .powering, power := true, attempts := 0, faultCount := 0
              timer := .running (a.now + q.settle * 27000) } }.raised .cameraState [port, 0x01])
        [0x00, port, 0x01])
      ∧ (q.state ≠ .off → q.state ≠ .standby →
        becomes (.portPower tag port 0x00)
          ({ a with ports := update a.ports i fun q =>
              { q with
                state := .off, power := false, attempts := 0, faultCount := 0, timer := .stopped, ready := []
                buffers := mapAll q.buffers fun b =>
                  if b.state = BufferState.filling ∨ b.state = BufferState.ready then { b with state := .free }
                  else b } }.raised .cameraState [port, 0x00])
          [0x00, port, 0x00])
      ∧ (q.state = .off → exec (.portPower tag port 0x00) s = .next (a.replied 0x91 tag [0x00, port, 0x00]))
      ∧ (q.state ≠ .off → q.state ≠ .failed → q.state ≠ .standby → a.power.state ≠ .parked →
        exec (.portPower tag port 0x01) s = .next (a.replied 0x91 tag [0x00, port, q.state.code]))
      ∧ (q.state ≠ .standby → a.power.state = .parked →
        exec (.portPower tag port 0x01) s = .next (a.replied 0x91 tag [0x03]))
      ∧ (q.state = .standby → ∀ action : Byte, action.toNat < 2 →
        exec (.portPower tag port action) s = .next (a.replied 0x91 tag [0x0B]))

/-- R38, R39, R58: PORT_STANDBY enter keeps CPWRn, stops the timer, frees the FILLING and READY buffers and puts
configuration and attempt counter back to their defaults; leave takes a powered port to WAITING, its watchdog running
as R30 allows, and an unpowered one to OFF. Each raises CAMERA_STATE and is told to the gatherer, whose test acts as
R58 says (`State.Tested`). Enter is refused while PARKED, leave outside STANDBY. The order of the events and the reply
is the model's choice (logs 21, 22). -/
def Obligations.PortStandby : Prop :=
  ∀ (s : State) (tag : Byte) (i : Fin 4), s.Takes 0x12 →
    let a := s.awake 0x12
    let q := a.ports[i]
    let port : Byte := BitVec.ofNat 8 i.val
    let becomes := fun (c : Instr) (u : State) (reply : List Byte) =>
      exec c s = .next (u.gathered.replied 0x92 tag reply) ∧ u.Tested u.gathered
    (q.state ≠ .standby → a.power.state ≠ .parked →
      becomes (.portStandbyEnter tag port)
        ({ a with ports := update a.ports i fun q =>
            { q with
              state := .standby, attempts := 0, timer := .stopped, settle := 300, watchdog := 200, limit := 2
              ready := []
              buffers := mapAll q.buffers fun b =>
                if b.state = BufferState.filling ∨ b.state = BufferState.ready then { b with state := .free }
                else b } }.raised .cameraState [port, 0x07])
        [0x00, port, 0x07])
      ∧ (q.state = .standby → a.power.state ≠ .parked →
        exec (.portStandbyEnter tag port) s = .next (a.replied 0x92 tag [0x00, port, 0x07]))
      ∧ (a.power.state = .parked → exec (.portStandbyEnter tag port) s = .next (a.replied 0x92 tag [0x03]))
      ∧ (q.state = .standby → q.power = true →
        becomes (.portStandbyLeave tag port)
          ({ a with ports := update a.ports i fun q =>
              { q with
                state := .waiting
                timer := if a.pace.runState ≠ RunState.stopped ∧ a.supply.low = false then
                    .running (a.now + q.watchdog * 27000) else .held } }.raised .cameraState [port, 0x02])
          [0x00, port, 0x02])
      ∧ (q.state = .standby → q.power = false →
        becomes (.portStandbyLeave tag port)
          ({ a with ports := update a.ports i fun q => { q with state := .off, timer := .stopped } }.raised
            .cameraState [port, 0x00])
          [0x00, port, 0x00])
      ∧ (q.state ≠ .standby → exec (.portStandbyLeave tag port) s = .next (a.replied 0x92 tag [0x03]))

/-- R41, R42, R49: PACE_CONFIGURE writes the five settings, each in its range and the reload raised to the floor of
25.0 ms, into the configured copy, and into the copy in force when the pace is STOPPED; nothing else changes. A
prescaler other than 16 or 64 is refused. -/
def Obligations.PaceConfigure : Prop :=
  ∀ (s : State) (tag prescaler : Byte) (reload : Half) (mode percent stale : Byte) (m : PaceMode), s.Takes 0x18 →
    let a := s.awake 0x18
    let r := max 1 reload.toNat
    let floor := if prescaler = 16 then 42187 else 10546
    let c : PaceSettings :=
      { prescaler := prescaler.toNat
        reload := if prescaler.toNat * (r + 1) < 675000 then floor else r
        mode := m, percent := min 95 (max 10 percent.toNat), stale := min 3 stale.toNat }
    ((prescaler = 16 ∨ prescaler = 64) → mode = m.code →
      exec (.paceConfigure tag prescaler reload mode percent stale) s
        = .next ({ a with pace := { a.pace with
              configured := c, inForce := if a.pace.runState = RunState.stopped then c else a.pace.inForce } }.replied 0x98 tag
            ((if c.reload = reload.toNat ∧ c.percent = percent.toNat ∧ c.stale = stale.toNat then 0x00 else 0x01) ::
              prescaler :: (le16 c.reload ++ [mode, BitVec.ofNat 8 c.percent, BitVec.ofNat 8 c.stale,
                a.pace.runState.code]))))
      ∧ (prescaler ≠ 16 → prescaler ≠ 64 →
        exec (.paceConfigure tag prescaler reload mode percent stale) s = .next (a.replied 0x98 tag [0x04]))

/-- R44, R50 to R52: PACE_START in RUN from STOPPED makes the pace RUNNING and issues a boundary at once: the
configured settings are adopted, the trigger number advances, the deadline is armed, CAPTURE goes high for 2,700 ticks
and parity toggles. From STOPPING it makes the pace RUNNING and nothing else of it, from RUNNING it has no effect, and
outside RUN it is refused. PACE_STOP makes RUNNING STOPPING, with no other change to the pace, and has no effect
otherwise; PACE_PRESET adopts prescaler and reload and restarts the period, and nothing else, and is refused in
STOPPED. -/
def Obligations.PaceRequests : Prop :=
  (∀ (s : State) (tag : Byte), s.Takes 0x19 →
     let a := s.awake 0x19
     (a.power.state = .run → a.pace.runState = .stopped →
       ∃ t : State, exec (.paceStart tag) s = .next t
         ∧ t.pace =
           { configured := a.pace.configured, inForce := a.pace.configured, runState := .running
             counter := .counting a.now, trigger := a.pace.trigger + 1
             deadline := some
               { due := a.now + a.pace.configured.prescaler * (a.pace.configured.reload + 1) * a.pace.configured.percent / 100
                 trigger := a.pace.trigger + 1 }
             capture := some (a.now + 2700), parity := !a.pace.parity }
         ∧ t.balancer = { a.balancer with written := t.balancer.written } ∧ t.height = a.height ∧ t.store = a.store
         ∧ t.supply = a.supply ∧ t.power = a.power ∧ t.now = a.now
         ∧ ∀ i : Fin 4, t.ports[i].state = a.ports[i].state ∧ t.ports[i].power = a.ports[i].power)
       ∧ (a.power.state = .run → a.pace.runState = .stopping →
         ∃ t : State, exec (.paceStart tag) s = .next t ∧ t.pace = { a.pace with runState := .running }
           ∧ t.engine = a.engine ∧ t.balancer = a.balancer ∧ t.display = a.display ∧ t.store = a.store)
       ∧ (a.power.state = .run → a.pace.runState = .running →
         exec (.paceStart tag) s = .next (a.replied 0x99 tag (0x00 :: 0x01 :: le16 a.pace.trigger.toNat)))
       ∧ (a.power.state ≠ .run → exec (.paceStart tag) s = .next (a.replied 0x99 tag [0x03])))
    ∧ (∀ (s : State) (tag : Byte), s.Takes 0x1A →
    let a := s.awake 0x1A
    (a.pace.runState = .running →
      ∃ t : State, exec (.paceStop tag) s = .next t ∧ t.pace = { a.pace with runState := .stopping }
        ∧ t.engine = a.engine ∧ t.balancer = a.balancer ∧ t.height = a.height ∧ t.loader = a.loader ∧ t.store = a.store
        ∧ t.supply = a.supply ∧ t.power = a.power ∧ t.display = a.display ∧ t.now = a.now)
      ∧ (a.pace.runState ≠ .running →
        exec (.paceStop tag) s = .next (a.replied 0x9A tag [0x00, a.pace.runState.code])))
    ∧ (∀ (s : State) (tag : Byte), s.Takes 0x1B →
      let a := s.awake 0x1B
      (a.pace.runState ≠ .stopped →
        exec (.pacePreset tag) s
          = .next ({ a with pace := { a.pace with
                inForce := { a.pace.inForce with
                  prescaler := a.pace.configured.prescaler, reload := a.pace.configured.reload }
                counter := .counting a.now } }.replied 0x9B tag
              (0x00 :: BitVec.ofNat 8 a.pace.configured.prescaler :: le16 a.pace.configured.reload)))
        ∧ (a.pace.runState = .stopped → exec (.pacePreset tag) s = .next (a.replied 0x9B tag [0x03])))

/-- R83, R98: COMPOSE_CONFIGURE writes the hold limit, lowered to 60 if above, the void colour and the divider;
BALANCE_CONFIGURE writes the enable and the step k, brought into 1..16. Nothing else changes. A divider other than 1,
2 or 4, or an enable other than OFF or ON, is refused with BAD_ARGUMENT. -/
def Obligations.ComposeAndBalanceConfigure : Prop :=
  (∀ (s : State) (tag hold y cb cr divider : Byte), s.Takes 0x20 →
    let a := s.awake 0x20
    let h := min 60 hold.toNat
    (divider = 1 ∨ divider = 2 ∨ divider = 4 →
      exec (.composeConfigure tag hold y cb cr divider) s
        = .next ({ a with engine := { a.engine with
              hold := h, void := { y := y, cb := cb, cr := cr }, divider := divider.toNat } }.replied 0xA0 tag
            [if hold.toNat ≤ 60 then 0x00 else 0x01, BitVec.ofNat 8 h, y, cb, cr, divider]))
      ∧ (divider ≠ 1 → divider ≠ 2 → divider ≠ 4 →
        exec (.composeConfigure tag hold y cb cr divider) s = .next (a.replied 0xA0 tag [0x04])))
    ∧ (∀ (s : State) (tag enable k : Byte), s.Takes 0x28 →
      let a := s.awake 0x28
      let n := min 16 (max 1 k.toNat)
      (enable.toNat < 2 →
        exec (.balanceConfigure tag enable k) s
          = .next ({ a with balancer := { a.balancer with enable := enable == 1, k := n } }.replied 0xA8 tag
              [if n = k.toNat then 0x00 else 0x01, enable, BitVec.ofNat 8 n]))
        ∧ (2 ≤ enable.toNat → exec (.balanceConfigure tag enable k) s = .next (a.replied 0xA8 tag [0x04])))

/-- R99, R100: BALANCE_SET_GAIN writes one camera's gain, brought into 512..2048, and sets its written mark;
BALANCE_RESET sets all four gains to 1024 and all four marks. Nothing else changes. -/
def Obligations.BalanceGains : Prop :=
  (∀ (s : State) (tag : Byte) (gain : Half), s.Takes 0x29 →
    let a := s.awake 0x29
    let g := min 2048 (max 512 gain.toNat)
    (∀ c : Fin 4,
      exec (.balanceSetGain tag (BitVec.ofNat 8 c.val) gain) s
        = .next ({ a with balancer := { a.balancer with
              gains := update a.balancer.gains c fun _ => g, written := update a.balancer.written c fun _ => true } }.replied
            0xA9 tag ((if g = gain.toNat then 0x00 else 0x01) :: BitVec.ofNat 8 c.val :: le16 g)))
      ∧ (∀ camera : Byte, 4 ≤ camera.toNat →
        exec (.balanceSetGain tag camera gain) s = .next (a.replied 0xA9 tag [0x04])))
    ∧ (∀ (s : State) (tag : Byte), s.Takes 0x2A →
      let a := s.awake 0x2A
      exec (.balanceReset tag) s
        = .next ({ a with balancer := { a.balancer with
            gains := #v[1024, 1024, 1024, 1024], written := #v[true, true, true, true] } }.replied 0xAA tag [0x00]))

/-- R107, R108, R110, R111, R117: an accepted HEIGHT_CONFIGURE replaces the whole configuration, with a hysteresis
above 50 lowered to 50 and boundaries brought into 1..999, and is answered with the values in force. A new polarity
empties the window and restarts the measurement; with the polarity kept, a new band layout in TRACKING decides the
last mean fresh, with BAND_CHANGE where the band changes; then in AUTO the mapped set of a band below the band count
is requested, written out for an IDLE loader and for any other as `State.SetRequested` says (R110, R111). In every
case the units but the height monitor, the loader, its hold on the flash and the link keep their state. A value
outside its field, or boundaries in use less than 2 hy + 1 apart, is refused with BAD_ARGUMENT and changes nothing.
That a new polarity keeps the last mean is log 29, what a band layout is log 34, that BAND_CHANGE comes before the
reply log 22, and that SET_UNUSABLE comes before NO_CALIBRATION log 21. -/
def Obligations.HeightConfigure : Prop :=
  ∀ (s : State) (tag : Byte) (x : HeightArgs) (m0 m1 m2 m3 : Fin 8), s.Takes 0x30 →
    let a := s.awake 0x30
    let h := a.height
    let limit := fun n : Nat => min 999 (max 1 n)
    let hy := min 50 x.hysteresis.toNat
    let apart := (3 ≤ x.bands.toNat → limit x.b1.toNat + 2 * hy + 1 ≤ limit x.b2.toNat)
      ∧ (4 ≤ x.bands.toNat → limit x.b2.toNat + 2 * hy + 1 ≤ limit x.b3.toNat)
    let fields := x.polarity.toNat < 2 ∧ x.mode.toNat < 2 ∧ 1 ≤ x.bands.toNat ∧ x.bands.toNat ≤ 4
      ∧ x.map0 = BitVec.ofNat 8 m0.val ∧ x.map1 = BitVec.ofNat 8 m1.val ∧ x.map2 = BitVec.ofNat 8 m2.val
      ∧ x.map3 = BitVec.ofNat 8 m3.val
    let c : HeightConfig :=
      { polarity := x.polarity == 1, bands := x.bands.toNat, b1 := limit x.b1.toNat, b2 := limit x.b2.toNat
        b3 := limit x.b3.toNat, hysteresis := hy, map := #v[m0, m1, m2, m3], auto := x.mode == 0 }
    let kept := limit x.b1.toNat = x.b1.toNat ∧ limit x.b2.toNat = x.b2.toNat ∧ limit x.b3.toNat = x.b3.toNat
      ∧ hy = x.hysteresis.toNat
    let body : List Byte :=
      (if kept then 0x00 else 0x01) :: ([x.polarity, x.bands] ++ le16 c.b1 ++ le16 c.b2 ++ le16 c.b3
        ++ [BitVec.ofNat 8 hy, x.map0, x.map1, x.map2, x.map3, x.mode])
    let answers := fun v : State => exec (.heightConfigure tag x) s = .next (v.replied 0xB0 tag body)
    let requests := fun v : State =>
      (x.mode = 1 ∨ v.height.band = none → answers v)
        ∧ ∀ b : Fin 4, v.height.band = some b →
          (c.bands ≤ b.val → answers v)
            ∧ (x.mode = 0 → b.val < c.bands → ∃ w : State, v.SetRequested c.map[b] w ∧ answers w)
            ∧ (x.mode = 0 → b.val < c.bands → v.loader.state = .idle → v.loader.standby = .empty →
              (v.loader.activeSet = some c.map[b] → answers v)
                ∧ (v.loader.activeSet ≠ some c.map[b] → v.loader.damaged[c.map[b]] = false →
                  v.store.sessionOn c.map[b] = false →
                  (v.store.holder = .nobody → v.store.line = [] →
                    answers { v with
                      store := { v.store with holder := .loader }
                      loader := { v.loader with
                        state := .loading c.map[b] v.now false, standby := .loading c.map[b] } })
                  ∧ (v.store.holder ≠ .nobody →
                    answers { v with
                      store := { v.store with line := v.store.line ++ [FlashUser.loader] }
                      loader := { v.loader with state := .waitingStore c.map[b] } })))
    let layout := fun c : HeightConfig => (c.bands, [c.b1, c.b2, c.b3].take (c.bands - 1), c.hysteresis)
    (fields → apart → h.config.polarity = c.polarity →
      (layout h.config = layout c ∨ h.state ≠ .tracking → requests { a with height := { h with config := c } })
        ∧ ∀ (mean : Nat) (b : Fin 4), layout h.config ≠ layout c → h.state = .tracking → h.lastMean = some mean →
          b.val = (([c.b1, c.b2, c.b3].take (c.bands - 1)).countP fun y => decide (y ≤ mean)) →
          (h.band = some b → requests { a with height := { h with config := c } })
            ∧ (h.band ≠ some b →
              requests ({ a with height := { h with config := c, band := some b } }.raised .bandChange
                ([(h.band.map fun k : Fin 4 => BitVec.ofNat 8 k.val).getD 0xFF, BitVec.ofNat 8 b.val]
                  ++ le16 mean))))
      ∧ (fields → apart → h.config.polarity ≠ c.polarity →
        requests { a with height := { h with
          config := c, heldEdge := none, window := [], invalid := 0
          silence := if h.state = HeightState.stopped then h.silence else some (a.now + 540000)
          state := if h.state = HeightState.tracking then HeightState.filling else h.state } })
      ∧ (fields → apart →
        ∃ t : State, exec (.heightConfigure tag x) s = .next t ∧ t.height.config = c
          ∧ t.height.lastReading = a.height.lastReading ∧ t.ports = a.ports ∧ t.pace = a.pace ∧ t.engine = a.engine
          ∧ t.balancer = a.balancer ∧ t.lines = a.lines ∧ t.supply = a.supply ∧ t.power = a.power
          ∧ t.display = a.display ∧ t.now = a.now ∧ t.store.flash = a.store.flash
          ∧ t.store.directory = a.store.directory ∧ t.store.session = a.store.session)
      ∧ (fields → ¬ apart → exec (.heightConfigure tag x) s = .next (a.replied 0xB0 tag [0x04]))
      ∧ ((2 ≤ x.polarity.toNat ∨ 2 ≤ x.mode.toNat ∨ x.bands.toNat = 0 ∨ 4 < x.bands.toNat ∨ 8 ≤ x.map0.toNat
          ∨ 8 ≤ x.map1.toNat ∨ 8 ≤ x.map2.toNat ∨ 8 ≤ x.map3.toNat) →
        exec (.heightConfigure tag x) s = .next (a.replied 0xB0 tag [0x04]))

/-- R110 to R112, R118: SELECT_SET in MANUAL of a set the store shows COMPLETE and the part does not know to be
unusable. With the flash free and the loader IDLE the load begins at once; with the flash taken the loader waits in
the arbiter's line; naming the active set drops what the loader holds; naming the set in hand changes nothing; and
what the loader holds of another set is dropped first, a waiting request, a load or a staged table. In AUTO it is
refused with REFUSED_STATE, during a scan with BUSY, and for a set known to be unusable with SET_UNUSABLE. The order
of the checks is the model's choice (log 35). -/
def Obligations.SelectSet : Prop :=
  ∀ (s : State) (tag : Byte) (k : Fin 8), s.Takes 0x31 →
    let a := s.awake 0x31
    let c : Instr := .selectSet tag (BitVec.ofNat 8 k.val)
    let known := a.store.setState k ≠ .complete ∨ a.loader.damaged[k] = true ∨ a.store.sessionOn k = true
    (a.height.config.auto = true → exec c s = .next (a.replied 0xB1 tag [0x03]))
      ∧ (a.height.config.auto = false → a.store.scanning = true → exec c s = .next (a.replied 0xB1 tag [0x02]))
      ∧ (a.height.config.auto = false → a.store.scanning = false → known → exec c s = .next (a.replied 0xB1 tag [0x0C]))
      ∧ (a.height.config.auto = false → a.store.scanning = false → ¬ known → a.loader.state = .idle →
        a.loader.activeSet ≠ some k →
        (a.store.holder = .nobody → a.store.line = [] →
          exec c s
            = .next ({ a with
                store := { a.store with holder := .loader }
                loader := { a.loader with state := .loading k a.now false, standby := .loading k } }.replied
                0xB1 tag [0x00]))
          ∧ (a.store.holder ≠ .nobody →
            exec c s
              = .next ({ a with
                  store := { a.store with line := a.store.line ++ [FlashUser.loader] }
                  loader := { a.loader with state := .waitingStore k, standby := .empty } }.replied 0xB1 tag [0x00])))
      ∧ (∀ j, a.height.config.auto = false → a.store.scanning = false → ¬ known → a.loader.activeSet = some k →
        a.loader.state = .staged j →
        exec c s
          = .next ({ a with loader := { a.loader with state := .idle, standby := .empty } }.replied 0xB1 tag [0x00]))
      ∧ (a.height.config.auto = false → a.store.scanning = false → ¬ known →
        (∃ w : State, a.SetRequested k w ∧ exec c s = .next (w.replied 0xB1 tag [0x00]))
          ∧ (a.loader.activeSet ≠ some k → a.loader.state.set? = some k → exec c s = .next (a.replied 0xB1 tag [0x00]))
          ∧ (∀ j start marks, a.loader.activeSet ≠ some k → j ≠ k → a.loader.state = .loading j start marks →
            a.store.holder = .loader →
            (a.store.line = [] →
              exec c s
                = .next ({ a with
                    loader := { a.loader with state := .loading k a.now false, standby := .loading k } }.replied
                    0xB1 tag [0x00]))
            ∧ (a.store.line ≠ [] →
              exec c s
                = .next ({ a with
                    store := { a.store with holder := .nobody, line := a.store.line ++ [FlashUser.loader] }
                    loader := { a.loader with state := .waitingStore k, standby := .empty } }.replied
                    0xB1 tag [0x00])))
          ∧ (∀ j, a.loader.activeSet ≠ some k → j ≠ k → a.loader.state = .waitingStore j → a.store.holder ≠ .nobody →
            exec c s
              = .next ({ a with
                  store := { a.store with
                    line := a.store.line.filter (· != FlashUser.loader) ++ [FlashUser.loader] }
                  loader := { a.loader with state := .waitingStore k, standby := .empty } }.replied 0xB1 tag [0x00])))

/-- R128, R129: STORE_OPEN. The checks in their order, each with its status, and on acceptance the session in ERASING,
the staging buffer empty, the DAMAGED mark cleared and the erase of the set's first sector taking the free flash for
24 ms. -/
def Obligations.StoreOpen : Prop :=
  ∀ (s : State) (tag : Byte) (k : Fin 8), s.Takes 0x38 →
    let a := s.awake 0x38
    let c : Instr := .storeOpen tag (BitVec.ofNat 8 k.val)
    (a.store.scanning = true → exec c s = .next (a.replied 0xB8 tag [0x02]))
      ∧ (a.store.scanning = false → a.power.state = .parked → exec c s = .next (a.replied 0xB8 tag [0x03]))
      ∧ (a.store.scanning = false → a.power.state ≠ .parked →
        (a.store.calDebounced = false → exec c s = .next (a.replied 0xB8 tag [0x09]))
          ∧ (a.store.calDebounced = true → (a.store.session ≠ none ∨ a.store.step ≠ none) →
            exec c s = .next (a.replied 0xB8 tag [0x02]))
          ∧ (a.store.calDebounced = true → a.store.session = none → a.store.step = none →
            (a.store.directory[k].lockMark ≠ .blank → exec c s = .next (a.replied 0xB8 tag [0x08]))
              ∧ (a.store.directory[k].lockMark = .blank → a.loader.inUse k = true →
                exec c s = .next (a.replied 0xB8 tag [0x0A]))
              ∧ (a.store.directory[k].lockMark = .blank → a.loader.inUse k = false → a.link.resetWait = .clear →
                a.store.holder = .nobody → a.store.line = [] → ∀ q : Fin 48, q.val = 6 * k.val →
                exec c s
                  = .next ({ a with
                      store := { a.store with
                        session := some
                          { phase := .erasing, set := k, nextIndex := 0, sum := 0, nextRow := 4, eraseSector := 0 }
                        staging := [], holder := .store
                        step := some { kind := .erase q, phase := .running (a.now + 648000) } }
                      loader := { a.loader with damaged := a.loader.damaged.set k.val false } }.replied
                      0xB8 tag [0x00]))))

/-- R130, R131: STORE_DATA. In RECEIVING, 1..6 well-formed records at the session's next index that fit in the free
space of the staging buffer join it, with the sum and the next index advanced; with fewer than 256 bytes then held,
nothing else follows. The other cases are refused with the status named and the next index, and change nothing. -/
def Obligations.StoreData : Prop :=
  ∀ (s : State) (tag : Byte) (first : Half) (rs : List TileRecord), s.Takes 0x39 →
    let a := s.awake 0x39
    let c : Instr := .storeData tag first rs
    let next := (a.store.session.map fun x => x.nextIndex).getD 0
    let counts := 1 ≤ rs.length ∧ rs.length ≤ 6 ∧ first.toNat + rs.length ≤ 560
    let bytes := rs.flatMap TileRecord.toBytes
    (¬ counts → exec c s = .next (a.replied 0xB9 tag (0x04 :: le16 next)))
      ∧ (counts → a.store.scanning = true → exec c s = .next (a.replied 0xB9 tag (0x02 :: le16 next)))
      ∧ (counts → a.store.scanning = false → a.store.session = none →
        exec c s = .next (a.replied 0xB9 tag [0x03, 0x00, 0x00]))
      ∧ ∀ x, counts → a.store.scanning = false → a.store.session = some x →
        (x.phase ≠ .receiving → exec c s = .next (a.replied 0xB9 tag (0x02 :: le16 next)))
          ∧ (x.phase = .receiving → first.toNat ≠ x.nextIndex →
            exec c s = .next (a.replied 0xB9 tag (0x06 :: le16 next)))
          ∧ (x.phase = .receiving → first.toNat = x.nextIndex →
            ((∃ r ∈ rs, r.wellFormed = false) → exec c s = .next (a.replied 0xB9 tag (0x05 :: le16 next)))
              ∧ ((∀ r ∈ rs, r.wellFormed = true) → 512 < a.store.staging.length + 40 * rs.length →
                exec c s = .next (a.replied 0xB9 tag (0x02 :: le16 next)))
              ∧ ((∀ r ∈ rs, r.wellFormed = true) → a.store.staging.length + 40 * rs.length < 256 →
                exec c s
                  = .next ({ a with store := { a.store with
                        staging := a.store.staging ++ bytes
                        session := some { x with nextIndex := x.nextIndex + rs.length, sum := x.sum + byteSum bytes } } }.replied
                      0xB9 tag (0x00 :: le16 (x.nextIndex + rs.length))))
              ∧ ((∀ r ∈ rs, r.wellFormed = true) → 256 ≤ a.store.staging.length + 40 * rs.length →
                a.store.staging.length + 40 * rs.length ≤ 512 → a.store.step = none → a.store.holder = .nobody →
                a.store.line = [] → a.link.resetWait = .clear →
                exec c s
                  = .next ({ a with store := { a.store with
                        staging := a.store.staging ++ bytes
                        session := some { x with nextIndex := x.nextIndex + rs.length, sum := x.sum + byteSum bytes }
                        holder := .store
                        step := some
                          { kind := .recordRow x.set x.nextRow, phase := .running (a.now + 40500) } } }.replied
                      0xB9 tag (0x00 :: le16 (x.nextIndex + rs.length)))))

/-- R132, R133: STORE_CLOSE takes a RECEIVING session with next index 560 into CLOSING, and with 128 bytes held and
the flash free issues the program of the last row; before index 560 it is refused with INCOMPLETE. STORE_ABORT closes
an open session at once: with no step, or one pending, which is withdrawn from the arbiter, it raises STORE_ABORTED with
cause REQUEST and the set state; a running step, of any kind, becomes the trailing step, and the bytes of a running
record row stay staged; with no session open it has no effect. That STORE_ABORTED comes before the reply is log 22. -/
def Obligations.StoreCloseAndAbort : Prop :=
  (∀ (s : State) (tag : Byte) (x : Session), s.Takes 0x3A →
    let a := s.awake 0x3A
    a.store.scanning = false → a.store.session = some x →
      (x.phase ≠ .receiving → exec (.storeClose tag) s = .next (a.replied 0xBA tag (0x02 :: le16 x.nextIndex)))
        ∧ (x.phase = .receiving → x.nextIndex < 560 →
          exec (.storeClose tag) s = .next (a.replied 0xBA tag (0x07 :: le16 x.nextIndex)))
        ∧ (x.phase = .receiving → x.nextIndex = 560 → a.store.staging ≠ [] → a.store.step = none →
          a.store.holder = .nobody → a.store.line = [] → a.link.resetWait = .clear →
          exec (.storeClose tag) s
            = .next ({ a with store := { a.store with
                  session := some { x with phase := .closing }, holder := .store
                  step := some { kind := .recordRow x.set x.nextRow, phase := .running (a.now + 40500) } } }.replied
                0xBA tag [0x00, 0x30, 0x02])))
    ∧ (∀ (s : State) (tag : Byte), s.Takes 0x3A →
      let a := s.awake 0x3A
      (a.store.scanning = true →
        ∃ body : List Byte, body.take 1 = [0x02] ∧ exec (.storeClose tag) s = .next (a.replied 0xBA tag body))
      ∧ (a.store.scanning = false → a.store.session = none →
        exec (.storeClose tag) s = .next (a.replied 0xBA tag [0x03, 0x00, 0x00])))
    ∧ (∀ (s : State) (tag : Byte), s.Takes 0x3B →
      let a := s.awake 0x3B
      (a.store.session = none → exec (.storeAbort tag) s = .next (a.replied 0xBB tag [0x00]))
        ∧ (∀ x, a.store.session = some x → a.store.step = none →
          exec (.storeAbort tag) s
            = .next (({ a with store := { a.store with session := none, staging := [] } }.raised .storeAborted
                ([BitVec.ofNat 8 x.set.val, 0x01, (a.store.setState x.set).code] ++ le16 x.nextIndex)).replied
                0xBB tag [0x00]))
        ∧ (∀ x q due, a.store.session = some x → a.store.step = some { kind := .erase q, phase := .running due } →
          exec (.storeAbort tag) s
            = .next ({ a with store := { a.store with
                  session := none, staging := []
                  trailing := some { set := x.set, cause := .request, nextIndex := x.nextIndex } } }.replied
                0xBB tag [0x00]))
        ∧ (∀ x kind, a.store.session = some x → a.store.step = some { kind := kind, phase := .pending } →
          exec (.storeAbort tag) s
            = .next (({ a with store := { a.store with
                  session := none, staging := [], step := none
                  line := a.store.line.filter (· != FlashUser.store) } }.raised .storeAborted
                ([BitVec.ofNat 8 x.set.val, 0x01, (a.store.setState x.set).code] ++ le16 x.nextIndex)).replied
                0xBB tag [0x00]))
        ∧ (∀ x kind due, a.store.session = some x → a.store.step = some { kind := kind, phase := .running due } →
          ∃ staging : List Byte,
            ((∃ k row, kind = .recordRow k row) → staging = a.store.staging.take 256)
              ∧ ((∀ k row, kind ≠ .recordRow k row) → staging = [])
              ∧ exec (.storeAbort tag) s
                = .next ({ a with store := { a.store with
                      session := none, staging := staging
                      trailing := some { set := x.set, cause := .request, nextIndex := x.nextIndex } } }.replied
                    0xBB tag [0x00])))

/-- R135, R136: STORE_LOCK of a COMPLETE set and STORE_RETIRE of a set not in use, each unlocked, with CAL_WE
asserted, the store not engaged and the flash free, begin the program of the mark, which holds the flash for 1.5
ms. -/
def Obligations.StoreLockAndRetire : Prop :=
  ∀ (s : State) (tag kind : Byte) (k : Fin 8), (kind = 0x3C ∨ kind = 0x3D) → s.Takes kind →
    let a := s.awake kind
    let c : Instr := if kind = 0x3C then .storeLock tag (BitVec.ofNat 8 k.val) else .storeRetire tag (BitVec.ofNat 8 k.val)
    let mark : StepKind := if kind = 0x3C then .lockMark k else .retireMark k
    let ready := a.store.scanning = false ∧ a.power.state ≠ .parked ∧ a.store.calDebounced = true
      ∧ a.store.session = none ∧ a.store.step = none
    (ready → a.store.directory[k].lockMark ≠ .blank → exec c s = .next (a.replied (kind + 0x80) tag [0x08]))
      ∧ (ready → a.store.directory[k].lockMark = .blank →
        (kind = 0x3C → a.store.setState k ≠ .complete → exec c s = .next (a.replied 0xBC tag [0x03]))
          ∧ (kind = 0x3D → a.loader.inUse k = true → exec c s = .next (a.replied 0xBD tag [0x0A]))
          ∧ (kind = 0x3D → a.loader.inUse k = false → a.store.directory[k].retireMark = .set →
            exec c s = .next (a.replied 0xBD tag [0x00]))
          ∧ (kind = 0x3D → a.loader.inUse k = false → a.store.directory[k].retireMark = .torn →
            exec c s = .next (a.replied 0xBD tag [0x03]))
          ∧ ((kind = 0x3C ∧ a.store.setState k = .complete
              ∨ kind = 0x3D ∧ a.loader.inUse k = false ∧ a.store.directory[k].retireMark = .blank) →
            a.link.resetWait = .clear → a.store.holder = .nobody → a.store.line = [] →
            exec c s
              = .next ({ a with store := { a.store with
                    holder := .store, step := some { kind := mark, phase := .running (a.now + 40500) } } }.replied
                  (kind + 0x80) tag [0x00])))

/-- R143, R151, R152: LINE_CONFIGURE of one line replaces the auto-start setting and that line's record in whole, an
unused level stored as LOW and the active level of an output as HIGH. A change of direction drops the input and the
mismatch state; an output whose attribute, role or level changes restarts its mismatch check; the wake snapshot is
adjusted. Where it does not bring the part to auto-start, the other lines and the other units keep everything; where it
does, the other lines keep everything but the mismatch check of outputs with a role. A value outside its field, an
attribute or role of the other direction, or a wake enable on an output refuses the request, and it changes nothing. The
refusal of an auto-start byte other than 0 or 1 is log 36, MISMATCH_CLEAR at a restart with the flag set is log 19, and
that it comes before the reply log 22. -/
def Obligations.LineConfigure : Prop :=
  ∀ (s : State) (tag auto : Byte) (e : LineEntry) (i : Fin 8), s.Takes 0x40 →
    let a := s.awake 0x40
    let c : Instr := .lineConfigure tag auto [e]
    let l := a.lines.line[i]
    let out := e.direction == 1
    let level := if e.attr = 0 ∨ 6 ≤ e.role.toNat then 0x00 else e.level
    let same := (l.config.bytes.drop 1).take 3 = [e.attr, level, e.role]
    let allowed := auto.toNat < 2 ∧ e.line.toNat < 8 ∧ e.direction.toNat < 2 ∧ e.level.toNat < 2
      ∧ e.active.toNat < 2 ∧ e.report.toNat < 2 ∧ e.wake.toNat < 2
      ∧ (if out then 2 ≤ e.attr.toNat ∧ e.attr.toNat ≤ 3 ∧ (e.role = 0 ∨ e.role = 6 ∨ e.role = 7) ∧ e.wake = 0
        else e.attr.toNat ≤ 1 ∧ e.role.toNat ≤ 5)
    (allowed → e.line = BitVec.ofNat 8 i.val →
      ∃ t : State, exec c s = .next t ∧ t.lines.autoStart = (auto == 1) ∧ t.lines.filled = a.lines.filled
        ∧ t.lines.awaiting = a.lines.awaiting
        ∧ (let m := t.lines.line[i]
          m.config.bytes = [e.direction, e.attr, level, e.role, if out then 0x01 else e.active, e.report, e.wake]
            ∧ m.raw = l.raw
            ∧ (l.config.out ≠ out → m.prev = none ∧ m.debounced = none ∧ m.mismatch = 0 ∧ m.flag = false)
            ∧ (l.config.out = out → m.prev = l.prev ∧ m.debounced = l.debounced)
            ∧ (l.config.out = out → out = false ∨ same → m.mismatch = l.mismatch ∧ m.flag = l.flag)
            ∧ (l.config.out = true → out = true → ¬ same → m.mismatch = 0 ∧ m.flag = false)
            ∧ m.snapshot =
              if a.power.state = .parked ∧ out = false ∧ e.wake = 1 then
                if l.config.wake then l.snapshot else l.debounced
              else none)
        ∧ (∀ j, j ≠ i →
          t.lines.line[j] =
              { a.lines.line[j] with mismatch := t.lines.line[j].mismatch, flag := t.lines.line[j].flag }
            ∧ (a.lines.line[j].config.out = false ∨ a.lines.line[j].config.role = .none →
              t.lines.line[j] = a.lines.line[j]))
        ∧ (e.role ≠ 5 ∨ a.reverse = true ∨ auto = 0 →
          (∀ j, j ≠ i → t.lines.line[j] = a.lines.line[j]) ∧ { t with link := a.link, lines := a.lines } = a)
        ∧ (e.role ≠ 5 ∨ a.reverse = true →
          t.link =
            (if l.config.out = true ∧ out = true ∧ ¬ same ∧ l.flag = true ∧ e.report = 1 then
              a.link.raise .lineChange [e.line, 0x03] else a.link).join
            { kind := 0xC0, tag := tag
              body := 0x00 :: auto :: (List.finRange 8).flatMap fun j => t.lines.line[j].config.bytes })
        ∧ t.balancer.gains = a.balancer.gains ∧ t.store = a.store ∧ t.supply = a.supply)
      ∧ (¬ allowed → exec c s = .next (a.replied 0xC0 tag [0x04]))

/-- R143, R146, R154: LINE_WRITE of one OUT line with role NONE sets its written level and with it the line's intended
pad level; a changed level restarts the line's mismatch check. A line that is an input or that carries PARITY or
PICTURE_OK is refused with REFUSED_STATE, and an empty list with BAD_ARGUMENT. -/
def Obligations.LineWrite : Prop :=
  ∀ (s : State) (tag : Byte) (i : Fin 8) (level : Bool), s.Takes 0x42 →
    let a := s.awake 0x42
    let c : Instr := .lineWrite tag [(BitVec.ofNat 8 i.val, bit level)]
    let l := a.lines.line[i]
    let pad := level != (l.config.attr == .inverted)
    (l.config.out = true → l.config.role = .none →
      ∃ t : State, exec c s = .next t
        ∧ t.lines.line[i] = { l with
            config := { l.config with level := level }
            mismatch := if level = l.config.level then l.mismatch else 0
            flag := l.flag && (level == l.config.level) }
        ∧ (∀ j, j ≠ i → t.lines.line[j] = a.lines.line[j])
        ∧ t.intended i = pad
        ∧ { t with link := a.link, lines := a.lines } = a)
      ∧ ((l.config.out = false ∨ l.config.role ≠ .none) → exec c s = .next (a.replied 0xC2 tag [0x03]))
      ∧ exec (.lineWrite tag []) s = .next (a.replied 0xC2 tag [0x04])

/-- R35, R53, R81, R82, R151, R161 to R163, R165, R175: POWER_STATE. From RUN to DOZE the pace is STOPPED and the slot
EMPTY while a composition in flight goes on; from DOZE to RUN nothing else changes; into PARKED, with the store not
engaged, the composition in flight is abandoned, every port is OFF or FAILED with its camera unpowered, the height
monitor STOPPED and the wake snapshot taken; with the store engaged PARK is refused with BUSY; from PARKED the height
monitor starts again. A FAILED port keeps its CPWRn, which is off in every sound state (PortsPowered). That the deadline
of a STOPPED pace is cleared is log 28, and that the last mean is kept log 29. -/
def Obligations.PowerState : Prop :=
  ∀ (s : State) (tag : Byte), s.Takes 0x48 →
    let a := s.awake 0x48
    let low := bit a.supply.low
    let engaged := a.store.session ≠ none ∨ a.store.step ≠ none
    (a.power.state = .run → exec (.powerState tag 0x00) s = .next (a.replied 0xC8 tag [0x00, 0x00, low]))
      ∧ (a.power.state = .doze →
        exec (.powerState tag 0x00) s
          = .next ({ a with power := { a.power with state := .run } }.replied 0xC8 tag [0x00, 0x00, low]))
      ∧ (a.power.state = .run →
        ∃ t : State, exec (.powerState tag 0x01) s = .next t ∧ t.power = { a.power with state := .doze }
          ∧ t.pace.runState = .stopped ∧ t.pace.deadline = none ∧ t.pace.trigger = a.pace.trigger
          ∧ t.pace.parity = a.pace.parity ∧ t.engine = { a.engine with slot := .empty }
          ∧ t.display = { a.display with held := false } ∧ t.height = a.height ∧ t.loader = a.loader
          ∧ t.store = a.store ∧ t.supply = a.supply ∧ t.balancer = a.balancer
          ∧ ∀ i : Fin 4, t.ports[i].state = a.ports[i].state ∧ t.ports[i].power = a.ports[i].power)
      ∧ (a.power.state ≠ .parked → engaged →
        exec (.powerState tag 0x02) s = .next (a.replied 0xC8 tag [0x02, a.power.state.code, low]))
      ∧ (a.power.state ≠ .parked → ¬ engaged →
        ∃ t : State, exec (.powerState tag 0x02) s = .next t ∧ t.power = { a.power with state := .parked }
          ∧ t.pace.runState = .stopped ∧ t.pace.deadline = none ∧ t.engine.slot = .empty ∧ t.engine.inflight = none
          ∧ t.engine.tiles = a.engine.tiles ∧ t.engine.previous = a.engine.previous
          ∧ (∀ i : Fin 4, t.ports[i].state = if a.ports[i].state = .failed then .failed else .off)
          ∧ (a.PortsPowered → ∀ i : Fin 4, t.ports[i].power = false)
          ∧ (∀ i : Fin 4, a.ports[i].state = .failed →
            t.ports[i].power = a.ports[i].power ∧ t.ports[i].timer = a.ports[i].timer)
          ∧ (∀ i : Fin 4, a.ports[i].state ≠ .failed →
            t.ports[i].power = false ∧ t.ports[i].timer = .stopped ∧ t.ports[i].ready = []
              ∧ ∀ b : Fin 3, t.ports[i].buffers[b].state ≠ .filling ∧ t.ports[i].buffers[b].state ≠ .ready)
          ∧ t.height = { a.height with
              state := .stopped, silence := none, heldEdge := none, window := [], invalid := 0 }
          ∧ (∀ i : Fin 8, t.lines.line[i].snapshot =
              if a.lines.line[i].config.out = false ∧ a.lines.line[i].config.wake = true then
                a.lines.line[i].debounced else none)
          ∧ t.display = { a.display with held := false } ∧ t.loader = a.loader ∧ t.store = a.store
          ∧ t.supply = a.supply ∧ t.balancer = a.balancer)
      ∧ (∀ target : Machine.PowerState, target ≠ .parked → a.power.state = .parked →
        exec (.powerState tag target.code) s
          = .next ({ a with
              power := { a.power with state := target }
              height := { a.height with
                state := .filling, accepted := none, run := none, filterSince := a.now / 27
                silence := some (a.now + 540000) }
              lines := { a.lines with line := mapAll a.lines.line fun l => { l with snapshot := none } } }.replied
              0xC8 tag [0x00, target.code, low]))
      ∧ (∀ target : Machine.PowerState, target ≠ .run → a.power.state = target →
        exec (.powerState tag target.code) s = .next (a.replied 0xC8 tag [0x00, target.code, low]))
      ∧ (∀ target : Byte, 3 ≤ target.toNat →
        exec (.powerState tag target) s = .next (a.replied 0xC8 tag [0x04, a.power.state.code, low]))

/-- R166, R167: WAKE_CONFIGURE sets link wake, which is ON by default, and nothing else. SUPPLY_CONFIGURE puts the
threshold at the highest of 6.5, 7.0, 7.5 and 8.0 V that is not above the value given, or at 6.5 V, and sets both
counts to 0; the supply state is kept; OK_CLAMPED is answered exactly when the threshold in force is not the value
given. -/
def Obligations.WakeAndSupplyConfigure : Prop :=
  (∀ (s : State) (tag value : Byte), s.Takes 0x49 →
    let a := s.awake 0x49
    (value.toNat < 2 →
      ∃ enables : Byte,
        (∀ i : Fin 8, enables.getLsbD i.val = (!a.lines.line[i].config.out && a.lines.line[i].config.wake))
          ∧ exec (.wakeConfigure tag value) s
            = .next ({ a with power := { a.power with linkWake := value == 1 } }.replied 0xC9 tag [0x00, value, enables]))
      ∧ (2 ≤ value.toNat → exec (.wakeConfigure tag value) s = .next (a.replied 0xC9 tag [0x04])))
    ∧ State.reset.power.linkWake = true
    ∧ ∀ (s : State) (tag threshold : Byte), s.Takes 0x4A →
      let a := s.awake 0x4A
      let n := threshold.toNat
      let v := if 80 ≤ n then 80 else if 75 ≤ n then 75 else if 70 ≤ n then 70 else 65
      exec (.supplyConfigure tag threshold) s
        = .next ({ a with supply := { a.supply with threshold := v, lowCount := 0, restoreCount := 0 } }.replied 0xCA tag
            ([if v = n then 0x00 else 0x01, BitVec.ofNat 8 v, bit a.supply.low] ++ le16OrNone a.supply.last))

/-! ### Frames on the link -/

/-- R179 to R182, R184: a well-framed record received with the slot empty is that request, while 00h is shifted out for
every byte; shown for every request, with its arguments in the order of *Request bodies*. -/
def Obligations.TransactionBringsRequest : Prop :=
  ∀ (s : State) (tag a b c d e : Byte) (u v : Half) (kinds : BitVec 24) (x : HeightArgs) (pairs : List (Byte × Byte))
    (entries : List LineEntry) (records : List TileRecord) (i : Instr) (kind : Byte) (body : List Byte),
    s.power.inReset = false → s.link.Settled → s.link.slot = none → s.link.receiver = [] → body.length ≤ 256 →
    (i, kind, body) ∈
      [(.identify tag, (0x01 : Byte), []), (.status tag, 0x02, []), (.reset tag, 0x03, []),
        (.eventConfigure tag pairs, 0x04, pairs.flatMap fun y => [y.1, y.2]),
        (.eventClear tag kinds, 0x05, le24 kinds.toNat),
        (.portConfigure tag a u v b, 0x10, a :: (le16 u.toNat ++ le16 v.toNat ++ [b])), (.portPower tag a b, 0x11, [a, b]),
        (.portStandbyEnter tag a, 0x12, [a, 0x01]), (.portStandbyLeave tag a, 0x12, [a, 0x00]),
        (.paceConfigure tag a u b c d, 0x18, a :: (le16 u.toNat ++ [b, c, d])), (.paceStart tag, 0x19, []),
        (.paceStop tag, 0x1A, []), (.pacePreset tag, 0x1B, []), (.composeConfigure tag a b c d e, 0x20, [a, b, c, d, e]),
        (.balanceConfigure tag a b, 0x28, [a, b]), (.balanceSetGain tag a u, 0x29, a :: le16 u.toNat),
        (.balanceReset tag, 0x2A, []),
        (.heightConfigure tag x, 0x30,
          [x.polarity, x.bands] ++ le16 x.b1.toNat ++ le16 x.b2.toNat ++ le16 x.b3.toNat
            ++ [x.hysteresis, x.map0, x.map1, x.map2, x.map3, x.mode]),
        (.selectSet tag a, 0x31, [a]), (.storeOpen tag a, 0x38, [a]),
        (.storeData tag u records, 0x39,
          le16 u.toNat ++ [BitVec.ofNat 8 records.length] ++ records.flatMap TileRecord.toBytes),
        (.storeClose tag, 0x3A, []), (.storeAbort tag, 0x3B, []), (.storeLock tag a, 0x3C, [a]),
        (.storeRetire tag a, 0x3D, [a]), (.storeQuery tag, 0x3E, []), (.storeRead tag a u, 0x3F, a :: le16 u.toNat),
        (.lineConfigure tag a entries, 0x40,
          a :: entries.flatMap fun y => [y.line, y.direction, y.attr, y.level, y.role, y.active, y.report, y.wake]),
        (.lineRead tag, 0x41, []), (.lineWrite tag pairs, 0x42, pairs.flatMap fun y => [y.1, y.2]),
        (.powerState tag a, 0x48, [a]), (.wakeConfigure tag a, 0x49, [a]), (.supplyConfigure tag a, 0x4A, [a])] →
    exec (.transactionEnd (Frame.bytes { kind := kind, tag := tag, body := body }) .slotEmpty) s
      = exec i { s with link := { s.link with miso := List.replicate (6 + body.length) 0 } }

/-- R179, R181 to R186, R190: on MISO goes the record in the slot from its first byte, then 00h, and 00h throughout with
the slot empty. A damaged frame is answered by a REJECT with its reason and kind, or reported by REPLY_OVERRUN with
four records queued; a body of the wrong length and an unknown kind are refused; filler and a transaction without a
byte are nothing; a transaction that lost its start is not taken; and a record in the slot leaves when all its bytes
were shifted out: a reply of an accepted RESET moves the reset wait on, and the record of a notice is cleared, or kept
with the raises counted meanwhile. How a transaction stood when it began is an operand of the model's (log 18), and the
tag 00h that REPLY_OVERRUN tells of a frame of one byte is the model's choice (log 41). -/
def Obligations.TransactionEnd : Prop :=
  ∀ s : State, s.power.inReset = false → s.link.receiver = [] →
    let out := fun bytes : List Byte => ({ s with link := { s.link with miso := bytes } } : State)
    (∀ bytes, exec (.transactionEnd bytes .lost) s = .next s)
      ∧ (∀ kind rest reason, kind ≠ 0 → checkFrame (kind :: rest) = .rejected reason →
        let tag := rest[0]?.getD 0
        (∀ o, s.link.slot = some o → rest.length + 1 < 6 + o.frame.body.length →
          (s.link.queue.length < 4 →
            exec (.transactionEnd (kind :: rest) .slotHeld) s
              = .next ((out (o.frame.bytes.take (rest.length + 1))).replied 0x80 tag [reason, kind]))
          ∧ (4 ≤ s.link.queue.length →
            exec (.transactionEnd (kind :: rest) .slotHeld) s
              = .next ((out (o.frame.bytes.take (rest.length + 1))).raised .replyOverrun [kind, tag])))
        ∧ (s.link.Settled → s.link.slot = none →
          exec (.transactionEnd (kind :: rest) .slotEmpty) s
            = .next ((out (List.replicate (rest.length + 1) 0)).replied 0x80 tag [reason, kind])))
      ∧ (∀ kind tag body, s.link.Settled → s.link.slot = none → kind ≠ 0 → kind.toNat < 0x7F → body.length ≤ 256 →
        let v := (out (List.replicate (6 + body.length) 0)).awake kind
        let refused := fun reply : List Byte =>
          exec (.transactionEnd (Frame.bytes { kind := kind, tag := tag, body := body }) .slotEmpty) s
            = .next (v.replied (kind + 0x80) tag reply)
        let next := le16 ((s.store.session.map fun x => x.nextIndex).getD 0)
        (∀ n, (kind, n) ∈ [((0x01 : Byte), 0), (0x02, 0), (0x03, 0), (0x05, 3), (0x10, 6), (0x11, 2), (0x12, 2),
            (0x18, 6), (0x19, 0), (0x1A, 0), (0x1B, 0), (0x20, 5), (0x28, 2), (0x29, 3), (0x2A, 0), (0x30, 14),
            (0x31, 1), (0x38, 1), (0x3B, 0), (0x3C, 1), (0x3D, 1), (0x3E, 0), (0x3F, 3), (0x41, 0), (0x49, 1),
            (0x4A, 1)] → body.length ≠ n → refused [0x04])
          ∧ (∀ port action, kind = 0x12 → body = [port, action] → 2 ≤ action.toNat → refused [0x04])
          ∧ (kind = 0x04 ∨ kind = 0x42 → body.length % 2 = 1 → refused [0x04])
          ∧ (kind = 0x40 → body.length % 8 ≠ 1 → refused [0x04])
          ∧ (kind = 0x39 → (body.length < 3 ∨ body.length ≠ 3 + 40 * (body[2]?.getD 0).toNat) →
            refused (0x04 :: next))
          ∧ (kind = 0x3A → body ≠ [] → refused (0x04 :: next))
          ∧ (kind = 0x48 → body.length ≠ 1 → refused [0x04, v.power.state.code, bit v.supply.low])
          ∧ (kind ∉ [(0x01 : Byte), 0x02, 0x03, 0x04, 0x05, 0x10, 0x11, 0x12, 0x18, 0x19, 0x1A, 0x1B, 0x20, 0x28,
              0x29, 0x2A, 0x30, 0x31, 0x38, 0x39, 0x3A, 0x3B, 0x3C, 0x3D, 0x3E, 0x3F, 0x40, 0x41, 0x42, 0x48, 0x49,
              0x4A] → refused [0x0D]))
      ∧ (∀ bytes : List Byte, bytes[0]?.getD 0 = 0 →
        (s.link.Settled → s.link.slot = none →
          exec (.transactionEnd bytes .slotEmpty) s = .next (out (List.replicate bytes.length 0)))
        ∧ (∀ o, s.link.slot = some o → bytes.length < 6 + o.frame.body.length →
          exec (.transactionEnd bytes .slotHeld) s = .next (out (o.frame.bytes.take bytes.length)))
        ∧ (∀ f, s.link.slot = some (.reply f) → 6 + f.body.length ≤ bytes.length →
          exec (.transactionEnd bytes .slotHeld) s
            = .next { s with link := { s.link with
                miso := f.bytes ++ List.replicate (bytes.length - (6 + f.body.length)) 0
                slot := none, attn := false
                resetWait := if f.kind = 0x83 ∧ f.body = [0x00] ∧ s.link.resetWait = ResetWait.replyWaiting then
                    ResetWait.replySent else s.link.resetWait }.fill })
        ∧ (∀ k f, s.link.slot = some (.notice k f) → 6 + f.body.length ≤ bytes.length →
          exec (.transactionEnd bytes .slotHeld) s
            = .next { s with link := { s.link with
                miso := f.bytes ++ List.replicate (bytes.length - (6 + f.body.length)) 0
                slot := none, attn := false
                records := update s.link.records k.index fun r =>
                  if r.raisedAgain = 0 then
                    { pending := false, repeats := 0, detail := [], priority := r.priority, raisedAgain := 0 }
                  else { r with repeats := r.raisedAgain, raisedAgain := 0 } }.fill }))

/-! ### Resets -/

/-- R140, R190 and the reset tables (R40, R55, R84, R101, R119, R142, R155, R170, R178, R193): SOFT_RESET acts once
the RESET reply has been sent and no store step is left, and keeps camera power, the flash, CAL_WE, the line
configurations, levels and auto-start, link wake and the supply monitor. That it also keeps the level last read on
CSNSn, which R40 does not list, is the model's choice (log 13). That SOFT_RESET is a command of its own without effect
before then is the model's form (logs 2, 17), and so are values that the reset tables leave out (log 26). -/
def Obligations.SoftReset : Prop :=
  ∀ s : State, s.power.inReset = false →
    (s.link.resetWait = .replySent → s.store.step = none →
      ∃ t : State, exec .softReset s = .next t
        ∧ t.power = { s.power with state := .doze, cause := .soft } ∧ t.supply = s.supply ∧ t.now = s.now
        ∧ t.link.slot = none ∧ t.link.queue = [] ∧ t.link.resetWait = .clear ∧ t.link.attn = false
        ∧ (∀ k : EventKind, (t.link.record k).pending = false ∧ (t.link.record k).priority = k.defaultPriority)
        ∧ (∀ i : Fin 4, t.ports[i].state = (if s.ports[i].power = true then .waiting else .off)
          ∧ t.ports[i].power = s.ports[i].power ∧ t.ports[i].csns = s.ports[i].csns
          ∧ t.ports[i].settle = 300 ∧ t.ports[i].watchdog = 200 ∧ t.ports[i].limit = 2 ∧ t.ports[i].ready = [])
        ∧ t.pace.runState = .stopped ∧ t.pace.trigger = 0 ∧ t.pace.parity = false
        ∧ t.pace.configured = { prescaler := 16, reload := 56249, mode := .continuous, percent := 80, stale := 1 }
        ∧ t.engine.slot = .empty ∧ t.engine.inflight = none ∧ t.engine.previous = none ∧ t.engine.hold = 8
        ∧ (∀ x ∈ t.engine.tiles, x = { source := .filled, age := 255 })
        ∧ t.balancer.gains = #v[1024, 1024, 1024, 1024]
        ∧ t.height.state = .filling ∧ t.height.band = none ∧ t.height.silence = some (s.now + 540000)
        ∧ t.loader.state = .idle ∧ t.loader.active = .empty ∧ t.loader.standby = .empty
        ∧ t.store.flash = s.store.flash ∧ t.store.holder = .scan (s.now + 43200) ∧ t.store.session = none
        ∧ t.store.calSampled = s.store.calSampled ∧ t.store.calDebounced = s.store.calDebounced
        ∧ (∀ i : Fin 8, t.lines.line[i] = { s.lines.line[i] with mismatch := 0, flag := false, snapshot := none })
        ∧ t.lines.autoStart = s.lines.autoStart ∧ t.lines.filled = none
        ∧ t.display = { mode := .continuous, transfer := none, held := false, counter := 0, repeats := 0, frozen := false })
      ∧ (s.link.resetWait ≠ .replySent ∨ s.store.step ≠ none → exec .softReset s = .next s)

/-- R123, R141, R168, R169: POWER_ON_RESET, SUPPLY_RESET and PIN_RESET hold the part in reset with their cause and
change no byte of flash but those of a step that they cut, shown with no step running and for every kind of step;
FULL_RESET_END leaves the part in DOZE with link wake ON, the supply NORMAL, every port OFF, the scan holding the
flash and the silence timer running. That a part in reset takes nothing but resets is the model's form (log 25), and
that FULL_RESET_END outside a reset changes nothing the model's choice (log 2). -/
def Obligations.FullResets : Prop :=
  (∀ (s : State) (c : Instr) (cause : ResetCause),
    (c, cause) ∈ [(Instr.powerOnReset, ResetCause.powerOn), (.supplyReset, .supply), (.pinReset, .pin)] →
    ∃ t : State, exec c s = .next t
      ∧ t.power = { state := .doze, linkWake := true, cause := cause, inReset := true } ∧ t.now = s.now
      ∧ (s.store.stepRunning = false → t.store.flash = s.store.flash)
      ∧ (∀ q due a, s.store.step = some { kind := .erase q, phase := .running due } →
        (a < 4096 * q.val ∨ 4096 * (q.val + 1) ≤ a) →
        Memory.read 0xFF t.store.flash a = Memory.read 0xFF s.store.flash a)
      ∧ (∀ step k r sum due a, s.store.step = some { kind := step, phase := .running due } →
        (step = .recordRow k r ∨ step = .openMark k ∧ r = 0 ∨ step = .completeMark k sum ∧ r = 1
          ∨ step = .lockMark k ∧ r = 2 ∨ step = .retireMark k ∧ r = 3) →
        (a < 24576 * k.val + 256 * r ∨ 24576 * k.val + 256 * r + 256 ≤ a) →
        Memory.read 0xFF t.store.flash a = Memory.read 0xFF s.store.flash a)
      ∧ t.link.slot = none ∧ t.link.queue = [] ∧ t.display.transfer = none
      ∧ ∀ i : Fin 4, t.ports[i].state = .off ∧ t.ports[i].power = false)
    ∧ (∀ s : State, s.power.inReset = true →
      ∃ t : State, exec .fullResetEnd s = .next t
        ∧ t.power = { state := .doze, linkWake := true, cause := s.power.cause, inReset := false }
        ∧ t.store.flash = s.store.flash ∧ t.store.holder = .scan (s.now + 43200) ∧ t.now = s.now
        ∧ t.height.silence = some (s.now + 540000) ∧ t.height.state = .filling
        ∧ t.supply = { last := none, low := false, lowCount := 0, restoreCount := 0, threshold := 70, holdStart := none,
                       readings := 0 }
        ∧ t.loader.active = .empty ∧ t.lines.autoStart = false ∧ t.engine.inflight = none
        ∧ ∀ i : Fin 4, t.ports[i].state = .off ∧ t.ports[i].power = false)
    ∧ ∀ s : State, s.power.inReset = false → exec .fullResetEnd s = .next s

/-! ### Camera ports -/

/-- R19, R21 to R23, R29, R43, R58: what a receiving port does with FRAME START, LINE and FRAME END, and that a port
that is not receiving discards them. A FRAME START that meets a FILLING frame frees its buffer with FRAME_BROKEN, and
the new frame takes the lowest-numbered FREE buffer, the freed one among them. The gatherer's test after a good FRAME
END does what R58 says (`State.Tested`): it closes an all-present gather, and changes nothing otherwise. That a LINE
packet at line count 960 is EXTRA_LINES whatever its length is log 37, and that CAMERA_STATE comes before what the
gather raises log 21. -/
def Obligations.FrameReception : Prop :=
  ∀ (s : State) (i : Fin 4), s.power.inReset = false →
    let q := s.ports[i]
    let receiving := (q.state = .waiting ∨ q.state = .live ∨ q.state = .stalled) ∧ s.supply.low = false
    let begun : FrameBuffer → FrameBuffer := fun f =>
      { f with state := .filling, tag := s.pace.trigger, broken := none, lines := 0, data := [] }
    (¬ receiving → exec (.frameStart i) s = .next s ∧ exec (.frameEnd i) s = .next s
        ∧ ∀ samples, exec (.linePacket i samples) s = .next s)
      ∧ (receiving → (∀ b : Fin 3, q.buffers[b].state ≠ .filling) →
        (∀ b : Fin 3, q.buffers[b].state = .free → (∀ c : Fin 3, c < b → q.buffers[c].state ≠ .free) →
          exec (.frameStart i) s
            = .next { s with ports := update s.ports i fun q => { q with buffers := update q.buffers b begun } })
        ∧ (∀ b rest, (∀ c : Fin 3, q.buffers[c].state ≠ .free) → q.ready = b :: rest →
          exec (.frameStart i) s
            = .next { s with ports := update s.ports i fun q =>
                { q with ready := rest, buffers := update q.buffers b begun } })
        ∧ exec (.frameEnd i) s = .next s ∧ ∀ samples, exec (.linePacket i samples) s = .next s)
      ∧ (∀ b : Fin 3, receiving → q.buffers[b].state = .filling →
        (∀ c : Fin 3, q.buffers[c].state = .filling → c = b) →
        let f := q.buffers[b]
        let tag := le16 f.tag.toNat
        let freed : Port → Port := fun q => { q with buffers := update q.buffers b fun f => { f with state := .free } }
        (∀ c : Fin 3, (freed q).buffers[c].state = .free →
          (∀ d : Fin 3, d < c → (freed q).buffers[d].state ≠ .free) →
          exec (.frameStart i) s
            = .next ({ s with ports := update s.ports i fun q =>
                { q with buffers := update (freed q).buffers c begun } }.raised .frameBroken
                (BitVec.ofNat 8 i.val :: (tag ++ [0x01]))))
        ∧ (∀ samples, f.lines < 960 →
          exec (.linePacket i samples) s
            = .next { s with ports := update s.ports i fun q => { q with buffers := update q.buffers b fun f =>
                { f with
                  lines := f.lines + 1, data := f.data ++ [samples.take 2560]
                  broken := if f.broken = none ∧ samples.length / 2 ≠ 1280 then some BrokenCause.lineLength
                    else f.broken } } })
        ∧ (∀ samples, f.lines = 960 →
          exec (.linePacket i samples) s
            = .next { s with ports := update s.ports i fun q => { q with buffers := update q.buffers b fun f =>
                { f with broken := if f.broken = none then some BrokenCause.extraLines else f.broken } } })
        ∧ (f.broken = none → f.lines = 960 →
          let t : State := { s with ports := update s.ports i fun q =>
            { q with
              buffers := update q.buffers b fun f => { f with state := .ready }
              ready := q.ready ++ [b], state := .live, attempts := if q.state = .live then q.attempts else 0
              timer := if s.pace.runState = .stopped then .held else .running (s.now + q.watchdog * 27000) } }
          let u := if q.state = .live then t else t.raised .cameraState [BitVec.ofNat 8 i.val, 0x03]
          exec (.frameEnd i) s = .next u.gathered ∧ u.Tested u.gathered)
        ∧ (f.broken ≠ none ∨ f.lines ≠ 960 →
          let cause : Byte :=
            if f.broken = some .lineLength then 0x02 else if f.broken = some .extraLines then 0x03 else 0x04
          exec (.frameEnd i) s
            = .next ({ s with ports := update s.ports i freed }.raised .frameBroken
                (BitVec.ofNat 8 i.val :: (tag ++ [cause])))))

/-- R28, R30 to R32, R58: the expiries of a port's timer at tick `due`: from POWERING to WAITING, from LIVE to STALLED,
from WAITING and STALLED to RECOVERING with an attempt counted, or to FAILED at the recovery limit, and from
RECOVERING back to POWERING. Each raises CAMERA_STATE and is told to the gatherer, whose test acts as R58 says
(`State.Tested`). In the other states they change nothing. That CAMERA_STATE comes before what the gather raises is log
21; that the clock moves to the tick, and that an expiry that cannot be has no effect, are logs 1 and 2. -/
def Obligations.PortTimers : Prop :=
  ∀ (s : State) (i : Fin 4) (due : Nat), s.power.inReset = false → s.ports[i].timer = .running due →
    let q := s.ports[i]
    let t := s.atTick due
    let port : Byte := BitVec.ofNat 8 i.val
    let wd : PortTimer :=
      if s.pace.runState ≠ .stopped ∧ s.supply.low = false then .running (t.now + q.watchdog * 27000) else .held
    let dropped := mapAll q.buffers fun b =>
      if b.state = BufferState.filling ∨ b.state = BufferState.ready then { b with state := .free } else b
    let becomes := fun (c : Instr) (u : State) => exec c s = .next u.gathered ∧ u.Tested u.gathered
    (q.state = .powering →
      becomes (.settleExpiry i)
        ({ t with ports := update s.ports i fun q => { q with state := .waiting, timer := wd } }.raised .cameraState
          [port, 0x02]))
      ∧ (q.state = .live →
        becomes (.watchdogExpiry i)
          ({ t with ports := update s.ports i fun q => { q with state := .stalled, timer := wd } }.raised .cameraState
            [port, 0x04]))
      ∧ (q.state = .waiting ∨ q.state = .stalled → q.attempts < q.limit →
        becomes (.watchdogExpiry i)
          ({ t with ports := update s.ports i fun q =>
              { q with
                state := .recovering, power := false, faultCount := 0, attempts := q.attempts + 1
                timer := .running (t.now + 5400000), ready := [], buffers := dropped } }.raised .cameraState
            [port, 0x05]))
      ∧ (q.state = .waiting ∨ q.state = .stalled → q.limit ≤ q.attempts →
        becomes (.watchdogExpiry i)
          ({ t with ports := update s.ports i fun q =>
              { q with
                state := .failed, power := false, faultCount := 0, timer := .stopped, ready := []
                buffers := dropped } }.raised .cameraState [port, 0x06]))
      ∧ (q.state = .recovering → q.power = false →
        becomes (.recoveryExpiry i)
          ({ t with ports := update s.ports i fun q =>
              { q with
                state := .powering, power := true, faultCount := 0, timer := .running (t.now + q.settle * 27000) } }.raised
            .cameraState [port, 0x01]))
      ∧ (q.state ≠ .powering → exec (.settleExpiry i) s = .next s)
      ∧ (q.state ≠ .live → q.state ≠ .waiting → q.state ≠ .stalled → exec (.watchdogExpiry i) s = .next s)
      ∧ (q.state ≠ .recovering → exec (.recoveryExpiry i) s = .next s)

/-- R33, R58: a CSNS sample. While CPWR is on and the supply is NORMAL, an off sample advances the count, and the
twentieth in a row takes the power fault: FAILED with CPWR off, CAMERA_STATE, then POWER_FAULT. Any other sample sets
the count to 0. POWER_FAULT as a command is that twentieth sample, and without nineteen counted it has no effect (log
4). The order of the two events is the model's choice (log 21). The gatherer's test between them acts as R58 says
(`State.Tested`). -/
def Obligations.CameraPowerFault : Prop :=
  ∀ (s : State) (i : Fin 4) (level : Bool), s.power.inReset = false →
    let q := s.ports[i]
    let port : Byte := BitVec.ofNat 8 i.val
    (level = true ∨ q.power = false ∨ s.supply.low = true →
      exec (.csnsSample i level) s
        = .next { s with ports := update s.ports i fun q => { q with csns := level, faultCount := 0 } })
      ∧ (q.power = true → s.supply.low = false → q.faultCount < 19 →
        exec (.csnsSample i false) s
          = .next { s with ports := update s.ports i fun q =>
              { q with csns := false, faultCount := q.faultCount + 1 } })
      ∧ (q.power = true → s.supply.low = false → q.faultCount = 19 → q.state ≠ .failed →
        ∀ c : Instr, c = .csnsSample i false ∨ c = .powerFault i →
        let failed : State :=
          { s with ports := update s.ports i fun q =>
              { q with
                csns := false, state := .failed, power := false, timer := .stopped, faultCount := 0, ready := []
                buffers := mapAll q.buffers fun b =>
                  if b.state = BufferState.filling ∨ b.state = BufferState.ready then { b with state := .free } else b } }
        let u := failed.raised .cameraState [port, 0x06]
        exec c s = .next (u.gathered.raised .powerFault [port]) ∧ u.Tested u.gathered)
      ∧ (q.faultCount < 19 → exec (.powerFault i) s = .next s)

/-! ### Pace timer, gatherer and engine -/

/-- R44, R45, R47, R57, R61, R172: PERIOD_END. RUNNING in CONTINUOUS issues a boundary at its tick; RUNNING in SINGLE
and STOPPING end in STOPPED, where the configured settings are adopted. A boundary clears the slot while the supply is
LOW and opens the gather of the new trigger otherwise. A trigger that it finds GATHERING is composed when the engine
is IDLE; one that it finds GATHERING or READY with the engine busy is skipped with OVERRUN. The display port takes the
mode of the boundary, and in CONTINUOUS mode a frame request (`State.FrameRequested`). CAPTURE_PULSE_END ends the
pulse. The clock, the events that cannot be, a composite painted at its start and the order of the units at a boundary
are the model's choices (logs 1, 2, 5, 6). -/
def Obligations.PeriodEnd : Prop :=
  (∀ (s : State) (since : Nat), s.power.inReset = false → s.pace.counter = .counting since →
    let due := max s.now (since + s.pace.inForce.prescaler * (s.pace.inForce.reload + 1))
    let c := s.pace.configured
    (s.pace.runState = .running → s.pace.inForce.mode = .continuous →
      ∃ t : State, exec .periodEnd s = .next t ∧ t.now = due
        ∧ t.pace =
          { configured := c, inForce := c, runState := .running, counter := .counting due, trigger := s.pace.trigger + 1
            deadline := some
              { due := due + c.prescaler * (c.reload + 1) * c.percent / 100, trigger := s.pace.trigger + 1 }
            capture := some (due + 2700), parity := !s.pace.parity }
        ∧ (s.supply.low = true → t.engine.slot = .empty)
        ∧ (s.supply.low = false → t.engine.slot = .gathering (s.pace.trigger + 1) c.stale)
        ∧ (∀ m stale x, s.supply.low = false → s.engine.slot = .ready m stale ∨ s.engine.slot = .gathering m stale →
          s.engine.inflight = some x →
          t.engine.inflight = some x ∧ (t.link.record .overrun).pending = true
            ∧ (t.link.record .overrun).detail = le16 m.toNat ++ le16 x.trigger.toNat)
        ∧ (∀ m stale, s.supply.low = false → s.engine.slot = .gathering m stale → s.engine.inflight = none →
          s.engine.BuffersOk →
          ∃ x : Composition, t.engine.inflight = some x ∧ x.StartedFrom m stale s
            ∧ t.balancer = { s.balancer with written := #v[false, false, false, false] }
            ∧ ∃ b : Fin 3, s.engine.buffers[b].state = .free ∧ t.engine.buffers[b].state = .writing)
        ∧ (∃ d : State, d.display = { s.display with mode := c.mode } ∧ d.power = s.power ∧ d.supply = s.supply
          ∧ d.now = due ∧ (s.engine.BuffersOk → d.engine.BuffersOk)
          ∧ (∀ b : Fin 3, s.engine.buffers[b].state ≠ .free → d.engine.buffers[b] = s.engine.buffers[b])
          ∧ d.engine.void = s.engine.void
          ∧ (c.mode = .single → t = d) ∧ (c.mode = .continuous → d.FrameRequested t))
        ∧ t.balancer.gains = s.balancer.gains ∧ t.store = s.store ∧ t.power = s.power ∧ t.supply = s.supply
        ∧ t.height = s.height
        ∧ ∀ i : Fin 4, t.ports[i].state = s.ports[i].state ∧ t.ports[i].power = s.ports[i].power
          ∧ t.ports[i].timer = s.ports[i].timer ∧ t.ports[i].attempts = s.ports[i].attempts)
      ∧ (s.pace.runState = .stopping ∨ s.pace.runState = .running ∧ s.pace.inForce.mode = .single →
        ∃ t : State, exec .periodEnd s = .next t ∧ t.now = due
          ∧ t.pace = { s.pace with inForce := c, runState := .stopped, counter := .stopped (due - since) }
          ∧ t.engine = s.engine ∧ t.balancer = s.balancer ∧ t.display = s.display ∧ t.store = s.store
          ∧ t.height = s.height ∧ t.loader = s.loader ∧ t.supply = s.supply ∧ t.power = s.power
          ∧ ∀ i : Fin 4, t.ports[i] = { s.ports[i] with timer := t.ports[i].timer }))
    ∧ (∀ (s : State) (n : Nat), s.pace.counter = .stopped n → exec .periodEnd s = .next s)
    ∧ (∀ (s : State) (due : Nat), s.power.inReset = false → s.pace.capture = some due →
      exec .capturePulseEnd s = .next { s.atTick due with pace := { s.pace with capture := none } })
    ∧ ∀ s : State, s.pace.capture = none → exec .capturePulseEnd s = .next s

/-- R5, R7, R24, R43, R59, R61 to R67, R75, R76, R86, R114: DEADLINE_EXPIRY. It is ignored unless the slot gathers the
trigger it was armed for. With a composition in flight the slot becomes READY; with the engine IDLE a composition of
the trigger starts: a staged table becomes active with SET_SWITCHED, the inputs are latched, the written marks cleared
and a FREE composite buffer claimed. A LIVE or STALLED port gives its newest eligible frame and frees the older ones,
or is absent and keeps the later ones only; any other port is absent and keeps its frames. Each tile of a loaded table
is painted from its record's usable cameras, or held or filled; with an EMPTY table all 560 tiles are FILLED. The
counts and the cost follow the tiles, and the seam statistics the mid-seam pixels of the blended ones, a luma sum for
each camera of a zone. The clock and the events that cannot be are the model's choices (logs 1, 2), and so is a
composite that is painted whole, with its counts and its picture, at its start (log 6). -/
def Obligations.DeadlineExpiry : Prop :=
  (∀ s : State, s.pace.deadline = none → exec .deadlineExpiry s = .next s)
    ∧ ∀ (s : State) (d : Deadline), s.power.inReset = false → s.pace.deadline = some d →
      let u : State := { s.atTick d.due with pace := { s.pace with deadline := none } }
      ((∀ stale, s.engine.slot ≠ .gathering d.trigger stale) → exec .deadlineExpiry s = .next u)
        ∧ (∀ stale x, s.engine.slot = .gathering d.trigger stale → s.engine.inflight = some x →
          exec .deadlineExpiry s = .next { u with engine := { s.engine with slot := .ready d.trigger stale } })
        ∧ (∀ stale, s.engine.slot = .gathering d.trigger stale → s.engine.inflight = none → s.engine.BuffersOk →
          let staged := ∃ k, s.loader.state = .staged k
          ∃ (t : State) (x : Composition) (b : Fin 3), exec .deadlineExpiry s = .next t
            ∧ t.engine.slot = .empty ∧ t.engine.inflight = some x ∧ x.trigger = d.trigger
            ∧ x.latched.gains = s.balancer.gains ∧ x.latched.hold = s.engine.hold ∧ x.latched.void = s.engine.void
            ∧ x.latched.divider = s.engine.divider ∧ t.balancer = { s.balancer with written := #v[false, false, false, false] }
            ∧ (∀ g : Fin 4, x.latched.occlusion[g] = true ↔ ∃ i : Fin 8,
              let l := s.lines.line[i]
              l.config.out = false ∧ l.config.role = .occlude g ∧ l.debounced = some l.config.active)
            ∧ s.engine.buffers[b].state = .free ∧ (∀ c : Fin 3, c < b → s.engine.buffers[c].state ≠ .free)
            ∧ t.engine.buffers[b].state = .writing ∧ t.engine.buffers[b].record = none
            ∧ (∀ c : Fin 3, c ≠ b → t.engine.buffers[c] = s.engine.buffers[c])
            ∧ t.engine.previous = s.engine.previous ∧ t.engine.firstComposite = s.engine.firstComposite
            ∧ { t with ports := u.ports, engine := u.engine, balancer := u.balancer, loader := u.loader, link := u.link } = u
            ∧ (∀ i : Fin 4, s.ports[i].state ≠ .live → s.ports[i].state ≠ .stalled →
              x.present[i] = false ∧ t.ports[i] = s.ports[i])
            ∧ (∀ i : Fin 4, s.ports[i].state = .live ∨ s.ports[i].state = .stalled →
              let q := s.ports[i]
              let eligible := fun c : Fin 3 => (d.trigger - q.buffers[c].tag).toNat ≤ stale
              let later := fun c : Fin 3 =>
                1 ≤ (q.buffers[c].tag - d.trigger).toNat ∧ (q.buffers[c].tag - d.trigger).toNat ≤ 32767
              (∀ older c newer, q.ready = older ++ c :: newer → c ∉ older → eligible c → (∀ e ∈ newer, ¬ eligible e) →
                x.present[i] = true
                  ∧ t.ports[i] = { q with
                    ready := newer
                    buffers := Vector.ofFn fun e =>
                      if e = c then { q.buffers[e] with state := .inUse }
                      else if e ∈ older then { q.buffers[e] with state := .free } else q.buffers[e] })
                ∧ ((∀ e ∈ q.ready, ¬ eligible e) →
                  x.present[i] = false
                    ∧ t.ports[i] = { q with
                      ready := q.ready.filter fun e => decide (later e)
                      buffers := Vector.ofFn fun e =>
                        if e ∈ q.ready ∧ ¬ later e then { q.buffers[e] with state := .free } else q.buffers[e] }))
            ∧ (¬ staged → x.firstOfSet = false ∧ t.loader = s.loader ∧ t.link = s.link
              ∧ t.engine.tiles = s.engine.tiles ∧ x.latched.set = s.loader.active.set?)
            ∧ (staged → x.firstOfSet = true ∧ x.latched.set = s.loader.standby.set?
              ∧ t.loader = { s.loader with state := .idle, active := s.loader.standby, standby := .empty }
              ∧ (t.link.record .setSwitched).pending = true
              ∧ t.engine.tiles = s.engine.tiles.map fun _ => { source := .filled, age := 255 })
            ∧ x.counts =
              { sampled := x.next.countP fun y => y.source == .sampled
                blended := x.next.countP fun y => y.source == .blended
                held := x.next.countP fun y => y.source == .held
                filled := x.next.countP fun y => y.source == .filled }
            ∧ x.completion = u.now + (x.next.map fun y =>
                match y.source with
                | .sampled => 4096
                | .blended => 7680
                | .held => 1024
                | _ => 512).sum * s.engine.divider / 4
            ∧ (s.loader.active = .empty → ¬ staged → s.engine.tiles.length = 560 →
              x.counts = { sampled := 0, blended := 0, held := 0, filled := 560 }
                ∧ x.completion = u.now + 286720 * s.engine.divider / 4
                ∧ t.engine.stats = #v[.zero, .zero, .zero, .zero])
            ∧ (∀ (k : Fin 8) (rs : List TileRecord) (z : Fin 4), t.loader.active = .holding k rs →
              s.engine.tiles.length = rs.length → (∀ r ∈ rs, r.wellFormed = true) →
              let pair := fun r : TileRecord => [cameraOf r.camA, cameraOf r.camB]
              let blended := ((rs.zip x.next).filter fun y =>
                y.2.source == .blended && (pair y.1).contains z && (pair y.1).contains (z + 1)).map Prod.fst
              let midSeam := fun r : TileRecord => (List.range 1024).filter fun p =>
                8 ≤ blendWeight r (p % 32) (p / 32) && blendWeight r (p % 32) (p / 32) ≤ 56
              let luma := fun (c : Fin 4) (r : TileRecord) (p : Nat) =>
                tileLuma (t.ports[c].frameInUse) (if cameraOf r.camA = c then r.aCorners else r.bCorners) (p % 32) (p / 32)
              let sumOf := fun c : Fin 4 => (blended.map fun r => ((midSeam r).map (luma c r)).sum).sum
              t.engine.stats[z] =
                { sumA := sumOf z, sumB := sumOf (z + 1), count := (blended.map fun r => (midSeam r).length).sum })
            ∧ ∀ (k : Fin 8) (rs : List TileRecord) (n : Nat) (r : TileRecord) (y : TileState),
              t.loader.active = .holding k rs → rs[n]? = some r → t.engine.tiles[n]? = some y →
              let ok := fun (c : Fin 4) (occ : BitVec 4) =>
                x.present[c] = true ∧ ∀ g : Fin 4, x.latched.occlusion[g] = true → occ.getLsbD g.val = false
              let camA := cameraOf r.camA
              let camB := cameraOf r.camB
              let painted := fun (z : TileState) (w : TileImage) =>
                x.next[n]? = some z ∧ t.engine.buffers[b].image[n]? = some w
              let frame := fun c : Fin 4 => t.ports[c].frameInUse
              let gain := fun c : Fin 4 => s.balancer.gains[c]
              let limit := if r.hold = 255 then s.engine.hold else r.hold.toNat
              let holds := s.engine.previous ≠ none ∧ (y.source = .sampled ∨ y.source = .blended ∨ y.source = .held)
                ∧ y.age + 1 ≤ limit
              (r.kind = 3 → painted { source := .body, age := 0 } (flatTile r.fill))
                ∧ (r.kind = 0 → painted { source := .voided, age := 0 } (flatTile r.fill))
                ∧ (r.kind = 1 ∧ ok camA r.occA ∨ r.kind = 2 ∧ ok camA r.occA ∧ ¬ ok camB r.occB →
                  painted { source := .sampled, age := 0 } (sampledTile (frame camA) r.aCorners (gain camA)))
                ∧ (r.kind = 2 → ¬ ok camA r.occA → ok camB r.occB →
                  painted { source := .sampled, age := 0 } (sampledTile (frame camB) r.bCorners (gain camB)))
                ∧ (r.kind = 2 → ok camA r.occA → ok camB r.occB →
                  painted { source := .blended, age := 0 }
                    (blendedTile (frame camA) (frame camB) r (gain camA) (gain camB)))
                ∧ (r.kind = 1 ∧ ¬ ok camA r.occA ∨ r.kind = 2 ∧ ¬ ok camA r.occA ∧ ¬ ok camB r.occB →
                  (∀ (p : Fin 3) w, holds → s.engine.previous = some p → s.engine.buffers[p].image[n]? = some w →
                    painted { source := .held, age := y.age + 1 } w)
                    ∧ (¬ holds → painted { source := .filled, age := min (y.age + 1) 255 } (flatTile s.engine.void))))

/-- R25, R61, R79, R80, R94, R148, R159, R172: COMPOSITION_COMPLETE. The pending runtime state is committed, the WRITING
buffer becomes DONE with its record and the previous composite, a former DONE buffer FREE, the engine IDLE, the IN_USE
frames FREE, the FILLED count handed on, and TILES_FILLED raised with a FILLED tile in the first composite or after a
composite without one, and not otherwise. Then the display port takes a frame request in SINGLE mode
(`State.FrameRequested`), and the composition of a READY trigger starts with the gains of the update
(`State.Composes`). PICTURE_OK holds with no FILLED tile, the supply NORMAL and the pace RUNNING. With no composition in
flight it has no effect. The clock, the events that cannot be, the order at a completion, the painting at the start and
PICTURE_OK after a return of the supply are the model's choices (logs 1, 2, 5, 6, 40). -/
def Obligations.CompositionComplete : Prop :=
  (∀ s : State, s.engine.inflight = none → exec .compositionComplete s = .next s)
    ∧ ∀ (s : State) (x : Composition) (b : Fin 3), s.power.inReset = false → s.engine.inflight = some x →
      s.engine.BuffersOk → s.engine.buffers[b].state = .writing →
      ∃ d e : State, d.now = max s.now x.completion
        ∧ d.engine.inflight = none ∧ d.engine.slot = s.engine.slot ∧ d.engine.tiles = x.next
        ∧ d.engine.previous = some b ∧ d.engine.firstComposite = false ∧ d.engine.BuffersOk
        ∧ d.engine.buffers[b] =
          { s.engine.buffers[b] with
            state := .done
            record := some
              { trigger := x.trigger, set := x.latched.set, gains := x.latched.gains, present := x.present
                occlusion := x.latched.occlusion, counts := x.counts, firstOfSet := x.firstOfSet } }
        ∧ (∀ c : Fin 3, c ≠ b → s.engine.buffers[c].state = .done →
          d.engine.buffers[c].state = .free ∧ d.engine.buffers[c].record = none)
        ∧ (∀ c : Fin 3, c ≠ b → s.engine.buffers[c].state ≠ .done → d.engine.buffers[c] = s.engine.buffers[c])
        ∧ d.ports = (mapAll s.ports fun q => { q with buffers := mapAll q.buffers fun f =>
            if f.state = BufferState.inUse then { f with state := .free } else f })
        ∧ d.lines.filled = some x.counts.filled
        ∧ d.pictureOk = (!s.supply.low && s.pace.runState == .running && x.counts.filled == 0)
        ∧ (let told := (d.link.record .tilesFilled).pending = true
            ∧ (d.link.record .tilesFilled).detail = le16 x.trigger.toNat ++ le16 x.counts.filled
          let untold := d.link.record .tilesFilled = s.link.record .tilesFilled
          (x.counts.filled = 0 → untold)
            ∧ (s.engine.firstComposite = true → 0 < x.counts.filled → told)
            ∧ ∀ (c : Fin 3) (r : CompositeRecord), s.engine.firstComposite = false → s.engine.previous = some c →
              s.engine.buffers[c].record = some r →
              (r.counts.filled = 0 → 0 < x.counts.filled → told) ∧ (r.counts.filled ≠ 0 → untold))
        ∧ (s.balancer.enable = false → d.balancer = s.balancer)
        ∧ (∀ i : Fin 8, d.lines.line[i].config = s.lines.line[i].config)
        ∧ { d with
            now := s.now, link := s.link, ports := s.ports, engine := s.engine, lines := s.lines
            balancer := s.balancer } = s
        ∧ (s.display.mode = .continuous → e = d) ∧ (s.display.mode = .single → d.FrameRequested e)
        ∧ ((∀ m stale, s.engine.slot ≠ .ready m stale) → exec .compositionComplete s = .next e)
        ∧ ∀ m stale, s.engine.slot = .ready m stale →
          ∃ t : State, exec .compositionComplete s = .next t ∧ State.Composes m stale e t

/-- R87 to R92: the balancer's update at a completion with the enable ON. Each VALID zone gives a quotient to each of
its two cameras; a camera's desired gain is the one quotient or the mean of the two; a camera without a written mark
steps k / 16 of the way, truncated toward zero, and stays in 512..2048; the others keep their gains. -/
def Obligations.BalancerUpdate : Prop :=
  ∀ (s : State) (x : Composition), s.power.inReset = false → s.engine.inflight = some x → s.balancer.enable = true →
    (∀ m stale, s.engine.slot ≠ .ready m stale) →
    let mean := fun n c : Nat => 16 * n / c
    let inRange := fun m : Nat => 256 ≤ m ∧ m ≤ 3760
    let ma := fun z : Fin 4 => mean s.engine.stats[z].sumA s.engine.stats[z].count
    let mb := fun z : Fin 4 => mean s.engine.stats[z].sumB s.engine.stats[z].count
    let valid := fun z : Fin 4 => 2048 ≤ s.engine.stats[z].count ∧ inRange (ma z) ∧ inRange (mb z)
    let target := fun z : Fin 4 =>
      (ma z * x.latched.gains[z] / 1024 + mb z * x.latched.gains[z + 1] / 1024) / 2
    let qa := fun c : Fin 4 => 1024 * target c / ma c
    let qb := fun c : Fin 4 => 1024 * target (c - 1) / mb (c - 1)
    let stepped := fun (c : Fin 4) (desired : Nat) =>
      let g : Int := s.balancer.gains[c]
      let d : Int := ((desired : Int) - g) * s.balancer.k
      (max 512 (min 2048 (g + d.tdiv 16))).toNat
    ∃ t : State, exec .compositionComplete s = .next t ∧ ∀ c : Fin 4,
      (s.balancer.written[c] = true ∨ ¬ valid c ∧ ¬ valid (c - 1) → t.balancer.gains[c] = s.balancer.gains[c])
        ∧ (s.balancer.written[c] = false → valid c → ¬ valid (c - 1) → t.balancer.gains[c] = stepped c (qa c))
        ∧ (s.balancer.written[c] = false → ¬ valid c → valid (c - 1) → t.balancer.gains[c] = stepped c (qb c))
        ∧ (s.balancer.written[c] = false → valid c → valid (c - 1) →
          t.balancer.gains[c] = stepped c ((qb c + qa c) / 2))

/-- R69 to R74: the pixel arithmetic keeps its ranges. The mix of four equal corner values is that value, and any mix
lies between the least and the greatest of them; a position beyond the edge is read at the last column or line; the
gain 1024 leaves a luma as it is; a blend lies between its two sides, and the weights 64 and 0 take one side whole. -/
def Obligations.PixelArithmetic : Prop :=
  (∀ (i j lo hi : Nat) (c : Corners Nat), i < 32 → j < 32 →
    (lo ≤ c.topLeft ∧ lo ≤ c.topRight ∧ lo ≤ c.bottomLeft ∧ lo ≤ c.bottomRight) →
    (c.topLeft ≤ hi ∧ c.topRight ≤ hi ∧ c.bottomLeft ≤ hi ∧ c.bottomRight ≤ hi) →
    lo ≤ mix i j c ∧ mix i j c ≤ hi)
    ∧ (∀ (frame : List (List Byte)) (x y : Nat), preGainLuma frame x y ≤ 255)
    ∧ (∀ (frame : List (List Byte)) (x y : Nat), 20464 ≤ x → 15344 ≤ y →
      preGainLuma frame x y = lumaSample frame 1279 959)
    ∧ (∀ y g : Nat, y ≤ 255 → gainedLuma y 1024 = y ∧ gainedLuma y g ≤ 255)
    ∧ ∀ w a b : Nat, w ≤ 64 → min a b ≤ blend w a b ∧ blend w a b ≤ max a b ∧ blend 64 a b = a ∧ blend 0 a b = b

/-! ### Height monitor -/

/-- R102 to R106, R108 to R111: active edges of HGT. An edge is taken only from the other accepted level and with the
filter's four samples after its last acceptance; the edge that closes a period gives a reading. A valid one joins the
window, and with eight there the mean is decided: fresh by the boundaries in use at or below it, in TRACKING with
hysteresis; a band change raises BAND_CHANGE, and in AUTO requests the mapped set, written out for an IDLE loader and
for any other as `State.SetRequested` says. The third invalid reading in a row empties the window and raises
HEIGHT_FAULT with its reason, unless the state is FAULT already. The time of an edge as an operand, the clock and the
edges that cannot be are the model's choices (logs 1, 2, 15), and so are that in TRACKING without a band, which no run
reaches, the mean is decided fresh (log 27), that an emptied window keeps the last mean (log 29), and SET_UNUSABLE
before NO_CALIBRATION (log 21). A reading whose period is 0 is not spoken of here (log 15). -/
def Obligations.HeightEdges : Prop :=
  ∀ (s : State) (micros : Nat), s.power.inReset = false →
    let h := s.height
    let t := max micros (s.now / 27)
    let u : State := s.atTick (t * 27)
    let taken := h.state ≠ .stopped ∧ h.accepted = some (!h.config.polarity) ∧ h.filterSince + 4 ≤ t
    let g : Height :=
      { h with
        accepted := some h.config.polarity, run := some { level := h.config.polarity, length := 4 }, filterSince := t
        silence := some (u.now + 540000), heldEdge := some t }
    (¬ taken → exec (.hgtActiveEdge micros) s = .next s)
      ∧ (taken → h.heldEdge = none → exec (.hgtActiveEdge micros) s = .next { u with height := g })
      ∧ (∀ since, taken → h.heldEdge = some since →
        let period := t - since
        let duty := 1000 * h.activeTime / period
        let window := (if h.window.length = 8 then h.window.drop 1 else h.window) ++ [duty]
        let mean := window.sum / 8
        let inPeriod := 1000 ≤ period ∧ period ≤ 10000
        let valid := inPeriod ∧ 50 ≤ duty ∧ duty ≤ 950
        let reading : Reading :=
          { duty := duty, period := period
            verdict := if valid then .valid else if inPeriod then .dutyRange else .periodRange }
        let up := fun k j : Fin 4 =>
          k < j ∧ j.val < h.config.bands ∧ h.config.boundary j.val + h.config.hysteresis ≤ mean
        let down := fun k j : Fin 4 =>
          j < k ∧ j.val + 1 < h.config.bands ∧ mean + h.config.hysteresis < h.config.boundary (j.val + 1)
        let fresh := fun b : Fin 4 =>
          b.val = (([h.config.b1, h.config.b2, h.config.b3].take (h.config.bands - 1)).countP fun y => decide (y ≤ mean))
        let held := fun k b : Fin 4 =>
          up k b ∧ (∀ j, up k j → j ≤ b)
            ∨ (∀ j, ¬ up k j) ∧ (down k b ∧ (∀ j, down k j → b ≤ j) ∨ (∀ j, ¬ down k j) ∧ b = k)
        (valid → h.window.length < 7 →
          exec (.hgtActiveEdge micros) s
            = .next { u with height := { g with lastReading := some reading, invalid := 0, window := window } })
          ∧ (∀ b : Fin 4, valid → (h.window.length = 7 ∨ h.window.length = 8) →
            ((h.state ≠ .tracking ∨ h.band = none) ∧ fresh b ∨ h.state = .tracking ∧ ∃ k, h.band = some k ∧ held k b) →
            let m := h.config.map[b]
            let v : State :=
              { u with height := { g with
                  lastReading := some reading, invalid := 0, window := window, lastMean := some mean, state := .tracking
                  band := some b } }
            let w := v.raised .bandChange
              ([(h.band.map fun k : Fin 4 => BitVec.ofNat 8 k.val).getD 0xFF, BitVec.ofNat 8 b.val] ++ le16 mean)
            (h.band = some b → exec (.hgtActiveEdge micros) s = .next v)
              ∧ (h.band ≠ some b → h.config.auto = false → exec (.hgtActiveEdge micros) s = .next w)
              ∧ (h.band ≠ some b → h.config.auto = true →
                ∃ z : State, w.SetRequested m z ∧ exec (.hgtActiveEdge micros) s = .next z)
              ∧ (h.band ≠ some b → h.config.auto = true → s.loader.state = .idle → s.loader.standby = .empty →
                (s.loader.activeSet = some m → exec (.hgtActiveEdge micros) s = .next w)
                  ∧ (s.loader.activeSet ≠ some m → s.loader.damaged[m] = false → s.store.sessionOn m = false →
                    (s.store.holder = .nobody → s.store.line = [] →
                      exec (.hgtActiveEdge micros) s
                        = .next { w with
                            store := { s.store with holder := .loader }
                            loader := { s.loader with state := .loading m u.now false, standby := .loading m } })
                    ∧ (s.store.holder ≠ .nobody →
                      exec (.hgtActiveEdge micros) s
                        = .next { w with
                            store := { s.store with line := s.store.line ++ [FlashUser.loader] }
                            loader := { s.loader with state := .waitingStore m } }))))
          ∧ (0 < period → ¬ valid →
            let n : Height := { g with lastReading := some reading, invalid := 0, window := [], state := .fault }
            (h.invalid < 2 →
              exec (.hgtActiveEdge micros) s
                = .next { u with height := { g with lastReading := some reading, invalid := h.invalid + 1 } })
              ∧ (h.invalid = 2 → h.state ≠ .fault →
                exec (.hgtActiveEdge micros) s
                  = .next ({ u with height := n }.raised .heightFault [if inPeriod then 0x02 else 0x01]))
              ∧ (h.invalid = 2 → h.state = .fault → exec (.hgtActiveEdge micros) s = .next { u with height := n })))

/-- R102 to R104: the other edge fixes the active time, the first level accepted after a reset or STOPPED is no edge,
and SILENCE_EXPIRY takes a NO_SIGNAL reading and restarts the timer, with HEIGHT_FAULT at the third invalid reading in
a row. The filter: four samples of a level in a row make it the accepted level, and one to three leave no trace once the
accepted level is read again. The time of a level, the clock and the events that cannot be are the model's choices (logs
1, 2, 15), and so is that an emptied window keeps the last mean (log 29). -/
def Obligations.HeightOtherEvents : Prop :=
  (∀ s : State, s.power.inReset = false →
    let h := s.height
    (∀ micros : Nat,
      let t := max micros (s.now / 27)
      let u : State := s.atTick (t * 27)
      let taken := h.state ≠ .stopped ∧ h.accepted = some h.config.polarity ∧ h.filterSince + 4 ≤ t
      let g : Height :=
        { h with
          accepted := some (!h.config.polarity), run := some { level := !h.config.polarity, length := 4 }
          filterSince := t, silence := some (u.now + 540000) }
      (¬ taken → exec (.hgtInactiveEdge micros) s = .next s)
        ∧ (taken → h.heldEdge = none → exec (.hgtInactiveEdge micros) s = .next { u with height := g })
        ∧ ∀ since, taken → h.heldEdge = some since →
          exec (.hgtInactiveEdge micros) s = .next { u with height := { g with activeTime := t - since } })
      ∧ (∀ first : FirstLevel,
        let t := max first.micros (s.now / 27)
        let u : State := s.atTick (t * 27)
        let taken := h.state ≠ .stopped ∧ h.accepted = none ∧ h.filterSince + 4 ≤ t
        (taken →
          exec (.hgtFirstLevelAccepted first) s
            = .next { u with height := { h with
                accepted := some first.level, run := some { level := first.level, length := 4 }, filterSince := t } })
          ∧ (¬ taken → exec (.hgtFirstLevelAccepted first) s = .next s))
      ∧ (h.silence = none → exec .silenceExpiry s = .next s)
      ∧ ∀ due, h.silence = some due →
        let u : State := s.atTick due
        let g : Height :=
          { h with
            heldEdge := none, silence := some (u.now + 540000)
            lastReading := some { duty := 0, period := 0, verdict := .noSignal } }
        (h.invalid < 2 → exec .silenceExpiry s = .next { u with height := { g with invalid := h.invalid + 1 } })
          ∧ (h.invalid = 2 → h.state = .fault →
            exec .silenceExpiry s = .next { u with height := { g with invalid := 0, window := [], state := .fault } })
          ∧ (h.invalid = 2 → h.state ≠ .fault →
            exec .silenceExpiry s
              = .next ({ u with height := { g with invalid := 0, window := [], state := .fault } }.raised
                  .heightFault [0x03])))
    ∧ ∀ (h : Height) (level : Bool),
      let filtered := fun samples : List Bool => samples.foldl (fun h x => h.sample x) h
      filtered (List.replicate 4 level)
          = { h with accepted := some level, run := some { level := level, length := 4 } }
        ∧ (h.accepted = some level → h.run = some { level := level, length := 4 } → ∀ n, n ≤ 3 →
          (filtered (List.replicate n (!level))).accepted = some level
            ∧ filtered (List.replicate n (!level) ++ List.replicate 4 level) = h)

/-! ### Loader and store -/

/-- R112, R113, R115, R124, R125: LOAD_START gives the flash to a loader at the head of the line; LOAD_MARKS_READ goes
on when the mark rows say COMPLETE and else fails the load with NOT_COMPLETE; LOAD_END stages the 560 records, or
marks the set DAMAGED with cause FORM and the first ill-formed record, or with cause SUM. A failed load raises
NO_CALIBRATION too when no set is active. SCAN_END builds the directory from the mark rows and frees the flash; with
no set COMPLETE it raises NO_CALIBRATION with none, and else the load of the lowest COMPLETE set begins. The clock,
the events that cannot be, and records that appear at the end of a load are the model's choices (logs 1, 2, 7), and so
is SET_UNUSABLE before NO_CALIBRATION (log 21). -/
def Obligations.Loading : Prop :=
  (∀ (s : State) (k : Fin 8), s.power.inReset = false →
     let failed : State :=
       { s with store := { s.store with holder := .nobody }, loader := { s.loader with state := .idle, standby := .empty } }
     let told := fun (detail : List Byte) (t : State) =>
       let v := t.raised .setUnusable (BitVec.ofNat 8 k.val :: detail)
       if s.loader.activeSet = none then v.raised .noCalibration [BitVec.ofNat 8 k.val] else v
     (∀ rest, s.loader.state = .waitingStore k → s.store.holder = .nobody → s.store.line = .loader :: rest →
       exec .loadStart s
         = .next { s with
             store := { s.store with holder := .loader, line := rest }
             loader := { s.loader with state := .loading k s.now false, standby := .loading k } })
       ∧ (s.store.holder ≠ .nobody → exec .loadStart s = .next s)
       ∧ (∀ start, s.loader.state = .loading k start false → s.store.holder = .loader →
         ((entryFromFlash s.store.flash k).state = .complete →
           exec .loadMarksRead s
             = .next { s.atTick (start + 5400) with loader := { s.loader with state := .loading k start true } })
           ∧ ((entryFromFlash s.store.flash k).state ≠ .complete →
             exec .loadMarksRead s = .next (told [0x01, 0x00, 0xFF, 0xFF] (failed.atTick (start + 5400)))))
       ∧ (∀ start, s.loader.state = .loading k start true → s.store.holder = .loader →
         let records := (List.range 560).map fun t =>
           TileRecord.ofBytes ((List.range 40).map fun b =>
             Memory.read 0xFF s.store.flash (24576 * k.val + 1024 + 40 * t + b))
         let sum := byteSum ((List.range 22400).map fun b => Memory.read 0xFF s.store.flash (24576 * k.val + 1024 + b))
         let damaged : State :=
           { failed.atTick (start + 162000) with
             loader := { failed.loader with damaged := s.loader.damaged.set k true } }
         ((∀ r ∈ records, r.wellFormed = true) → (entryFromFlash s.store.flash k).sum = some sum →
           exec .loadEnd s
             = .next { s.atTick (start + 162000) with
                 store := { s.store with holder := .nobody }
                 loader := { s.loader with state := .staged k, standby := .holding k records } })
           ∧ ((∀ r ∈ records, r.wellFormed = true) → (entryFromFlash s.store.flash k).sum ≠ some sum →
             exec .loadEnd s = .next (told [0x02, 0x02, 0xFF, 0xFF] damaged))
           ∧ (∀ t : Nat, (∃ r, records[t]? = some r ∧ r.wellFormed = false) →
             (∀ j r, j < t → records[j]? = some r → r.wellFormed = true) →
             exec .loadEnd s = .next (told ([0x02, 0x01] ++ le16 t) damaged))))
    ∧ (∀ s : State, (∀ due, s.store.holder ≠ .scan due) → exec .scanEnd s = .next s)
    ∧ ∀ (s : State) (due : Nat), s.power.inReset = false → s.store.holder = .scan due →
      let u : State :=
        { s.atTick due with store := { s.store with
            holder := .nobody, directory := Vector.ofFn fun k => entryFromFlash s.store.flash k } }
      ((∀ k, (entryFromFlash s.store.flash k).state ≠ .complete) →
        exec .scanEnd s = .next (u.raised .noCalibration [0xFF]))
        ∧ ∀ k, (entryFromFlash s.store.flash k).state = .complete →
          (∀ j, j < k → (entryFromFlash s.store.flash j).state ≠ .complete) →
          s.loader.state = .idle → s.loader.active = .empty → s.loader.damaged[k] = false → s.store.session = none →
          s.store.line = [] →
          exec .scanEnd s
            = .next { u with
                store := { u.store with holder := .loader }
                loader := { s.loader with state := .loading k u.now false, standby := .loading k } }

/-- R123 to R126, R129, R131, R132, R135, R136: STORE_STEP_START and the ends of the store's steps: what they leave in
flash, in the directory and in the session, and what the store does next, shown with no user in line and no RESET
waiting; and STORE_ABORTED with set, cause, set state and next index at the end of the step that an abort left running
(R133). The clock, the events that cannot be, and flash that changes at a step's end are the model's choices (logs 1,
2, 7). -/
def Obligations.StoreStepEnds : Prop :=
  (∀ (s : State) (k : StepKind) (rest : List FlashUser), s.power.inReset = false →
    s.store.step = some { kind := k, phase := .pending } → s.store.holder = .nobody → s.store.line = .store :: rest →
    exec .storeStepStart s
      = .next { s with store := { s.store with
          line := rest, holder := .store
          step := some { kind := k, phase := .running (s.now + match k with | .erase _ => 648000 | _ => 40500) } } })
    ∧ (∀ s : State, s.store.holder ≠ .nobody → exec .storeStepStart s = .next s)
    ∧ (∀ s : State, s.store.step = none → ∀ c ∈ [Instr.sectorEraseEnd, .openMarkEnd, .rowProgramEnd, .completeMarkEnd,
      .lockMarkEnd, .retireMarkEnd], exec c s = .next s)
    ∧ (∀ (s : State) (due : Nat), s.power.inReset = false → s.store.trailing = none → s.store.line = [] →
      s.link.resetWait = .clear →
      let u : State := s.atTick due
      let blank : SetEntry :=
        { openMark := .blank, completeMark := .blank, lockMark := .blank, retireMark := .blank, sum := none }
      (∀ (q : Fin 48) (k : Fin 8) (x : Session), s.store.step = some { kind := .erase q, phase := .running due } →
        s.store.session = some x → x.phase = .erasing → q.val / 6 = k.val →
        let directory := if q.val % 6 = 0 then update s.store.directory k fun _ => blank else s.store.directory
        (x.eraseSector < 5 → ∀ r : Fin 48, r.val = 6 * x.set.val + x.eraseSector + 1 →
          exec .sectorEraseEnd s
            = .next { u with store := { s.store with
                flash := Memory.clear s.store.flash (4096 * q.val) 4096, directory := directory, holder := .store
                session := some { x with eraseSector := x.eraseSector + 1 }
                step := some { kind := .erase r, phase := .running (u.now + 648000) } } })
        ∧ (x.eraseSector = 5 →
          exec .sectorEraseEnd s
            = .next { u with store := { s.store with
                flash := Memory.clear s.store.flash (4096 * q.val) 4096, directory := directory, holder := .store
                step := some { kind := .openMark x.set, phase := .running (u.now + 40500) } } }))
      ∧ (∀ (k : Fin 8) (x : Session), s.store.step = some { kind := .openMark k, phase := .running due } →
        s.store.session = some x →
        exec .openMarkEnd s
          = .next ({ u with store := { s.store with
              flash := Memory.writeAll 0xFF s.store.flash (24576 * k.val) plainMarkRow, step := none, holder := .nobody
              directory := update s.store.directory k fun e => { e with openMark := .set }
              session := some { x with phase := .receiving } } }.raised .storeDone [BitVec.ofNat 8 k.val, 0x01]))
      ∧ (∀ (k : Fin 8) (row : Nat) (x : Session), s.store.step = some { kind := .recordRow k row, phase := .running due } →
        s.store.session = some x → x.phase = .receiving → 256 ≤ s.store.staging.length → s.store.staging.length < 512 →
        exec .rowProgramEnd s
          = .next { u with store := { s.store with
              flash := Memory.writeAll 0xFF s.store.flash (24576 * k.val + 256 * row) (s.store.staging.take 256)
              step := none, holder := .nobody, staging := s.store.staging.drop 256
              session := some { x with nextRow := x.nextRow + 1 } } })
      ∧ (∀ (k : Fin 8) (row : Nat) (x : Session), s.store.step = some { kind := .recordRow k row, phase := .running due } →
        s.store.session = some x → x.phase = .closing → s.store.staging.length = 128 →
        exec .rowProgramEnd s
          = .next { u with store := { s.store with
              flash := Memory.writeAll 0xFF s.store.flash (24576 * k.val + 256 * row)
                (s.store.staging ++ List.replicate 128 0xFF)
              holder := .store, staging := [], session := some { x with nextRow := x.nextRow + 1 }
              step := some { kind := .completeMark x.set x.sum, phase := .running (u.now + 40500) } } })
      ∧ (∀ (k : Fin 8) (sum : Word), s.store.step = some { kind := .completeMark k sum, phase := .running due } →
        exec .completeMarkEnd s
          = .next ({ u with store := { s.store with
              flash := Memory.writeAll 0xFF s.store.flash (24576 * k.val + 256) (completeMarkRow sum), step := none
              holder := .nobody, session := none
              directory := update s.store.directory k fun e =>
                { e with completeMark := .set, sum := some sum } } }.raised .storeDone [BitVec.ofNat 8 k.val, 0x02]))
      ∧ (∀ k : Fin 8, s.store.step = some { kind := .lockMark k, phase := .running due } →
        exec .lockMarkEnd s
          = .next ({ u with store := { s.store with
              flash := Memory.writeAll 0xFF s.store.flash (24576 * k.val + 512) plainMarkRow, step := none
              holder := .nobody, directory := update s.store.directory k fun e => { e with lockMark := .set } } }.raised
              .storeDone [BitVec.ofNat 8 k.val, 0x03]))
      ∧ (∀ k : Fin 8, s.store.step = some { kind := .retireMark k, phase := .running due } →
        exec .retireMarkEnd s
          = .next ({ u with store := { s.store with
              flash := Memory.writeAll 0xFF s.store.flash (24576 * k.val + 768) plainMarkRow, step := none
              holder := .nobody, directory := update s.store.directory k fun e => { e with retireMark := .set } } }.raised
              .storeDone [BitVec.ofNat 8 k.val, 0x04])))
    ∧ ∀ (s : State) (due : Nat) (x : Abort), s.power.inReset = false → s.store.trailing = some x →
      s.store.session = none →
      let u : State := s.atTick due
      let blank : SetEntry :=
        { openMark := .blank, completeMark := .blank, lockMark := .blank, retireMark := .blank, sum := none }
      let aborted := fun (flash : Memory) (directory : Vector SetEntry 8) (staging : List Byte) =>
        let v : State := { u with store := { s.store with
          flash := flash, directory := directory, step := none, holder := .nobody, trailing := none, staging := staging } }
        v.raised .storeAborted
          ([BitVec.ofNat 8 x.set.val, if x.cause = .request then 0x01 else 0x02, (v.store.setState x.set).code]
            ++ le16 x.nextIndex)
      (∀ (q : Fin 48) (k : Fin 8), s.store.step = some { kind := .erase q, phase := .running due } → q.val / 6 = k.val →
        exec .sectorEraseEnd s
          = .next (aborted (Memory.clear s.store.flash (4096 * q.val) 4096)
              (if q.val % 6 = 0 then update s.store.directory k fun _ => blank else s.store.directory) s.store.staging))
      ∧ (∀ k : Fin 8, s.store.step = some { kind := .openMark k, phase := .running due } →
        exec .openMarkEnd s
          = .next (aborted (Memory.writeAll 0xFF s.store.flash (24576 * k.val) plainMarkRow)
              (update s.store.directory k fun e => { e with openMark := .set }) s.store.staging))
      ∧ (∀ (k : Fin 8) (row : Nat), s.store.step = some { kind := .recordRow k row, phase := .running due } →
        s.store.staging.length ≤ 256 →
        exec .rowProgramEnd s
          = .next (aborted (Memory.writeAll 0xFF s.store.flash (24576 * k.val + 256 * row)
              (s.store.staging ++ List.replicate (256 - s.store.staging.length) 0xFF)) s.store.directory []))
      ∧ (∀ (k : Fin 8) (sum : Word), s.store.step = some { kind := .completeMark k sum, phase := .running due } →
        exec .completeMarkEnd s
          = .next (aborted (Memory.writeAll 0xFF s.store.flash (24576 * k.val + 256) (completeMarkRow sum))
              (update s.store.directory k fun e => { e with completeMark := .set, sum := some sum }) s.store.staging))

/-- R133, R134: a CAL_WE sample becomes the debounced level when it repeats the sample before it; a change to deasserted
aborts an open session with cause CAL_WE, with no step in hand, with one pending, which is withdrawn, or with one
running, which becomes the trailing step. CAL_WE_CHANGE is the sample that makes the change, and has no effect where
the sample before it was another (log 4). -/
def Obligations.CalWe : Prop :=
  ∀ (s : State) (level : Bool), s.power.inReset = false →
    let repeated := s.store.calSampled = some level ∧ level ≠ s.store.calDebounced
    let changed : State := { s with store := { s.store with calSampled := some level, calDebounced := level } }
    (¬ repeated →
      exec (.calWeSample level) s = .next { s with store := { s.store with calSampled := some level } }
        ∧ exec (.calWeChange level) s = .next s)
      ∧ (repeated → level = true ∨ s.store.session = none →
        exec (.calWeSample level) s = .next changed ∧ exec (.calWeChange level) s = .next changed)
      ∧ (∀ x, repeated → level = false → s.store.session = some x → s.store.step = none →
        ∀ c : Instr, c = .calWeSample false ∨ c = .calWeChange false →
        exec c s
          = .next ({ s with store := { s.store with
              calSampled := some false, calDebounced := false, session := none, staging := [] } }.raised .storeAborted
              ([BitVec.ofNat 8 x.set.val, 0x02, (s.store.setState x.set).code] ++ le16 x.nextIndex)))
      ∧ ∀ x kind, repeated → level = false → s.store.session = some x →
        ∀ c : Instr, c = .calWeSample false ∨ c = .calWeChange false →
        let closed : Store :=
          { s.store with calSampled := some false, calDebounced := false, session := none, staging := [] }
        (s.store.step = some { kind := kind, phase := .pending } →
          exec c s
            = .next ({ s with store := { closed with
                step := none, line := s.store.line.filter (· != FlashUser.store) } }.raised .storeAborted
                ([BitVec.ofNat 8 x.set.val, 0x02, (s.store.setState x.set).code] ++ le16 x.nextIndex)))
          ∧ ∀ due, s.store.step = some { kind := kind, phase := .running due } →
            ∃ staging : List Byte,
              ((∃ k row, kind = .recordRow k row) → staging = s.store.staging.take 256)
                ∧ ((∀ k row, kind ≠ .recordRow k row) → staging = [])
                ∧ exec c s
                  = .next { s with store := { closed with
                      staging := staging
                      trailing := some { set := x.set, cause := .calWe, nextIndex := x.nextIndex } } }

/-! ### Vehicle lines, supply, display -/

/-- R144, R146, R149 to R151: the events of the lines. The first sample of an input sets its debounced level, and while
PARKED the snapshot of a wake-enabled line without one; the second in a row of the other level is accepted, with
LINE_CHANGE where the line reports, shown for one that does not wake; both for a change that does not assert REVERSE.
A first sample that asserts REVERSE raises REVERSE_ON with DISABLED, PARKED or APPLIED, and acts as auto-start says.
The second sample in a row that differs from an output's pad sets its flag, and an agreeing one clears count and flag.
The events that cannot be without effect are the model's choice (logs 2, 4). -/
def Obligations.LineEvents : Prop :=
  ∀ (s : State) (i : Fin 8), s.power.inReset = false →
    let l := s.lines.line[i]
    let line : Byte := BitVec.ofNat 8 i.val
    let told := fun (what : Byte) (t : State) => if l.config.report then t.raised .lineChange [line, what] else t
    let put := fun (m : Line) => ({ s with lines := { s.lines with line := update s.lines.line i fun _ => m } } : State)
    (∀ level, l.config.out = false → l.config.role ≠ .reverse ∨ level ≠ l.config.active ∨ s.reverse = true →
      (l.debounced = none →
        exec (.lineFirstSample i level) s
          = .next (put { l with
              prev := some level, raw := level, debounced := some level
              snapshot := if s.power.state = .parked ∧ l.config.wake = true ∧ l.snapshot = none then some level
                else l.snapshot }))
        ∧ (l.debounced = some (!level) → l.prev = some level →
          s.power.state ≠ .parked ∨ l.snapshot ≠ some (!level) →
          exec (.lineAcceptedChange i level) s
            = .next (told (bit level) (put { l with prev := some level, raw := level, debounced := some level }))))
      ∧ (l.config.out = false → l.config.role = .reverse → l.debounced = none → s.reverse = false →
        ∃ t : State, exec (.lineFirstSample i l.config.active) s = .next t
          ∧ t.lines.line[i].debounced = some l.config.active ∧ (t.link.record .reverseOn).pending = true
          ∧ t.balancer.gains = s.balancer.gains ∧ t.store = s.store ∧ t.supply = s.supply ∧ t.height = s.height
          ∧ (s.lines.autoStart = false ∨ s.power.state = .parked →
            (t.link.record .reverseOn).detail = [line, if s.lines.autoStart then 0x03 else 0x02]
              ∧ t.power = s.power ∧ t.pace = s.pace ∧ t.ports = s.ports ∧ t.engine = s.engine)
          ∧ (s.lines.autoStart = true → s.power.state ≠ .parked →
            (t.link.record .reverseOn).detail = [line, 0x01] ∧ t.power = { s.power with state := .run }
              ∧ t.pace.runState = .running ∧ t.pace.configured.mode = .continuous ∧ t.pace.inForce.mode = .continuous
              ∧ ∀ j : Fin 4, t.ports[j].state = if s.ports[j].state = .off then .powering else s.ports[j].state))
      ∧ (∀ level, l.debounced ≠ none → exec (.lineFirstSample i level) s = .next s)
      ∧ (∀ level, l.prev ≠ some level → exec (.lineAcceptedChange i level) s = .next s)
      ∧ (l.config.out = true → l.mismatch = 1 → l.flag = false →
        exec (.outputMismatch i) s
          = .next (told 0x02 (put { l with raw := !s.intended i, mismatch := 2, flag := true })))
      ∧ (l.mismatch = 0 → exec (.outputMismatch i) s = .next s)
      ∧ (l.config.out = true → l.flag = true →
        exec (.mismatchCleared i) s
          = .next (told 0x03 (put { l with raw := s.intended i, mismatch := 0, flag := false })))
      ∧ (l.config.out = false → exec (.mismatchCleared i) s = .next s)

/-- R150, R151, R164: an accepted change of a line. In PARKED, a level that differs from the line's snapshot wakes the
part into DOZE with WOKEN (cause LINE). A change that asserts REVERSE raises REVERSE_ON with DISABLED where auto-start
is off; where it is on, the part comes to RUN, every OFF port is powered and the pace runs CONTINUOUS. In PARKED such
a change of a line that wakes brings the part to RUN with auto-start on (WOKEN, then REVERSE_ON with APPLIED) and to
DOZE with it off; one that does not wake leaves the part PARKED, and REVERSE_ON says PARKED or DISABLED. Which line
REVERSE_ON names is the model's choice where several assert it (log 20), and so is the order of ports and pace (log
5). -/
def Obligations.LineWakesAndReverse : Prop :=
  ∀ (s : State) (i : Fin 8) (level : Bool), s.power.inReset = false →
    let l := s.lines.line[i]
    let line : Byte := BitVec.ofNat 8 i.val
    l.config.out = false → l.debounced = some (!level) → l.prev = some level →
    (s.power.state = .parked → l.snapshot = some (!level) →
      l.config.role ≠ .reverse ∨ level ≠ l.config.active ∨ s.reverse = true →
      ∃ t : State, exec (.lineAcceptedChange i level) s = .next t ∧ t.power = { s.power with state := .doze }
        ∧ t.height =
          { s.height with
            state := .filling, accepted := none, run := none, filterSince := s.now / 27
            silence := some (s.now + 540000) }
        ∧ (t.link.record .woken).pending = true ∧ (t.link.record .woken).detail = [0x01, line, 0x01]
        ∧ t.lines.line[i].debounced = some level ∧ (∀ j : Fin 8, t.lines.line[j].snapshot = none)
        ∧ t.ports = s.ports ∧ t.pace = s.pace ∧ t.store = s.store ∧ t.loader = s.loader ∧ t.engine = s.engine
        ∧ t.balancer = s.balancer ∧ t.display = s.display ∧ t.supply = s.supply)
      ∧ (s.power.state ≠ .parked → l.config.role = .reverse → level = l.config.active → s.reverse = false →
        (s.lines.autoStart = false →
          ∃ t : State, exec (.lineAcceptedChange i level) s = .next t ∧ t.power = s.power ∧ t.pace = s.pace
            ∧ t.ports = s.ports ∧ t.engine = s.engine ∧ t.lines.line[i].debounced = some level
            ∧ (t.link.record .reverseOn).pending = true ∧ (t.link.record .reverseOn).detail = [line, 0x02])
          ∧ (s.lines.autoStart = true →
            ∃ t : State, exec (.lineAcceptedChange i level) s = .next t ∧ t.power = { s.power with state := .run }
              ∧ t.pace.runState = .running ∧ t.pace.configured.mode = .continuous ∧ t.pace.inForce.mode = .continuous
              ∧ (t.link.record .reverseOn).pending = true ∧ (t.link.record .reverseOn).detail = [line, 0x01]
              ∧ t.balancer.gains = s.balancer.gains ∧ t.store = s.store ∧ t.supply = s.supply ∧ t.height = s.height
              ∧ ∀ j : Fin 4, t.ports[j].state = if s.ports[j].state = .off then .powering else s.ports[j].state))
      ∧ (s.power.state = .parked → l.config.role = .reverse → level = l.config.active → s.reverse = false →
        ∃ t : State, exec (.lineAcceptedChange i level) s = .next t ∧ t.lines.line[i].debounced = some level
          ∧ (t.link.record .reverseOn).pending = true ∧ t.balancer.gains = s.balancer.gains ∧ t.store = s.store
          ∧ t.supply = s.supply
          ∧ (l.snapshot ≠ some (!level) →
            (t.link.record .reverseOn).detail = [line, if s.lines.autoStart then 0x03 else 0x02]
              ∧ t.power = s.power ∧ t.pace = s.pace ∧ t.ports = s.ports ∧ t.engine = s.engine ∧ t.height = s.height
              ∧ t.link.record .woken = s.link.record .woken)
          ∧ (l.snapshot = some (!level) →
            (t.link.record .woken).pending = true ∧ (∀ j : Fin 8, t.lines.line[j].snapshot = none)
              ∧ t.height =
                { s.height with
                  state := .filling, accepted := none, run := none, filterSince := s.now / 27
                  silence := some (s.now + 540000) }
              ∧ (s.lines.autoStart = false →
                (t.link.record .woken).detail = [0x01, line, 0x01] ∧ (t.link.record .reverseOn).detail = [line, 0x02]
                  ∧ t.power = { s.power with state := .doze } ∧ t.pace = s.pace ∧ t.ports = s.ports
                  ∧ t.engine = s.engine)
              ∧ (s.lines.autoStart = true →
                (t.link.record .woken).detail = [0x01, line, 0x00] ∧ (t.link.record .reverseOn).detail = [line, 0x01]
                  ∧ t.power = { s.power with state := .run } ∧ t.pace.runState = .running
                  ∧ t.pace.configured.mode = .continuous ∧ t.pace.inForce.mode = .continuous
                  ∧ ∀ j : Fin 4, t.ports[j].state = if s.ports[j].state = .off then .powering else s.ports[j].state)))

/-- R144, R146: a sample of all eight lines. Every line keeps its configuration and shows the level read; an input
without a debounced level takes it, one that read the level twice in a row takes it, and the others keep their
debounced level. -/
def Obligations.VehicleLineSample : Prop :=
  ∀ (s : State) (levels : BitVec 8), s.power.inReset = false →
    ∃ t : State, exec (.vehicleLineSample levels) s = .next t
      ∧ t.store = s.store ∧ t.supply = s.supply ∧ t.balancer.gains = s.balancer.gains ∧ t.lines.autoStart = s.lines.autoStart
      ∧ ∀ i : Fin 8,
      let l := s.lines.line[i]
      let m := t.lines.line[i]
      let level := levels.getLsbD i.val
      m.config = l.config ∧ m.raw = level
        ∧ (l.config.out = false → m.prev = some level
          ∧ m.debounced = if l.debounced = none ∨ l.prev = some level then some level else l.debounced)
        ∧ (l.config.out = true → m.debounced = l.debounced ∧ m.prev = l.prev)

/-- R156 to R159, R174: VSENSE readings. The second in a row below the threshold makes the supply LOW: composition
abandoned, slot EMPTY, frames FROZEN, FILLING and READY buffers FREE, SUPPLY_LOW raised; the twentieth in a row at 0.8
V above the threshold or more makes it NORMAL: SUPPLY_RESTORED raised, the running cameras settling again, and
PICTURE_OK waiting for a completion. PICTURE_OK does not hold after either change (log 40).
SUPPLY_LOW and SUPPLY_RESTORED as commands are those readings, and have no effect in the other supply state (log 4).
The hold's length is counted in readings (log 16). -/
def Obligations.SupplyEvents : Prop :=
  ∀ (s : State) (r : Nat), s.power.inReset = false → r ≤ 500 →
    let v := s.supply
    let read : Supply := { v with last := some r, readings := v.readings + 1 }
    (v.low = false → 2 * v.threshold ≤ r →
      exec (.vsenseReading r) s = .next { s with supply := { read with lowCount := 0 } })
      ∧ (v.low = false → r < 2 * v.threshold → v.lowCount = 0 →
        exec (.vsenseReading r) s = .next { s with supply := { read with lowCount := 1 } })
      ∧ (v.low = true → r < 2 * v.threshold + 16 →
        exec (.vsenseReading r) s = .next { s with supply := { read with restoreCount := 0 } })
      ∧ (v.low = true → 2 * v.threshold + 16 ≤ r → v.restoreCount < 19 →
        exec (.vsenseReading r) s = .next { s with supply := { read with restoreCount := v.restoreCount + 1 } })
      ∧ (v.low = true → exec (.supplyLow r) s = .next s)
      ∧ (v.low = false → exec (.supplyRestored r) s = .next s)
      ∧ (v.low = false → r < 2 * v.threshold → v.lowCount = 1 →
        ∀ c : Instr, c = .vsenseReading r ∨ c = .supplyLow r →
        ∃ t : State, exec c s = .next t
          ∧ t.supply = { read with low := true, lowCount := 0, restoreCount := 0, holdStart := some (v.readings + 1) }
          ∧ t.engine.slot = .empty ∧ t.engine.inflight = none ∧ t.engine.tiles = s.engine.tiles
          ∧ t.engine.previous = s.engine.previous ∧ t.display = { s.display with frozen := true }
          ∧ t.pace = s.pace ∧ t.power = s.power ∧ t.store = s.store ∧ t.loader = s.loader ∧ t.height = s.height
          ∧ t.balancer = s.balancer ∧ t.now = s.now ∧ t.pictureOk = false
          ∧ t.lines.filled = s.lines.filled
          ∧ (t.link.record .supplyLow).pending = true
          ∧ (t.link.record .supplyLow).detail = le16 r ++ [BitVec.ofNat 8 v.threshold]
          ∧ ∀ i : Fin 4, t.ports[i].state = s.ports[i].state ∧ t.ports[i].power = s.ports[i].power
            ∧ t.ports[i].faultCount = 0 ∧ t.ports[i].ready = []
            ∧ (t.ports[i].state.watches = true → t.ports[i].timer = .held)
            ∧ ∀ b : Fin 3, t.ports[i].buffers[b].state ≠ .filling ∧ t.ports[i].buffers[b].state ≠ .ready)
      ∧ (v.low = true → 2 * v.threshold + 16 ≤ r → v.restoreCount = 19 →
        ∀ c : Instr, c = .vsenseReading r ∨ c = .supplyRestored r →
        ∃ t : State, exec c s = .next t ∧ t.supply = { read with low := false, lowCount := 0, restoreCount := 0 }
          ∧ (t.link.record .supplyRestored).pending = true
          ∧ (t.link.record .supplyRestored).detail
            = le16 (min 65535 (v.readings + 1 - v.holdStart.getD (v.readings + 1)))
          ∧ t.power = s.power ∧ t.store = s.store ∧ t.height = s.height ∧ t.display = s.display ∧ t.now = s.now
          ∧ t.balancer.gains = s.balancer.gains ∧ t.pictureOk = false ∧ t.lines.filled = s.lines.filled
          ∧ ∀ i : Fin 4,
            (s.ports[i].state = .powering ∨ s.ports[i].state.watches = true →
              t.ports[i].state = .powering ∧ t.ports[i].timer = .running (s.now + s.ports[i].settle * 27000))
            ∧ (s.ports[i].state ≠ .powering → s.ports[i].state.watches = false → t.ports[i] = s.ports[i]))

/-- R171 to R177: TRANSFER_END. Without a held request the transfer is idle; a held one starts the next frame: the
counter advances, a DONE composite is taken unless the supply is LOW, the shown one is repeated otherwise with the
repeat count advanced up to 255, and the status line is 1280 bytes that begin with the counter. The clock, the events
that cannot be, and a frame fixed whole at its start are the model's choices (logs 1, 2, 32). -/
def Obligations.TransferEnd : Prop :=
  (∀ s : State, s.display.transfer = none → exec .transferEnd s = .next s)
    ∧ ∀ (s : State) (x : Transfer), s.power.inReset = false → s.display.transfer = some x →
      (s.display.held = false →
        exec .transferEnd s = .next { s.atTick x.due with display := { s.display with transfer := none } })
      ∧ (s.display.held = true →
        ∃ (t : State) (y : Transfer), exec .transferEnd s = .next t ∧ t.now = max s.now x.due
          ∧ t.display.transfer = some y ∧ y.due = t.now + 574080 ∧ t.display.held = false
          ∧ t.display.counter = s.display.counter + 1 ∧ y.statusLine.length = 1280
          ∧ y.statusLine.take 4 = le32 (s.display.counter + 1).toNat
          ∧ t.link = s.link ∧ t.ports = s.ports ∧ t.store = s.store ∧ t.engine.inflight = s.engine.inflight
          ∧ (∀ b : Fin 3, s.supply.low = false → s.engine.BuffersOk → s.engine.buffers[b].state = .done →
            y.content = .composite b ∧ t.engine.buffers[b] = { s.engine.buffers[b] with state := .shown }
              ∧ (∀ c : Fin 3, s.engine.buffers[c].state = .shown → t.engine.buffers[c].state = .free)
              ∧ t.display.repeats = 0 ∧ t.display.frozen = false)
          ∧ ((s.supply.low = true ∨ ∀ b : Fin 3, s.engine.buffers[b].state ≠ .done) →
            t.engine = s.engine ∧ t.display.repeats = min 255 (s.display.repeats + 1)
              ∧ t.display.frozen = s.display.frozen
              ∧ ∀ b : Fin 3, s.engine.BuffersOk → s.engine.buffers[b].state = .shown → y.content = .composite b)
          ∧ ((∀ b : Fin 3, s.engine.buffers[b].state = .free ∨ s.engine.buffers[b].state = .writing) →
            y.content = .void s.engine.void))
end

