-- ==== Sys2Proof/Laws/Memory.lean ====
section
/-! SUPPORT. Addressed memory: every operation keeps the canonical form, a read after a write gives the value written,
and a write leaves every other address alone. -/

namespace Sys2Proof.Machine

/-- The canonical form of a non-empty memory, taken apart. -/
theorem Memory.wf_cons (d : Byte) (c : Host.Cell) (m : Memory) :
    Memory.wf d (c :: m) ↔ (∀ e ∈ m, c.1 < e.1) ∧ c.2 ≠ d ∧ Memory.wf d m := by
  simp only [Memory.wf, List.pairwise_cons, List.mem_cons, forall_eq_or_imp]
  exact ⟨fun ⟨⟨a, b⟩, c, e⟩ => ⟨a, c, b, e⟩, fun ⟨a, c, b, e⟩ => ⟨⟨a, b⟩, c, e⟩⟩

/-- Every entry after a write is the entry written or an entry from before. -/
theorem Memory.mem_write (d : Byte) (m : Memory) (x : Nat) (b : Byte) (e : Host.Cell) (h : e ∈ Memory.write d m x b) :
    e = (x, b) ∨ e ∈ m := by
  induction m with
  | nil =>
    simp only [Memory.write] at h
    split at h <;> simp_all
  | cons c m ih =>
    obtain ⟨a, v⟩ := c
    simp only [Memory.write] at h
    split at h
    · split at h <;> simp_all
    · split at h
      · split at h
        · exact .inr (List.mem_cons_of_mem _ h)
        · rcases List.mem_cons.mp h with h | h
          · exact .inl (by simp_all)
          · exact .inr (List.mem_cons_of_mem _ h)
      · rcases List.mem_cons.mp h with h | h
        · simp [h]
        · rcases ih h with h | h <;> simp [h]

/-- A write keeps the canonical form. -/
theorem Memory.write_wf (d : Byte) (m : Memory) (x : Nat) (b : Byte) (h : Memory.wf d m) :
    Memory.wf d (Memory.write d m x b) := by
  induction m with
  | nil =>
    simp only [Memory.write]
    split <;> simp_all [Memory.wf]
  | cons c m ih =>
    obtain ⟨a, v⟩ := c
    obtain ⟨hlt, hv, hm⟩ := (Memory.wf_cons d _ _).mp h
    simp only [Memory.write]
    split
    · split
      · exact h
      · refine (Memory.wf_cons d _ _).mpr ⟨?_, by assumption, h⟩
        intro e he
        rcases List.mem_cons.mp he with rfl | he
        · assumption
        · exact Nat.lt_trans (by assumption) (hlt e he)
    · split
      · split
        · exact hm
        · exact (Memory.wf_cons d _ _).mpr ⟨hlt, by assumption, hm⟩
      · refine (Memory.wf_cons d _ _).mpr ⟨?_, hv, ih hm⟩
        intro e he
        rcases Memory.mem_write d m x b e he with rfl | he
        · simp only; omega
        · exact hlt e he

/-- A write of several bytes keeps the canonical form. -/
theorem Memory.writeAll_wf (d : Byte) (bytes : List Byte) (m : Memory) (base : Nat) (h : Memory.wf d m) :
    Memory.wf d (Memory.writeAll d m base bytes) := by
  induction bytes generalizing m base with
  | nil => exact h
  | cons b bs ih => exact ih _ _ (Memory.write_wf d m base b h)

/-- A clear keeps the canonical form. -/
theorem Memory.clear_wf (d : Byte) (m : Memory) (base size : Nat) (h : Memory.wf d m) :
    Memory.wf d (Memory.clear m base size) :=
  ⟨h.1.filter _, fun c hc => h.2 c (List.mem_filter.mp hc).1⟩

/-- A write leaves every other address as it reads, in any memory. -/
theorem Memory.read_write_other (d : Byte) (m : Memory) (x : Nat) (b : Byte) (y : Nat) (h : y ≠ x) :
    Memory.read d (Memory.write d m x b) y = Memory.read d m y := by
  induction m with
  | nil =>
    simp only [Memory.write]
    split
    · rfl
    · simp [Memory.read, h]
  | cons c m ih =>
    simp only [Memory.write]
    split
    · split
      · rfl
      · simp [Memory.read, h]
    · split
      · next hx =>
        have hy : y ≠ c.1 := fun e => h (e.trans hx.symm)
        split <;> simp [Memory.read, hy]
      · simp only [Memory.read, ih]

/-- Bytes written leave every address outside them as it reads, in any memory. -/
theorem Memory.read_writeAll_other (d : Byte) (bytes : List Byte) (m : Memory) (base y : Nat)
    (h : y < base ∨ base + bytes.length ≤ y) :
    Memory.read d (Memory.writeAll d m base bytes) y = Memory.read d m y := by
  induction bytes generalizing m base with
  | nil => rfl
  | cons b bs ih =>
    rw [List.length_cons] at h
    rw [Memory.writeAll, ih _ _ (by omega), Memory.read_write_other d m base b y (by omega)]

/-- An address below every listed one reads as an unlisted address. -/
theorem Memory.read_below (d : Byte) (m : Memory) (x : Nat) (h : ∀ e ∈ m, x < e.1) : Memory.read d m x = d := by
  induction m with
  | nil => rfl
  | cons c m ih =>
    have hc := h c (by simp)
    simp only [Memory.read]
    rw [if_neg (by omega), ih fun e he => h e (by simp [he])]

/-- A read after a write: the byte written at its own address, the former byte at every other. -/
theorem Memory.read_write (d : Byte) (m : Memory) (x : Nat) (b : Byte) (y : Nat) (h : Memory.wf d m) :
    Memory.read d (Memory.write d m x b) y = if y = x then b else Memory.read d m y := by
  induction m with
  | nil =>
    simp only [Memory.write]
    split <;> simp_all [Memory.read]
  | cons c m ih =>
    obtain ⟨a, v⟩ := c
    obtain ⟨hlt, hv, hm⟩ := (Memory.wf_cons d _ _).mp h
    have below : x < a → Memory.read d ((a, v) :: m) x = d := fun hx =>
      Memory.read_below d _ _ fun e he => by
        rcases List.mem_cons.mp he with rfl | he
        · exact hx
        · exact Nat.lt_trans hx (hlt e he)
    simp only [Memory.write]
    split
    · split
      · rename_i hx hb
        by_cases hy : y = x
        · simp [hy, hb, below hx]
        · simp [hy]
      · by_cases hy : y = x <;> simp [Memory.read, hy]
    · split
      · rename_i hx
        subst hx
        split
        · by_cases hy : y = x
          · subst hy
            simp only [if_true]
            rw [Memory.read_below d m y hlt]
            symm; assumption
          · simp [Memory.read, hy]
        · by_cases hy : y = x <;> simp [Memory.read, hy]
      · by_cases hya : y = a
        · subst hya
          have : y ≠ x := by omega
          simp [Memory.read, this]
        · simp only [Memory.read, if_neg hya]
          exact ih hm

/-- A read after a clear: unlisted inside the range, the former byte outside. -/
theorem Memory.read_clear (d : Byte) (m : Memory) (base size y : Nat) :
    Memory.read d (Memory.clear m base size) y
      = if base ≤ y ∧ y < base + size then d else Memory.read d m y := by
  induction m with
  | nil => simp [Memory.clear, Memory.read]
  | cons c m ih =>
    obtain ⟨a, v⟩ := c
    simp only [Memory.clear] at ih ⊢
    by_cases ha : a < base ∨ base + size ≤ a
    · rw [List.filter_cons_of_pos (by simpa using ha)]
      simp only [Memory.read]
      by_cases hy : y = a
      · have : ¬ (base ≤ y ∧ y < base + size) := by omega
        simp only [if_pos hy, if_neg this]
      · simp only [if_neg hy, ih]
    · rw [List.filter_cons_of_neg (by simpa using ha), ih]
      simp only [Memory.read]
      by_cases hy : y = a
      · have : base ≤ y ∧ y < base + size := by omega
        simp only [if_pos this]
      · simp only [if_neg hy]

end Sys2Proof.Machine
end

