-- ==== Sys2Proof/Laws/Flash.lean ====
section
/-! SUPPORT. Reading flash back: what a programmed row reads as, and what mark rows that were programmed say
(R121 to R124). -/

namespace Sys2Proof.Machine

/-- After bytes are written from `base` upward, an address among them reads as its byte, and any other as before. -/
theorem Memory.read_writeAll (d : Byte) (bytes : List Byte) (m : Memory) (base y : Nat) (h : Memory.wf d m) :
    Memory.read d (Memory.writeAll d m base bytes) y
      = if base ≤ y ∧ y < base + bytes.length then bytes[y - base]?.getD d else Memory.read d m y := by
  induction bytes generalizing m base with
  | nil => rw [if_neg (by simp only [List.length_nil]; omega)]; rfl
  | cons b bs ih =>
    rw [Memory.writeAll, ih _ _ (Memory.write_wf d m base b h), Memory.read_write d m base b y h, List.length_cons]
    by_cases hy : y = base
    · rw [if_neg (by omega), if_pos hy, if_pos (by omega), hy, Nat.sub_self]; rfl
    · by_cases hin : base + 1 ≤ y ∧ y < base + 1 + bs.length
      · rw [if_pos hin, if_pos (by omega), show y - base = (y - (base + 1)) + 1 by omega, List.getElem?_cons_succ]
      · rw [if_neg hin, if_neg hy, if_neg (by omega)]

/-- Bytes just written read back. -/
theorem Memory.readAll_writeAll (d : Byte) (bytes : List Byte) (m : Memory) (base : Nat) (h : Memory.wf d m) :
    Memory.readAll d (Memory.writeAll d m base bytes) base bytes.length = bytes := by
  apply List.ext_getElem
  · simp [Memory.readAll]
  · intro k _ hk
    simp only [Memory.readAll, List.getElem_map, List.getElem_range, Memory.read_writeAll d bytes m base _ h]
    rw [if_pos (by omega), Nat.add_sub_cancel_left, List.getElem?_eq_getElem hk, Option.getD_some]

/-- Bytes written elsewhere leave a range as it reads. -/
theorem Memory.readAll_writeAll_apart (d : Byte) (bytes : List Byte) (m : Memory) (base at_ size : Nat)
    (h : Memory.wf d m) (apart : at_ + size ≤ base ∨ base + bytes.length ≤ at_) :
    Memory.readAll d (Memory.writeAll d m base bytes) at_ size = Memory.readAll d m at_ size := by
  apply List.map_congr_left
  intro k hk
  rw [List.mem_range] at hk
  rw [Memory.read_writeAll d bytes m base _ h, if_neg (by omega)]

/-- A range of an empty memory. -/
theorem Memory.readAll_nil (d : Byte) (base size : Nat) : Memory.readAll d [] base size = List.replicate size d := by
  simp [Memory.readAll, Memory.read, List.map_const']

/-- No byte of the verification pattern is FFh (R121), so no row that begins with it is blank. -/
theorem pattern_row_not_blank (rest : List Byte) : Config.pattern ++ rest ≠ List.replicate 256 blankByte := by
  intro h
  have head : (Config.pattern ++ rest)[0]? = some (BitVec.ofNat 8 (Config.patternDigit 0).val) := rfl
  rw [h] at head
  have ff : (0xFF : Byte) = BitVec.ofNat 8 (Config.patternDigit 0).val := Option.some.inj head
  have digit := (Config.patternDigit 0).isLt
  have same := congrArg BitVec.toNat ff
  rw [BitVec.toNat_ofNat, Nat.mod_eq_of_lt (by omega)] at same
  exact absurd (same ▸ digit) (by decide)

/-- A mark row that reads as its image is set (R121). -/
theorem markCondition_image (rest : List Byte) : markCondition (Config.pattern ++ rest) (Config.pattern ++ rest) = .set := by
  rw [markCondition, if_neg (pattern_row_not_blank rest), if_pos rfl]

/-- Four bytes of a 32-bit number, low byte first, make it up again. -/
theorem word_le32 (w : Word) :
    word (byte w.toNat) (byte (w.toNat / 256)) (byte (w.toNat / 65536)) (byte (w.toNat / 16777216)) = w := by
  apply BitVec.eq_of_getLsbD_eq
  intro i hi
  simp only [word, byte, BitVec.getLsbD_append, BitVec.getLsbD_ofNat]
  rw [show (256 : Nat) = 2 ^ 8 by rfl, show (65536 : Nat) = 2 ^ 16 by rfl, show (16777216 : Nat) = 2 ^ 24 by rfl]
  simp only [Nat.testBit_div_two_pow, BitVec.testBit_toNat]
  by_cases h1 : i < 8
  · simp [h1]
  by_cases h2 : i - 8 < 8
  · simp [h1, h2, show i - 8 + 8 = i by omega]
  by_cases h3 : i - 8 - 8 < 8
  · simp [h1, h2, h3, show i - 8 - 8 + 16 = i by omega]
  · simp [h1, h2, h3, show i - 8 - 8 - 8 + 24 = i by omega, show i - 8 - 8 - 8 < 8 by omega]

/-- The sum field of a complete mark is the sum it was made with (R121). -/
theorem sumField_completeMarkRow (sum : Word) : sumField (completeMarkRow sum) = sum := by
  have h : Config.pattern.length = 16 := rfl
  simp only [sumField, completeMarkRow, List.append_assoc, le16, le32, List.cons_append, List.nil_append]
  rw [List.getElem?_append_right (by omega), List.getElem?_append_right (by omega),
    List.getElem?_append_right (by omega), List.getElem?_append_right (by omega), h]
  exact word_le32 sum

/-- Bytes of zero sum to zero. -/
theorem byteSum_zeros (n : Nat) : byteSum (List.replicate n 0) = 0 := by
  unfold byteSum
  induction n with
  | zero => rfl
  | succ n ih => rw [List.replicate_succ, List.foldl_cons]; exact ih

/-- A plain mark fills its row. -/
theorem length_plainMarkRow : plainMarkRow.length = 256 := by
  rw [plainMarkRow, List.length_append, List.length_replicate]; rfl

/-- A complete mark fills its row. -/
theorem length_completeMarkRow (sum : Word) : (completeMarkRow sum).length = 256 := by
  simp only [completeMarkRow, List.length_append, List.length_replicate]; rfl

/-- A set whose open mark and complete mark read as programmed, and whose retire row is blank, is COMPLETE
with that sum (R122). -/
theorem entryFromFlash_complete (flash : Memory) (k : Fin 8) (sum : Word) (h0 : flashRow flash k 0 = plainMarkRow)
    (h1 : flashRow flash k 1 = completeMarkRow sum) (h3 : flashRow flash k 3 = List.replicate 256 blankByte) :
    (entryFromFlash flash k).state = .complete ∧ (entryFromFlash flash k).sum = some sum := by
  have opened : markCondition plainMarkRow plainMarkRow = .set := markCondition_image _
  have complete : markCondition (completeMarkRow sum) (completeMarkRow sum) = .set := by
    simp only [completeMarkRow, List.append_assoc]
    exact markCondition_image _
  have blank : markCondition plainMarkRow (List.replicate 256 blankByte) = .blank := if_pos rfl
  simp only [entryFromFlash, SetEntry.state, h0, h1, h3, sumField_completeMarkRow, opened, complete, blank]
  exact ⟨rfl, rfl⟩

end Sys2Proof.Machine
end

