-- ==== Sys2Proof/Laws/Ops.lean ====
section
/-! SUPPORT. What the shared operations can do, said once: tables, how a meaning answers, how a request is taken, a
change of port state, a store step issued. -/

namespace Sys2Proof.Machine

/-! ### Tables -/

@[simp] theorem update_get {α : Type} {n : Nat} (v : Vector α n) (i j : Fin n) (f : α → α) :
    (update v i f)[j] = if i = j then f v[j] else v[j] := by
  simp only [update, Fin.getElem_fin, Vector.getElem_set, Fin.ext_iff]
  split
  · next h => simp [h]
  · rfl

@[simp] theorem update_get_nat {α : Type} {n : Nat} (v : Vector α n) (i : Fin n) (j : Nat) (hj : j < n) (f : α → α) :
    (update v i f)[j] = if i.val = j then f v[j] else v[j] := by
  simp only [update, Vector.getElem_set]
  split
  · next h => subst h; rfl
  · rfl

@[simp] theorem mapAll_get {α β : Type} {n : Nat} (v : Vector α n) (f : α → β) (i : Fin n) :
    (mapAll v f)[i] = f v[i] := by
  simp [mapAll]

@[simp] theorem mapAll_get_nat {α β : Type} {n : Nat} (v : Vector α n) (f : α → β) (i : Nat) (h : i < n) :
    (mapAll v f)[i] = f v[i] := by
  simp [mapAll]

/-- The search for the lowest number with a property finds it. -/
theorem find_lowest {n : Nat} (f : Fin n → Bool) (b : Fin n) (hb : f b = true) (hl : ∀ c, c < b → f c = false) :
    (List.finRange n).find? f = some b := by
  rw [List.find?_eq_some_iff_getElem]
  refine ⟨hb, b.val, by simp, by simp, fun j hj => ?_⟩
  simp [hl ⟨j, by omega⟩ hj]

/-- The search for a property that no number has finds none. -/
theorem find_none {n : Nat} (f : Fin n → Bool) (h : ∀ c, f c = false) : (List.finRange n).find? f = none := by
  rw [List.find?_eq_none]
  intro c _
  simp [h c]

/-! ### How a meaning answers -/

/-- A meaning made by `State.act` answers a next state whose queue is as before. -/
theorem State.act_next (f : Part → Part) (s : State) :
    ∃ t : State, s.act f = .next t ∧ t.pending = s.pending
      ∧ (s.power.inReset = true → t.toPart = s.toPart) ∧ (s.power.inReset = false → t.toPart = f s.toPart) := by
  refine ⟨_, rfl, rfl, ?_, ?_⟩ <;> intro h <;> simp [h]

/-- Outside a full reset `State.act` applies the change. -/
theorem State.act_apply (f : Part → Part) (s : State) (h : s.power.inReset = false) :
    s.act f = .next { s with toPart := f s.toPart } := by
  simp [State.act, h]

/-- In a full reset `State.act` changes nothing. -/
theorem State.act_held (f : Part → Part) (s : State) (h : s.power.inReset = true) : s.act f = .next s := by
  simp [State.act, h]

/-! ### How a request is taken -/

/-- A request that finds room in the reply queue is replied to. -/
theorem Part.answer_taken (kind tag : Byte) (act : Effect) (p : Part) (h : (p.wakeByRequest kind).queueFull = false) :
    p.answer kind tag act = (p.wakeByRequest kind).reply kind tag act := by
  simp [Part.answer, h]

/-- A request that finds four records queued is discarded. -/
theorem Part.answer_discarded (kind tag : Byte) (act : Effect) (p : Part)
    (h : (p.wakeByRequest kind).queueFull = true) :
    p.answer kind tag act = (p.wakeByRequest kind).raise .replyOverrun [kind, tag] := by
  simp [Part.answer, h]

/-- A reply changes nothing that the effect left but the link, which the reply joins. -/
theorem Part.reply_spec (kind tag : Byte) (act : Effect) (p : Part) :
    p.reply kind tag act
      = { (act p).2 with link := (act p).2.link.join { kind := kind + 0x80, tag := tag, body := (act p).1 } } := rfl

/-! ### A change of port state -/

/-- A change that keeps the port's state is the change of the port alone. -/
theorem Part.changePort_same (i : Fin 4) (f : Port → Port) (p : Part) (h : (f p.ports[i]).state = p.ports[i].state) :
    p.changePort i f = p.onPort i f := by
  simp only [Part.changePort]
  rw [if_pos]
  simpa [Part.onPort] using h

/-- A change of the port's state raises CAMERA_STATE and is told to the gatherer. -/
theorem Part.changePort_moved (i : Fin 4) (f : Port → Port) (p : Part)
    (h : (f p.ports[i]).state ≠ p.ports[i].state) :
    p.changePort i f
      = ((p.onPort i f).raise .cameraState [byte i.val, (f p.ports[i]).state.code]).gatherTest := by
  simp only [Part.changePort]
  rw [if_neg]
  · simp [Part.onPort]
  · simpa [Part.onPort] using h

/-- With no gather open the gatherer's test changes nothing. -/
theorem Part.gatherTest_closed (p : Part) (h : ∀ n stale, p.engine.slot ≠ .gathering n stale) : p.gatherTest = p := by
  simp only [Part.gatherTest]

/-! ### A store step -/

/-- After an accepted RESET no step is issued; a free flash is taken at once; otherwise the step joins the line. -/
theorem Part.issueStep_spec (kind : StepKind) (p : Part) :
    p.issueStep kind =
      if p.link.resetWait ≠ .clear then p
      else if p.store.flashFree then
        { p with store := { p.store with
            holder := .store, step := some { kind := kind, phase := .running (p.now + kind.ticks) } } }
      else
        { p with store := { p.store with
            line := p.store.line ++ [.store], step := some { kind := kind, phase := .pending } } } := by
  simp only [Part.issueStep]
  split <;> simp_all

end Sys2Proof.Machine
end

