-- ==== Sys2Proof/Laws/State.lean ====
section
/-! SUPPORT. One lemma for each field under each named update of the part, so that no later proof unfolds a record
update. -/

namespace Sys2Proof.Machine

/-! ### `Part.onPort` -/

@[simp] theorem Part.onPort_link (i : Fin 4) (f : Port → Port) (p : Part) : (p.onPort i f).link = p.link := rfl
@[simp] theorem Part.onPort_ports (i : Fin 4) (f : Port → Port) (p : Part) : (p.onPort i f).ports = update p.ports i f := rfl
@[simp] theorem Part.onPort_pace (i : Fin 4) (f : Port → Port) (p : Part) : (p.onPort i f).pace = p.pace := rfl
@[simp] theorem Part.onPort_engine (i : Fin 4) (f : Port → Port) (p : Part) : (p.onPort i f).engine = p.engine := rfl
@[simp] theorem Part.onPort_balancer (i : Fin 4) (f : Port → Port) (p : Part) : (p.onPort i f).balancer = p.balancer := rfl
@[simp] theorem Part.onPort_height (i : Fin 4) (f : Port → Port) (p : Part) : (p.onPort i f).height = p.height := rfl
@[simp] theorem Part.onPort_loader (i : Fin 4) (f : Port → Port) (p : Part) : (p.onPort i f).loader = p.loader := rfl
@[simp] theorem Part.onPort_store (i : Fin 4) (f : Port → Port) (p : Part) : (p.onPort i f).store = p.store := rfl
@[simp] theorem Part.onPort_lines (i : Fin 4) (f : Port → Port) (p : Part) : (p.onPort i f).lines = p.lines := rfl
@[simp] theorem Part.onPort_supply (i : Fin 4) (f : Port → Port) (p : Part) : (p.onPort i f).supply = p.supply := rfl
@[simp] theorem Part.onPort_power (i : Fin 4) (f : Port → Port) (p : Part) : (p.onPort i f).power = p.power := rfl
@[simp] theorem Part.onPort_display (i : Fin 4) (f : Port → Port) (p : Part) : (p.onPort i f).display = p.display := rfl
@[simp] theorem Part.onPort_now (i : Fin 4) (f : Port → Port) (p : Part) : (p.onPort i f).now = p.now := rfl
@[simp] theorem Part.onPort_draws (i : Fin 4) (f : Port → Port) (p : Part) : (p.onPort i f).draws = p.draws := rfl

/-! ### `Part.onLine` -/

@[simp] theorem Part.onLine_link (i : Fin 8) (f : Line → Line) (p : Part) : (p.onLine i f).link = p.link := rfl
@[simp] theorem Part.onLine_ports (i : Fin 8) (f : Line → Line) (p : Part) : (p.onLine i f).ports = p.ports := rfl
@[simp] theorem Part.onLine_pace (i : Fin 8) (f : Line → Line) (p : Part) : (p.onLine i f).pace = p.pace := rfl
@[simp] theorem Part.onLine_engine (i : Fin 8) (f : Line → Line) (p : Part) : (p.onLine i f).engine = p.engine := rfl
@[simp] theorem Part.onLine_balancer (i : Fin 8) (f : Line → Line) (p : Part) : (p.onLine i f).balancer = p.balancer := rfl
@[simp] theorem Part.onLine_height (i : Fin 8) (f : Line → Line) (p : Part) : (p.onLine i f).height = p.height := rfl
@[simp] theorem Part.onLine_loader (i : Fin 8) (f : Line → Line) (p : Part) : (p.onLine i f).loader = p.loader := rfl
@[simp] theorem Part.onLine_store (i : Fin 8) (f : Line → Line) (p : Part) : (p.onLine i f).store = p.store := rfl
@[simp] theorem Part.onLine_lines (i : Fin 8) (f : Line → Line) (p : Part) : (p.onLine i f).lines = { p.lines with line := update p.lines.line i f } := rfl
@[simp] theorem Part.onLine_supply (i : Fin 8) (f : Line → Line) (p : Part) : (p.onLine i f).supply = p.supply := rfl
@[simp] theorem Part.onLine_power (i : Fin 8) (f : Line → Line) (p : Part) : (p.onLine i f).power = p.power := rfl
@[simp] theorem Part.onLine_display (i : Fin 8) (f : Line → Line) (p : Part) : (p.onLine i f).display = p.display := rfl
@[simp] theorem Part.onLine_now (i : Fin 8) (f : Line → Line) (p : Part) : (p.onLine i f).now = p.now := rfl
@[simp] theorem Part.onLine_draws (i : Fin 8) (f : Line → Line) (p : Part) : (p.onLine i f).draws = p.draws := rfl

/-! ### `Part.at` -/

@[simp] theorem Part.at_link (t : Nat) (p : Part) : (p.at t).link = p.link := rfl
@[simp] theorem Part.at_ports (t : Nat) (p : Part) : (p.at t).ports = p.ports := rfl
@[simp] theorem Part.at_pace (t : Nat) (p : Part) : (p.at t).pace = p.pace := rfl
@[simp] theorem Part.at_engine (t : Nat) (p : Part) : (p.at t).engine = p.engine := rfl
@[simp] theorem Part.at_balancer (t : Nat) (p : Part) : (p.at t).balancer = p.balancer := rfl
@[simp] theorem Part.at_height (t : Nat) (p : Part) : (p.at t).height = p.height := rfl
@[simp] theorem Part.at_loader (t : Nat) (p : Part) : (p.at t).loader = p.loader := rfl
@[simp] theorem Part.at_store (t : Nat) (p : Part) : (p.at t).store = p.store := rfl
@[simp] theorem Part.at_lines (t : Nat) (p : Part) : (p.at t).lines = p.lines := rfl
@[simp] theorem Part.at_supply (t : Nat) (p : Part) : (p.at t).supply = p.supply := rfl
@[simp] theorem Part.at_power (t : Nat) (p : Part) : (p.at t).power = p.power := rfl
@[simp] theorem Part.at_display (t : Nat) (p : Part) : (p.at t).display = p.display := rfl
@[simp] theorem Part.at_now (t : Nat) (p : Part) : (p.at t).now = max p.now t := rfl
@[simp] theorem Part.at_draws (t : Nat) (p : Part) : (p.at t).draws = p.draws := rfl

/-! ### `Part.raise` -/

@[simp] theorem Part.raise_link (k : EventKind) (d : List Byte) (p : Part) : (p.raise k d).link = p.link.raise k d := rfl
@[simp] theorem Part.raise_ports (k : EventKind) (d : List Byte) (p : Part) : (p.raise k d).ports = p.ports := rfl
@[simp] theorem Part.raise_pace (k : EventKind) (d : List Byte) (p : Part) : (p.raise k d).pace = p.pace := rfl
@[simp] theorem Part.raise_engine (k : EventKind) (d : List Byte) (p : Part) : (p.raise k d).engine = p.engine := rfl
@[simp] theorem Part.raise_balancer (k : EventKind) (d : List Byte) (p : Part) : (p.raise k d).balancer = p.balancer := rfl
@[simp] theorem Part.raise_height (k : EventKind) (d : List Byte) (p : Part) : (p.raise k d).height = p.height := rfl
@[simp] theorem Part.raise_loader (k : EventKind) (d : List Byte) (p : Part) : (p.raise k d).loader = p.loader := rfl
@[simp] theorem Part.raise_store (k : EventKind) (d : List Byte) (p : Part) : (p.raise k d).store = p.store := rfl
@[simp] theorem Part.raise_lines (k : EventKind) (d : List Byte) (p : Part) : (p.raise k d).lines = p.lines := rfl
@[simp] theorem Part.raise_supply (k : EventKind) (d : List Byte) (p : Part) : (p.raise k d).supply = p.supply := rfl
@[simp] theorem Part.raise_power (k : EventKind) (d : List Byte) (p : Part) : (p.raise k d).power = p.power := rfl
@[simp] theorem Part.raise_display (k : EventKind) (d : List Byte) (p : Part) : (p.raise k d).display = p.display := rfl
@[simp] theorem Part.raise_now (k : EventKind) (d : List Byte) (p : Part) : (p.raise k d).now = p.now := rfl
@[simp] theorem Part.raise_draws (k : EventKind) (d : List Byte) (p : Part) : (p.raise k d).draws = p.draws := rfl

/-! ### `Part.setSlot` -/

@[simp] theorem Part.setSlot_link (g : GatherSlot) (p : Part) : (p.setSlot g).link = p.link := rfl
@[simp] theorem Part.setSlot_ports (g : GatherSlot) (p : Part) : (p.setSlot g).ports = p.ports := rfl
@[simp] theorem Part.setSlot_pace (g : GatherSlot) (p : Part) : (p.setSlot g).pace = p.pace := rfl
@[simp] theorem Part.setSlot_engine (g : GatherSlot) (p : Part) : (p.setSlot g).engine = { p.engine with slot := g } := rfl
@[simp] theorem Part.setSlot_balancer (g : GatherSlot) (p : Part) : (p.setSlot g).balancer = p.balancer := rfl
@[simp] theorem Part.setSlot_height (g : GatherSlot) (p : Part) : (p.setSlot g).height = p.height := rfl
@[simp] theorem Part.setSlot_loader (g : GatherSlot) (p : Part) : (p.setSlot g).loader = p.loader := rfl
@[simp] theorem Part.setSlot_store (g : GatherSlot) (p : Part) : (p.setSlot g).store = p.store := rfl
@[simp] theorem Part.setSlot_lines (g : GatherSlot) (p : Part) : (p.setSlot g).lines = p.lines := rfl
@[simp] theorem Part.setSlot_supply (g : GatherSlot) (p : Part) : (p.setSlot g).supply = p.supply := rfl
@[simp] theorem Part.setSlot_power (g : GatherSlot) (p : Part) : (p.setSlot g).power = p.power := rfl
@[simp] theorem Part.setSlot_display (g : GatherSlot) (p : Part) : (p.setSlot g).display = p.display := rfl
@[simp] theorem Part.setSlot_now (g : GatherSlot) (p : Part) : (p.setSlot g).now = p.now := rfl
@[simp] theorem Part.setSlot_draws (g : GatherSlot) (p : Part) : (p.setSlot g).draws = p.draws := rfl

/-! ### `Part.setPower` -/

@[simp] theorem Part.setPower_link (st : PowerState) (p : Part) : (p.setPower st).link = p.link := rfl
@[simp] theorem Part.setPower_ports (st : PowerState) (p : Part) : (p.setPower st).ports = p.ports := rfl
@[simp] theorem Part.setPower_pace (st : PowerState) (p : Part) : (p.setPower st).pace = p.pace := rfl
@[simp] theorem Part.setPower_engine (st : PowerState) (p : Part) : (p.setPower st).engine = p.engine := rfl
@[simp] theorem Part.setPower_balancer (st : PowerState) (p : Part) : (p.setPower st).balancer = p.balancer := rfl
@[simp] theorem Part.setPower_height (st : PowerState) (p : Part) : (p.setPower st).height = p.height := rfl
@[simp] theorem Part.setPower_loader (st : PowerState) (p : Part) : (p.setPower st).loader = p.loader := rfl
@[simp] theorem Part.setPower_store (st : PowerState) (p : Part) : (p.setPower st).store = p.store := rfl
@[simp] theorem Part.setPower_lines (st : PowerState) (p : Part) : (p.setPower st).lines = p.lines := rfl
@[simp] theorem Part.setPower_supply (st : PowerState) (p : Part) : (p.setPower st).supply = p.supply := rfl
@[simp] theorem Part.setPower_power (st : PowerState) (p : Part) : (p.setPower st).power = { p.power with state := st } := rfl
@[simp] theorem Part.setPower_display (st : PowerState) (p : Part) : (p.setPower st).display = p.display := rfl
@[simp] theorem Part.setPower_now (st : PowerState) (p : Part) : (p.setPower st).now = p.now := rfl
@[simp] theorem Part.setPower_draws (st : PowerState) (p : Part) : (p.setPower st).draws = p.draws := rfl

/-! ### `Part.mapLines` -/

@[simp] theorem Part.mapLines_link (f : Line → Line) (p : Part) : (p.mapLines f).link = p.link := rfl
@[simp] theorem Part.mapLines_ports (f : Line → Line) (p : Part) : (p.mapLines f).ports = p.ports := rfl
@[simp] theorem Part.mapLines_pace (f : Line → Line) (p : Part) : (p.mapLines f).pace = p.pace := rfl
@[simp] theorem Part.mapLines_engine (f : Line → Line) (p : Part) : (p.mapLines f).engine = p.engine := rfl
@[simp] theorem Part.mapLines_balancer (f : Line → Line) (p : Part) : (p.mapLines f).balancer = p.balancer := rfl
@[simp] theorem Part.mapLines_height (f : Line → Line) (p : Part) : (p.mapLines f).height = p.height := rfl
@[simp] theorem Part.mapLines_loader (f : Line → Line) (p : Part) : (p.mapLines f).loader = p.loader := rfl
@[simp] theorem Part.mapLines_store (f : Line → Line) (p : Part) : (p.mapLines f).store = p.store := rfl
@[simp] theorem Part.mapLines_lines (f : Line → Line) (p : Part) : (p.mapLines f).lines = { p.lines with line := mapAll p.lines.line f } := rfl
@[simp] theorem Part.mapLines_supply (f : Line → Line) (p : Part) : (p.mapLines f).supply = p.supply := rfl
@[simp] theorem Part.mapLines_power (f : Line → Line) (p : Part) : (p.mapLines f).power = p.power := rfl
@[simp] theorem Part.mapLines_display (f : Line → Line) (p : Part) : (p.mapLines f).display = p.display := rfl
@[simp] theorem Part.mapLines_now (f : Line → Line) (p : Part) : (p.mapLines f).now = p.now := rfl
@[simp] theorem Part.mapLines_draws (f : Line → Line) (p : Part) : (p.mapLines f).draws = p.draws := rfl

/-! ### `Part.releaseFrames` -/

@[simp] theorem Part.releaseFrames_link (p : Part) : (p.releaseFrames).link = p.link := rfl
@[simp] theorem Part.releaseFrames_ports (p : Part) : (p.releaseFrames).ports = mapAll p.ports Port.release := rfl
@[simp] theorem Part.releaseFrames_pace (p : Part) : (p.releaseFrames).pace = p.pace := rfl
@[simp] theorem Part.releaseFrames_engine (p : Part) : (p.releaseFrames).engine = p.engine := rfl
@[simp] theorem Part.releaseFrames_balancer (p : Part) : (p.releaseFrames).balancer = p.balancer := rfl
@[simp] theorem Part.releaseFrames_height (p : Part) : (p.releaseFrames).height = p.height := rfl
@[simp] theorem Part.releaseFrames_loader (p : Part) : (p.releaseFrames).loader = p.loader := rfl
@[simp] theorem Part.releaseFrames_store (p : Part) : (p.releaseFrames).store = p.store := rfl
@[simp] theorem Part.releaseFrames_lines (p : Part) : (p.releaseFrames).lines = p.lines := rfl
@[simp] theorem Part.releaseFrames_supply (p : Part) : (p.releaseFrames).supply = p.supply := rfl
@[simp] theorem Part.releaseFrames_power (p : Part) : (p.releaseFrames).power = p.power := rfl
@[simp] theorem Part.releaseFrames_display (p : Part) : (p.releaseFrames).display = p.display := rfl
@[simp] theorem Part.releaseFrames_now (p : Part) : (p.releaseFrames).now = p.now := rfl
@[simp] theorem Part.releaseFrames_draws (p : Part) : (p.releaseFrames).draws = p.draws := rfl

/-! ### `Part.syncWatchdogs` -/

@[simp] theorem Part.syncWatchdogs_link (p : Part) : (p.syncWatchdogs).link = p.link := rfl
@[simp] theorem Part.syncWatchdogs_ports (p : Part) : (p.syncWatchdogs).ports = mapAll p.ports p.syncTimer := rfl
@[simp] theorem Part.syncWatchdogs_pace (p : Part) : (p.syncWatchdogs).pace = p.pace := rfl
@[simp] theorem Part.syncWatchdogs_engine (p : Part) : (p.syncWatchdogs).engine = p.engine := rfl
@[simp] theorem Part.syncWatchdogs_balancer (p : Part) : (p.syncWatchdogs).balancer = p.balancer := rfl
@[simp] theorem Part.syncWatchdogs_height (p : Part) : (p.syncWatchdogs).height = p.height := rfl
@[simp] theorem Part.syncWatchdogs_loader (p : Part) : (p.syncWatchdogs).loader = p.loader := rfl
@[simp] theorem Part.syncWatchdogs_store (p : Part) : (p.syncWatchdogs).store = p.store := rfl
@[simp] theorem Part.syncWatchdogs_lines (p : Part) : (p.syncWatchdogs).lines = p.lines := rfl
@[simp] theorem Part.syncWatchdogs_supply (p : Part) : (p.syncWatchdogs).supply = p.supply := rfl
@[simp] theorem Part.syncWatchdogs_power (p : Part) : (p.syncWatchdogs).power = p.power := rfl
@[simp] theorem Part.syncWatchdogs_display (p : Part) : (p.syncWatchdogs).display = p.display := rfl
@[simp] theorem Part.syncWatchdogs_now (p : Part) : (p.syncWatchdogs).now = p.now := rfl
@[simp] theorem Part.syncWatchdogs_draws (p : Part) : (p.syncWatchdogs).draws = p.draws := rfl

/-! ### `Part.displayLeavesRun` -/

@[simp] theorem Part.displayLeavesRun_link (p : Part) : (p.displayLeavesRun).link = p.link := rfl
@[simp] theorem Part.displayLeavesRun_ports (p : Part) : (p.displayLeavesRun).ports = p.ports := rfl
@[simp] theorem Part.displayLeavesRun_pace (p : Part) : (p.displayLeavesRun).pace = p.pace := rfl
@[simp] theorem Part.displayLeavesRun_engine (p : Part) : (p.displayLeavesRun).engine = p.engine := rfl
@[simp] theorem Part.displayLeavesRun_balancer (p : Part) : (p.displayLeavesRun).balancer = p.balancer := rfl
@[simp] theorem Part.displayLeavesRun_height (p : Part) : (p.displayLeavesRun).height = p.height := rfl
@[simp] theorem Part.displayLeavesRun_loader (p : Part) : (p.displayLeavesRun).loader = p.loader := rfl
@[simp] theorem Part.displayLeavesRun_store (p : Part) : (p.displayLeavesRun).store = p.store := rfl
@[simp] theorem Part.displayLeavesRun_lines (p : Part) : (p.displayLeavesRun).lines = p.lines := rfl
@[simp] theorem Part.displayLeavesRun_supply (p : Part) : (p.displayLeavesRun).supply = p.supply := rfl
@[simp] theorem Part.displayLeavesRun_power (p : Part) : (p.displayLeavesRun).power = p.power := rfl
@[simp] theorem Part.displayLeavesRun_display (p : Part) : (p.displayLeavesRun).display = { p.display with held := false } := rfl
@[simp] theorem Part.displayLeavesRun_now (p : Part) : (p.displayLeavesRun).now = p.now := rfl
@[simp] theorem Part.displayLeavesRun_draws (p : Part) : (p.displayLeavesRun).draws = p.draws := rfl

/-! ### `Part.beginLoad` -/

@[simp] theorem Part.beginLoad_link (s : Fin 8) (p : Part) : (p.beginLoad s).link = p.link := rfl
@[simp] theorem Part.beginLoad_ports (s : Fin 8) (p : Part) : (p.beginLoad s).ports = p.ports := rfl
@[simp] theorem Part.beginLoad_pace (s : Fin 8) (p : Part) : (p.beginLoad s).pace = p.pace := rfl
@[simp] theorem Part.beginLoad_engine (s : Fin 8) (p : Part) : (p.beginLoad s).engine = p.engine := rfl
@[simp] theorem Part.beginLoad_balancer (s : Fin 8) (p : Part) : (p.beginLoad s).balancer = p.balancer := rfl
@[simp] theorem Part.beginLoad_height (s : Fin 8) (p : Part) : (p.beginLoad s).height = p.height := rfl
@[simp] theorem Part.beginLoad_loader (s : Fin 8) (p : Part) : (p.beginLoad s).loader = { p.loader with state := .loading s p.now false, standby := .loading s } := rfl
@[simp] theorem Part.beginLoad_store (s : Fin 8) (p : Part) : (p.beginLoad s).store = { p.store with holder := .loader } := rfl
@[simp] theorem Part.beginLoad_lines (s : Fin 8) (p : Part) : (p.beginLoad s).lines = p.lines := rfl
@[simp] theorem Part.beginLoad_supply (s : Fin 8) (p : Part) : (p.beginLoad s).supply = p.supply := rfl
@[simp] theorem Part.beginLoad_power (s : Fin 8) (p : Part) : (p.beginLoad s).power = p.power := rfl
@[simp] theorem Part.beginLoad_display (s : Fin 8) (p : Part) : (p.beginLoad s).display = p.display := rfl
@[simp] theorem Part.beginLoad_now (s : Fin 8) (p : Part) : (p.beginLoad s).now = p.now := rfl
@[simp] theorem Part.beginLoad_draws (s : Fin 8) (p : Part) : (p.beginLoad s).draws = p.draws := rfl

/-! ### `Part.failLoad` -/

@[simp] theorem Part.failLoad_link (p : Part) : (p.failLoad).link = p.link := rfl
@[simp] theorem Part.failLoad_ports (p : Part) : (p.failLoad).ports = p.ports := rfl
@[simp] theorem Part.failLoad_pace (p : Part) : (p.failLoad).pace = p.pace := rfl
@[simp] theorem Part.failLoad_engine (p : Part) : (p.failLoad).engine = p.engine := rfl
@[simp] theorem Part.failLoad_balancer (p : Part) : (p.failLoad).balancer = p.balancer := rfl
@[simp] theorem Part.failLoad_height (p : Part) : (p.failLoad).height = p.height := rfl
@[simp] theorem Part.failLoad_loader (p : Part) : (p.failLoad).loader = p.loader.cleared := rfl
@[simp] theorem Part.failLoad_store (p : Part) : (p.failLoad).store = p.store.releaseLoader := rfl
@[simp] theorem Part.failLoad_lines (p : Part) : (p.failLoad).lines = p.lines := rfl
@[simp] theorem Part.failLoad_supply (p : Part) : (p.failLoad).supply = p.supply := rfl
@[simp] theorem Part.failLoad_power (p : Part) : (p.failLoad).power = p.power := rfl
@[simp] theorem Part.failLoad_display (p : Part) : (p.failLoad).display = p.display := rfl
@[simp] theorem Part.failLoad_now (p : Part) : (p.failLoad).now = p.now := rfl
@[simp] theorem Part.failLoad_draws (p : Part) : (p.failLoad).draws = p.draws := rfl

/-! ### `Part.leaveParked` -/

@[simp] theorem Part.leaveParked_link (st : PowerState) (p : Part) : (p.leaveParked st).link = p.link := rfl
@[simp] theorem Part.leaveParked_ports (st : PowerState) (p : Part) : (p.leaveParked st).ports = p.ports := rfl
@[simp] theorem Part.leaveParked_pace (st : PowerState) (p : Part) : (p.leaveParked st).pace = p.pace := rfl
@[simp] theorem Part.leaveParked_engine (st : PowerState) (p : Part) : (p.leaveParked st).engine = p.engine := rfl
@[simp] theorem Part.leaveParked_balancer (st : PowerState) (p : Part) : (p.leaveParked st).balancer = p.balancer := rfl
@[simp] theorem Part.leaveParked_height (st : PowerState) (p : Part) : (p.leaveParked st).height = p.height.restart p.now := rfl
@[simp] theorem Part.leaveParked_loader (st : PowerState) (p : Part) : (p.leaveParked st).loader = p.loader := rfl
@[simp] theorem Part.leaveParked_store (st : PowerState) (p : Part) : (p.leaveParked st).store = p.store := rfl
@[simp] theorem Part.leaveParked_lines (st : PowerState) (p : Part) : (p.leaveParked st).lines = { p.lines with line := mapAll p.lines.line Line.dropSnapshot } := rfl
@[simp] theorem Part.leaveParked_supply (st : PowerState) (p : Part) : (p.leaveParked st).supply = p.supply := rfl
@[simp] theorem Part.leaveParked_power (st : PowerState) (p : Part) : (p.leaveParked st).power = { p.power with state := st } := rfl
@[simp] theorem Part.leaveParked_display (st : PowerState) (p : Part) : (p.leaveParked st).display = p.display := rfl
@[simp] theorem Part.leaveParked_now (st : PowerState) (p : Part) : (p.leaveParked st).now = p.now := rfl
@[simp] theorem Part.leaveParked_draws (st : PowerState) (p : Part) : (p.leaveParked st).draws = p.draws := rfl

/-! ### `Link.setSlot` -/

@[simp] theorem Link.setSlot_receiver (o : Option Outgoing) (l : Link) : (l.setSlot o).receiver = l.receiver := rfl
@[simp] theorem Link.setSlot_slot (o : Option Outgoing) (l : Link) : (l.setSlot o).slot = o := rfl
@[simp] theorem Link.setSlot_queue (o : Option Outgoing) (l : Link) : (l.setSlot o).queue = l.queue := rfl
@[simp] theorem Link.setSlot_records (o : Option Outgoing) (l : Link) : (l.setSlot o).records = l.records := rfl
@[simp] theorem Link.setSlot_resetWait (o : Option Outgoing) (l : Link) : (l.setSlot o).resetWait = l.resetWait := rfl
@[simp] theorem Link.setSlot_attn (o : Option Outgoing) (l : Link) : (l.setSlot o).attn = o.isSome := rfl

/-! ### A state with another part -/

@[simp] theorem State.withPart_toPart (p : Part) (s : State) : ({ s with toPart := p } : State).toPart = p := rfl
@[simp] theorem State.withPart_pending (p : Part) (s : State) : ({ s with toPart := p } : State).pending = s.pending := rfl

end Sys2Proof.Machine
end

