-- ==== Sys2Proof/Laws/Link.lean ====
section
/-! SUPPORT. The outgoing slot and the pending records: what a fill, a raise and a join leave. -/

namespace Sys2Proof.Machine

/-! ### Candidates -/

/-- A fold over kinds that has found a candidate keeps one. -/
theorem Link.fold_better_some (l : Link) (ks : List EventKind) (b : EventKind) :
    (ks.foldl l.better (some b)).isSome = true := by
  induction ks generalizing b with
  | nil => rfl
  | cons k ks ih =>
    simp only [List.foldl_cons, Link.better]
    split
    · split <;> exact ih _
    · exact ih _

/-- A fold over kinds that finds no candidate has met no sendable record. -/
theorem Link.fold_better_none (l : Link) (ks : List EventKind) (h : ks.foldl l.better none = none) :
    ∀ k ∈ ks, (l.record k).sendable = false := by
  induction ks with
  | nil => simp
  | cons k ks ih =>
    intro j hj
    by_cases hk : (l.record k).sendable = true
    · simp only [List.foldl_cons, Link.better, hk, if_true] at h
      have := Link.fold_better_some l ks k
      rw [h] at this
      cases this
    · have hk : (l.record k).sendable = false := by simpa using hk
      rcases List.mem_cons.mp hj with rfl | hj
      · exact hk
      · refine ih ?_ j hj
        simpa [Link.better, hk] using h

/-- Every place of the table is that of a kind. -/
theorem EventKind.index_surjective (k : Fin 18) : ∃ e ∈ EventKind.all, e.index = k := by
  revert k
  decide

/-- A kind is the one its code names. -/
theorem EventKind.kind_code (k : EventKind) : kind? k.code = some k := by cases k <;> rfl

/-- Two kinds at one place are the same. -/
theorem EventKind.index_injective (j k : EventKind) (h : j.index = k.index) : j = k := by
  have hj := j.kind_code
  rw [EventKind.code, h] at hj
  exact Option.some.inj (hj.symm.trans k.kind_code)

/-- With no candidate no record is sendable. -/
theorem Link.candidate_none (l : Link) (h : l.candidate = none) (k : Fin 18) : l.records[k].sendable = false := by
  obtain ⟨e, he, rfl⟩ := EventKind.index_surjective k
  exact Link.fold_better_none l _ h e he

/-! ### Fill -/

/-- A fill leaves the records, the reset wait, the receiver and MISO. -/
@[simp] theorem Link.fill_records (l : Link) : l.fill.records = l.records := by
  simp only [Link.fill]
  repeat' split
  all_goals rfl

@[simp] theorem Link.fill_resetWait (l : Link) : l.fill.resetWait = l.resetWait := by
  simp only [Link.fill]
  repeat' split
  all_goals rfl

@[simp] theorem Link.fill_receiver (l : Link) : l.fill.receiver = l.receiver := by
  simp only [Link.fill]
  repeat' split
  all_goals rfl

@[simp] theorem Link.fill_miso (l : Link) : l.fill.miso = l.miso := by
  simp only [Link.fill]
  repeat' split
  all_goals rfl

/-- A fill shortens the queue by at most its head. -/
theorem Link.fill_queue_length (l : Link) : l.fill.queue.length ≤ l.queue.length := by
  simp only [Link.fill]
  repeat' split
  all_goals simp_all

/-- A full slot is left as it is. -/
theorem Link.fill_held (l : Link) (o : Outgoing) (h : l.slot = some o) : l.fill = l := by
  simp [Link.fill, h]

/-- After a fill nothing waits for an empty slot. -/
theorem Link.fill_settled (l : Link) (hq : l.queue.length ≤ 4) (ha : l.attn = l.slot.isSome) : l.fill.Settled := by
  simp only [Link.fill]
  split
  · next o h => exact ⟨hq, ha, fun hn => by rw [h] at hn; cases hn⟩
  · split
    · next f rest hf =>
      refine ⟨?_, rfl, fun hn => by cases hn⟩
      rw [hf, List.length_cons] at hq
      exact Nat.le_of_succ_le hq
    · next hnil =>
      split
      · exact ⟨by simpa [Link.setSlot] using hq, rfl, fun hn => by cases hn⟩
      · next hc => exact ⟨by simpa [Link.setSlot] using hq, rfl, fun _ => ⟨hnil, Link.candidate_none l hc⟩⟩

/-- A second fill changes nothing. -/
theorem Link.fill_fill (l : Link) : l.fill.fill = l.fill := by
  rcases hs : l.slot with _ | o
  · rcases hq : l.queue with _ | ⟨f, rest⟩
    · rcases hc : l.candidate with _ | k
      · have filled : l.fill = l.setSlot none := by simp only [Link.fill, hs, hq, hc]
        have none' : (l.setSlot none).candidate = none := hc
        rw [filled]
        simp only [Link.fill, none', show (l.setSlot none).slot = none from rfl, show (l.setSlot none).queue = [] from hq]
        rfl
      · have filled : l.fill = l.setSlot (some (.notice k (l.noticeOf k))) := by simp only [Link.fill, hs, hq, hc]
        rw [filled]
        exact Link.fill_held _ _ rfl
    · have filled : l.fill = ({ l with queue := rest } : Link).setSlot (some (.reply f)) := by simp only [Link.fill, hs, hq]
      rw [filled]
      exact Link.fill_held _ _ rfl
  · rw [Link.fill_held l o hs, Link.fill_held l o hs]

/-- A fold over kinds that finds a new candidate has met its sendable record. -/
theorem Link.fold_better_sendable (l : Link) (k : EventKind) (ks : List EventKind) (best : Option EventKind)
    (h : ks.foldl l.better best = some k) : best = some k ∨ (l.record k).sendable = true := by
  induction ks generalizing best with
  | nil => exact .inl h
  | cons j ks ih =>
    rcases ih _ h with h | h
    · simp only [Link.better] at h
      split at h
      · next hj =>
        split at h
        · cases h; exact .inr hj
        · split at h
          · cases h; exact .inr hj
          · exact .inl h
      · exact .inl h
    · exact .inr h

/-- A settled link is left as it is by a fill. -/
theorem Link.fill_of_settled (l : Link) (h : l.Settled) : l.fill = l := by
  obtain ⟨_, attn, waits⟩ := h
  cases hs : l.slot with
  | some o => exact Link.fill_held l o hs
  | none =>
    obtain ⟨queue, quiet⟩ := waits hs
    have noCandidate : l.candidate = none := by
      rcases hc : l.candidate with _ | k
      · rfl
      · rcases Link.fold_better_sendable l k _ _ hc with h | h
        · cases h
        · exact absurd ((quiet k.index).symm.trans h) (by decide)
    simp only [Link.fill, hs, queue, noCandidate, Link.setSlot]
    cases l
    simp_all

/-! ### Raise and join -/

/-- A raise keeps the link settled. -/
theorem Link.raise_settled (l : Link) (k : EventKind) (detail : List Byte) (h : l.Settled) :
    (l.raise k detail).Settled :=
  Link.fill_settled _ h.1 h.2.1

/-- A reply joining a queue of at most three keeps the link settled. -/
theorem Link.join_settled (l : Link) (f : Frame) (h : l.Settled) (hq : l.queue.length ≤ 3) : (l.join f).Settled :=
  Link.fill_settled _ (by simp; omega) h.2.1

/-- A raise changes the record of its kind, as R186 states, and no other record. -/
theorem Link.raise_record (l : Link) (k : EventKind) (detail : List Byte) (j : Fin 18) :
    (l.raise k detail).records[j]
      = if k.index = j then (l.records[j]).raised detail (l.noticeInSlot k) else l.records[j] := by
  simp [Link.raise, Fin.ext_iff]

/-- A raise leaves the reset wait, the receiver and MISO. -/
@[simp] theorem Link.raise_resetWait (l : Link) (k : EventKind) (d : List Byte) :
    (l.raise k d).resetWait = l.resetWait := by simp [Link.raise]

@[simp] theorem Link.raise_receiver (l : Link) (k : EventKind) (d : List Byte) :
    (l.raise k d).receiver = l.receiver := by simp [Link.raise]

@[simp] theorem Link.raise_miso (l : Link) (k : EventKind) (d : List Byte) : (l.raise k d).miso = l.miso := by
  simp [Link.raise]

@[simp] theorem Link.join_miso (l : Link) (f : Frame) : (l.join f).miso = l.miso := by simp [Link.join]

@[simp] theorem Link.join_records (l : Link) (f : Frame) : (l.join f).records = l.records := by simp [Link.join]

@[simp] theorem Link.join_resetWait (l : Link) (f : Frame) : (l.join f).resetWait = l.resetWait := by simp [Link.join]

end Sys2Proof.Machine
end

