-- ==== Sys2Proof/Laws/Requests.lean ====
section
/-! SUPPORT. How a request answers, said once for all of them: taken, discarded, or held back by a reset. -/

namespace Sys2Proof.Machine

/-- With room in the queue a request answers with the part its effect leaves and its reply joined; `a` is the machine
as the request finds it. -/
theorem State.act_taken (kind tag : Byte) (act : Effect) (s a : State) (h : s.Takes kind) (ha : s.awake kind = a) :
    s.act (Part.answer kind tag act)
      = .next ({ a with toPart := (act a.toPart).2 }.replied (kind + 0x80) tag (act a.toPart).1) := by
  subst ha
  obtain ⟨hr, hq⟩ := h
  have hf : (s.toPart.wakeByRequest kind).queueFull = false := by
    simpa [Part.queueFull, State.awake] using hq
  rw [State.act_apply _ _ hr, Part.answer_taken _ _ _ _ hf]
  rfl

/-- A taken request that is refused, or answered without effect, changes nothing but the link. -/
theorem State.act_refused (kind tag : Byte) (act : Effect) (body : List Byte) (s a : State) (h : s.Takes kind)
    (ha : s.awake kind = a) (hact : act a.toPart = (body, a.toPart)) :
    s.act (Part.answer kind tag act) = .next (a.replied (kind + 0x80) tag body) := by
  rw [State.act_taken _ _ _ _ _ h ha, hact]

/-- A taken request whose effect is known answers with it. -/
theorem State.act_effect (kind tag : Byte) (act : Effect) (body : List Byte) (p : Part) (s a : State) (h : s.Takes kind)
    (ha : s.awake kind = a) (hact : act a.toPart = (body, p)) :
    s.act (Part.answer kind tag act) = .next ({ a with toPart := p }.replied (kind + 0x80) tag body) := by
  rw [State.act_taken _ _ _ _ _ h ha, hact]

/-- With four records queued a request is discarded with REPLY_OVERRUN. -/
theorem State.act_discarded (kind tag : Byte) (act : Effect) (s : State) (hr : s.power.inReset = false)
    (hq : 4 ≤ (s.awake kind).link.queue.length) :
    s.act (Part.answer kind tag act) = .next ((s.awake kind).raised .replyOverrun [kind, tag]) := by
  have hf : (s.toPart.wakeByRequest kind).queueFull = true := by
    simpa [Part.queueFull, State.awake] using hq
  rw [State.act_apply _ _ hr, Part.answer_discarded _ _ _ _ hf]
  rfl

/-- A request is taken in a state only if its arrival finds the part out of reset. -/
theorem State.Takes.notInReset {kind : Byte} {s : State} (h : s.Takes kind) : s.power.inReset = false := h.1

end Sys2Proof.Machine
end

