-- ==== Sys2Proof/Laws/Frames.lean ====
section
/-! SUPPORT. What the operations that reach into several units leave alone: the gatherer and a composition start, a
change of port state, the lines following their outputs, the watchdogs, a run state, an abandonment. -/

namespace Sys2Proof.Machine

/-! ### A composition start and the gather slot -/

@[simp] theorem Part.swapTables_ports (n : Half) (p : Part) : (p.swapTables n).ports = p.ports := by
  simp only [Part.swapTables]; split <;> rfl
@[simp] theorem Part.swapTables_pace (n : Half) (p : Part) : (p.swapTables n).pace = p.pace := by
  simp only [Part.swapTables]; split <;> rfl
@[simp] theorem Part.swapTables_balancer (n : Half) (p : Part) : (p.swapTables n).balancer = p.balancer := by
  simp only [Part.swapTables]; split <;> rfl
@[simp] theorem Part.swapTables_height (n : Half) (p : Part) : (p.swapTables n).height = p.height := by
  simp only [Part.swapTables]; split <;> rfl
@[simp] theorem Part.swapTables_store (n : Half) (p : Part) : (p.swapTables n).store = p.store := by
  simp only [Part.swapTables]; split <;> rfl
@[simp] theorem Part.swapTables_lines (n : Half) (p : Part) : (p.swapTables n).lines = p.lines := by
  simp only [Part.swapTables]; split <;> rfl
@[simp] theorem Part.swapTables_supply (n : Half) (p : Part) : (p.swapTables n).supply = p.supply := by
  simp only [Part.swapTables]; split <;> rfl
@[simp] theorem Part.swapTables_power (n : Half) (p : Part) : (p.swapTables n).power = p.power := by
  simp only [Part.swapTables]; split <;> rfl
@[simp] theorem Part.swapTables_display (n : Half) (p : Part) : (p.swapTables n).display = p.display := by
  simp only [Part.swapTables]; split <;> rfl
@[simp] theorem Part.swapTables_now (n : Half) (p : Part) : (p.swapTables n).now = p.now := by
  simp only [Part.swapTables]; split <;> rfl
@[simp] theorem Part.swapTables_draws (n : Half) (p : Part) : (p.swapTables n).draws = p.draws := by
  simp only [Part.swapTables]; split <;> rfl
@[simp] theorem Part.swapTables_engine_buffers (n : Half) (p : Part) : (p.swapTables n).engine.buffers = p.engine.buffers := by
  simp only [Part.swapTables]; split <;> rfl
@[simp] theorem Part.swapTables_engine_inflight (n : Half) (p : Part) : (p.swapTables n).engine.inflight = p.engine.inflight := by
  simp only [Part.swapTables]; split <;> rfl
@[simp] theorem Part.swapTables_engine_slot (n : Half) (p : Part) : (p.swapTables n).engine.slot = p.engine.slot := by
  simp only [Part.swapTables]; split <;> rfl
@[simp] theorem Part.swapTables_engine_previous (n : Half) (p : Part) : (p.swapTables n).engine.previous = p.engine.previous := by
  simp only [Part.swapTables]; split <;> rfl

@[simp] theorem Part.compose_link (n : Half) (stale : Nat) (first : Bool) (b : Fin 3) (p : Part) : (p.compose n stale first b).link = p.link := by
  rfl
@[simp] theorem Part.compose_pace (n : Half) (stale : Nat) (first : Bool) (b : Fin 3) (p : Part) : (p.compose n stale first b).pace = p.pace := by
  rfl
@[simp] theorem Part.compose_height (n : Half) (stale : Nat) (first : Bool) (b : Fin 3) (p : Part) : (p.compose n stale first b).height = p.height := by
  rfl
@[simp] theorem Part.compose_loader (n : Half) (stale : Nat) (first : Bool) (b : Fin 3) (p : Part) : (p.compose n stale first b).loader = p.loader := by
  rfl
@[simp] theorem Part.compose_store (n : Half) (stale : Nat) (first : Bool) (b : Fin 3) (p : Part) : (p.compose n stale first b).store = p.store := by
  rfl
@[simp] theorem Part.compose_lines (n : Half) (stale : Nat) (first : Bool) (b : Fin 3) (p : Part) : (p.compose n stale first b).lines = p.lines := by
  rfl
@[simp] theorem Part.compose_supply (n : Half) (stale : Nat) (first : Bool) (b : Fin 3) (p : Part) : (p.compose n stale first b).supply = p.supply := by
  rfl
@[simp] theorem Part.compose_power (n : Half) (stale : Nat) (first : Bool) (b : Fin 3) (p : Part) : (p.compose n stale first b).power = p.power := by
  rfl
@[simp] theorem Part.compose_display (n : Half) (stale : Nat) (first : Bool) (b : Fin 3) (p : Part) : (p.compose n stale first b).display = p.display := by
  rfl
@[simp] theorem Part.compose_now (n : Half) (stale : Nat) (first : Bool) (b : Fin 3) (p : Part) : (p.compose n stale first b).now = p.now := by
  rfl
@[simp] theorem Part.compose_draws (n : Half) (stale : Nat) (first : Bool) (b : Fin 3) (p : Part) : (p.compose n stale first b).draws = p.draws := by
  rfl
@[simp] theorem Part.compose_balancer_gains (n : Half) (stale : Nat) (first : Bool) (b : Fin 3) (p : Part) : (p.compose n stale first b).balancer.gains = p.balancer.gains := by
  rfl
@[simp] theorem Part.compose_balancer_enable (n : Half) (stale : Nat) (first : Bool) (b : Fin 3) (p : Part) : (p.compose n stale first b).balancer.enable = p.balancer.enable := by
  rfl
@[simp] theorem Part.compose_balancer_k (n : Half) (stale : Nat) (first : Bool) (b : Fin 3) (p : Part) : (p.compose n stale first b).balancer.k = p.balancer.k := by
  rfl
@[simp] theorem Part.compose_engine_tiles (n : Half) (stale : Nat) (first : Bool) (b : Fin 3) (p : Part) : (p.compose n stale first b).engine.tiles = p.engine.tiles := by
  rfl
@[simp] theorem Part.compose_engine_previous (n : Half) (stale : Nat) (first : Bool) (b : Fin 3) (p : Part) : (p.compose n stale first b).engine.previous = p.engine.previous := by
  rfl

@[simp] theorem Part.tryStart_pace (p : Part) : (p.tryStart).pace = p.pace := by
  simp only [Part.tryStart]; split <;> simp
@[simp] theorem Part.tryStart_height (p : Part) : (p.tryStart).height = p.height := by
  simp only [Part.tryStart]; split <;> simp
@[simp] theorem Part.tryStart_store (p : Part) : (p.tryStart).store = p.store := by
  simp only [Part.tryStart]; split <;> simp
@[simp] theorem Part.tryStart_lines (p : Part) : (p.tryStart).lines = p.lines := by
  simp only [Part.tryStart]; split <;> simp
@[simp] theorem Part.tryStart_supply (p : Part) : (p.tryStart).supply = p.supply := by
  simp only [Part.tryStart]; split <;> simp
@[simp] theorem Part.tryStart_power (p : Part) : (p.tryStart).power = p.power := by
  simp only [Part.tryStart]; split <;> simp
@[simp] theorem Part.tryStart_display (p : Part) : (p.tryStart).display = p.display := by
  simp only [Part.tryStart]; split <;> simp
@[simp] theorem Part.tryStart_now (p : Part) : (p.tryStart).now = p.now := by
  simp only [Part.tryStart]; split <;> simp
@[simp] theorem Part.tryStart_draws (p : Part) : (p.tryStart).draws = p.draws := by
  simp only [Part.tryStart]; split <;> simp
@[simp] theorem Part.tryStart_balancer_gains (p : Part) : (p.tryStart).balancer.gains = p.balancer.gains := by
  simp only [Part.tryStart]; split <;> simp
@[simp] theorem Part.tryStart_balancer_enable (p : Part) : (p.tryStart).balancer.enable = p.balancer.enable := by
  simp only [Part.tryStart]; split <;> simp
@[simp] theorem Part.tryStart_balancer_k (p : Part) : (p.tryStart).balancer.k = p.balancer.k := by
  simp only [Part.tryStart]; split <;> simp
@[simp] theorem Part.tryStart_engine_previous (p : Part) : (p.tryStart).engine.previous = p.engine.previous := by
  simp only [Part.tryStart]; split <;> simp

@[simp] theorem Part.gatherTest_height (p : Part) : (p.gatherTest).height = p.height := by
  simp only [Part.gatherTest]; repeat' split
  all_goals simp
@[simp] theorem Part.gatherTest_store (p : Part) : (p.gatherTest).store = p.store := by
  simp only [Part.gatherTest]; repeat' split
  all_goals simp
@[simp] theorem Part.gatherTest_lines (p : Part) : (p.gatherTest).lines = p.lines := by
  simp only [Part.gatherTest]; repeat' split
  all_goals simp
@[simp] theorem Part.gatherTest_supply (p : Part) : (p.gatherTest).supply = p.supply := by
  simp only [Part.gatherTest]; repeat' split
  all_goals simp
@[simp] theorem Part.gatherTest_power (p : Part) : (p.gatherTest).power = p.power := by
  simp only [Part.gatherTest]; repeat' split
  all_goals simp
@[simp] theorem Part.gatherTest_display (p : Part) : (p.gatherTest).display = p.display := by
  simp only [Part.gatherTest]; repeat' split
  all_goals simp
@[simp] theorem Part.gatherTest_now (p : Part) : (p.gatherTest).now = p.now := by
  simp only [Part.gatherTest]; repeat' split
  all_goals simp
@[simp] theorem Part.gatherTest_draws (p : Part) : (p.gatherTest).draws = p.draws := by
  simp only [Part.gatherTest]; repeat' split
  all_goals simp
@[simp] theorem Part.gatherTest_balancer_gains (p : Part) : (p.gatherTest).balancer.gains = p.balancer.gains := by
  simp only [Part.gatherTest]; repeat' split
  all_goals simp
@[simp] theorem Part.gatherTest_balancer_enable (p : Part) : (p.gatherTest).balancer.enable = p.balancer.enable := by
  simp only [Part.gatherTest]; repeat' split
  all_goals simp
@[simp] theorem Part.gatherTest_balancer_k (p : Part) : (p.gatherTest).balancer.k = p.balancer.k := by
  simp only [Part.gatherTest]; repeat' split
  all_goals simp
@[simp] theorem Part.gatherTest_engine_previous (p : Part) : (p.gatherTest).engine.previous = p.engine.previous := by
  simp only [Part.gatherTest]; repeat' split
  all_goals simp

@[simp] theorem Part.closeGather_pace (p : Part) : (p.closeGather).pace = p.pace := by
  simp only [Part.closeGather]; repeat' split
  all_goals simp
@[simp] theorem Part.closeGather_height (p : Part) : (p.closeGather).height = p.height := by
  simp only [Part.closeGather]; repeat' split
  all_goals simp
@[simp] theorem Part.closeGather_store (p : Part) : (p.closeGather).store = p.store := by
  simp only [Part.closeGather]; repeat' split
  all_goals simp
@[simp] theorem Part.closeGather_lines (p : Part) : (p.closeGather).lines = p.lines := by
  simp only [Part.closeGather]; repeat' split
  all_goals simp
@[simp] theorem Part.closeGather_supply (p : Part) : (p.closeGather).supply = p.supply := by
  simp only [Part.closeGather]; repeat' split
  all_goals simp
@[simp] theorem Part.closeGather_power (p : Part) : (p.closeGather).power = p.power := by
  simp only [Part.closeGather]; repeat' split
  all_goals simp
@[simp] theorem Part.closeGather_display (p : Part) : (p.closeGather).display = p.display := by
  simp only [Part.closeGather]; repeat' split
  all_goals simp
@[simp] theorem Part.closeGather_now (p : Part) : (p.closeGather).now = p.now := by
  simp only [Part.closeGather]; repeat' split
  all_goals simp
@[simp] theorem Part.closeGather_draws (p : Part) : (p.closeGather).draws = p.draws := by
  simp only [Part.closeGather]; repeat' split
  all_goals simp
@[simp] theorem Part.closeGather_balancer_gains (p : Part) : (p.closeGather).balancer.gains = p.balancer.gains := by
  simp only [Part.closeGather]; repeat' split
  all_goals simp
@[simp] theorem Part.closeGather_balancer_enable (p : Part) : (p.closeGather).balancer.enable = p.balancer.enable := by
  simp only [Part.closeGather]; repeat' split
  all_goals simp
@[simp] theorem Part.closeGather_balancer_k (p : Part) : (p.closeGather).balancer.k = p.balancer.k := by
  simp only [Part.closeGather]; repeat' split
  all_goals simp
@[simp] theorem Part.closeGather_engine_previous (p : Part) : (p.closeGather).engine.previous = p.engine.previous := by
  simp only [Part.closeGather]; repeat' split
  all_goals simp

@[simp] theorem Part.gatherDeadline_pace (m : Half) (p : Part) : (p.gatherDeadline m).pace = p.pace := by
  simp only [Part.gatherDeadline]; repeat' split
  all_goals simp
@[simp] theorem Part.gatherDeadline_height (m : Half) (p : Part) : (p.gatherDeadline m).height = p.height := by
  simp only [Part.gatherDeadline]; repeat' split
  all_goals simp
@[simp] theorem Part.gatherDeadline_store (m : Half) (p : Part) : (p.gatherDeadline m).store = p.store := by
  simp only [Part.gatherDeadline]; repeat' split
  all_goals simp
@[simp] theorem Part.gatherDeadline_lines (m : Half) (p : Part) : (p.gatherDeadline m).lines = p.lines := by
  simp only [Part.gatherDeadline]; repeat' split
  all_goals simp
@[simp] theorem Part.gatherDeadline_supply (m : Half) (p : Part) : (p.gatherDeadline m).supply = p.supply := by
  simp only [Part.gatherDeadline]; repeat' split
  all_goals simp
@[simp] theorem Part.gatherDeadline_power (m : Half) (p : Part) : (p.gatherDeadline m).power = p.power := by
  simp only [Part.gatherDeadline]; repeat' split
  all_goals simp
@[simp] theorem Part.gatherDeadline_display (m : Half) (p : Part) : (p.gatherDeadline m).display = p.display := by
  simp only [Part.gatherDeadline]; repeat' split
  all_goals simp
@[simp] theorem Part.gatherDeadline_now (m : Half) (p : Part) : (p.gatherDeadline m).now = p.now := by
  simp only [Part.gatherDeadline]; repeat' split
  all_goals simp
@[simp] theorem Part.gatherDeadline_draws (m : Half) (p : Part) : (p.gatherDeadline m).draws = p.draws := by
  simp only [Part.gatherDeadline]; repeat' split
  all_goals simp
@[simp] theorem Part.gatherDeadline_balancer_gains (m : Half) (p : Part) : (p.gatherDeadline m).balancer.gains = p.balancer.gains := by
  simp only [Part.gatherDeadline]; repeat' split
  all_goals simp
@[simp] theorem Part.gatherDeadline_balancer_enable (m : Half) (p : Part) : (p.gatherDeadline m).balancer.enable = p.balancer.enable := by
  simp only [Part.gatherDeadline]; repeat' split
  all_goals simp
@[simp] theorem Part.gatherDeadline_balancer_k (m : Half) (p : Part) : (p.gatherDeadline m).balancer.k = p.balancer.k := by
  simp only [Part.gatherDeadline]; repeat' split
  all_goals simp
@[simp] theorem Part.gatherDeadline_engine_previous (m : Half) (p : Part) : (p.gatherDeadline m).engine.previous = p.engine.previous := by
  simp only [Part.gatherDeadline]; repeat' split
  all_goals simp

@[simp] theorem Part.skipReady_ports (p : Part) : (p.skipReady).ports = p.ports := by
  simp only [Part.skipReady]; repeat' split
  all_goals simp
@[simp] theorem Part.skipReady_pace (p : Part) : (p.skipReady).pace = p.pace := by
  simp only [Part.skipReady]; repeat' split
  all_goals simp
@[simp] theorem Part.skipReady_engine (p : Part) : (p.skipReady).engine = p.engine := by
  simp only [Part.skipReady]; repeat' split
  all_goals simp
@[simp] theorem Part.skipReady_balancer (p : Part) : (p.skipReady).balancer = p.balancer := by
  simp only [Part.skipReady]; repeat' split
  all_goals simp
@[simp] theorem Part.skipReady_height (p : Part) : (p.skipReady).height = p.height := by
  simp only [Part.skipReady]; repeat' split
  all_goals simp
@[simp] theorem Part.skipReady_loader (p : Part) : (p.skipReady).loader = p.loader := by
  simp only [Part.skipReady]; repeat' split
  all_goals simp
@[simp] theorem Part.skipReady_store (p : Part) : (p.skipReady).store = p.store := by
  simp only [Part.skipReady]; repeat' split
  all_goals simp
@[simp] theorem Part.skipReady_lines (p : Part) : (p.skipReady).lines = p.lines := by
  simp only [Part.skipReady]; repeat' split
  all_goals simp
@[simp] theorem Part.skipReady_supply (p : Part) : (p.skipReady).supply = p.supply := by
  simp only [Part.skipReady]; repeat' split
  all_goals simp
@[simp] theorem Part.skipReady_power (p : Part) : (p.skipReady).power = p.power := by
  simp only [Part.skipReady]; repeat' split
  all_goals simp
@[simp] theorem Part.skipReady_display (p : Part) : (p.skipReady).display = p.display := by
  simp only [Part.skipReady]; repeat' split
  all_goals simp
@[simp] theorem Part.skipReady_now (p : Part) : (p.skipReady).now = p.now := by
  simp only [Part.skipReady]; repeat' split
  all_goals simp
@[simp] theorem Part.skipReady_draws (p : Part) : (p.skipReady).draws = p.draws := by
  simp only [Part.skipReady]; repeat' split
  all_goals simp

@[simp] theorem Part.gatherBoundary_pace (n : Half) (stale : Nat) (p : Part) : (p.gatherBoundary n stale).pace = p.pace := by
  simp only [Part.gatherBoundary]; split <;> simp
@[simp] theorem Part.gatherBoundary_height (n : Half) (stale : Nat) (p : Part) : (p.gatherBoundary n stale).height = p.height := by
  simp only [Part.gatherBoundary]; split <;> simp
@[simp] theorem Part.gatherBoundary_store (n : Half) (stale : Nat) (p : Part) : (p.gatherBoundary n stale).store = p.store := by
  simp only [Part.gatherBoundary]; split <;> simp
@[simp] theorem Part.gatherBoundary_lines (n : Half) (stale : Nat) (p : Part) : (p.gatherBoundary n stale).lines = p.lines := by
  simp only [Part.gatherBoundary]; split <;> simp
@[simp] theorem Part.gatherBoundary_supply (n : Half) (stale : Nat) (p : Part) : (p.gatherBoundary n stale).supply = p.supply := by
  simp only [Part.gatherBoundary]; split <;> simp
@[simp] theorem Part.gatherBoundary_power (n : Half) (stale : Nat) (p : Part) : (p.gatherBoundary n stale).power = p.power := by
  simp only [Part.gatherBoundary]; split <;> simp
@[simp] theorem Part.gatherBoundary_display (n : Half) (stale : Nat) (p : Part) : (p.gatherBoundary n stale).display = p.display := by
  simp only [Part.gatherBoundary]; split <;> simp
@[simp] theorem Part.gatherBoundary_now (n : Half) (stale : Nat) (p : Part) : (p.gatherBoundary n stale).now = p.now := by
  simp only [Part.gatherBoundary]; split <;> simp
@[simp] theorem Part.gatherBoundary_draws (n : Half) (stale : Nat) (p : Part) : (p.gatherBoundary n stale).draws = p.draws := by
  simp only [Part.gatherBoundary]; split <;> simp
@[simp] theorem Part.gatherBoundary_balancer_gains (n : Half) (stale : Nat) (p : Part) : (p.gatherBoundary n stale).balancer.gains = p.balancer.gains := by
  simp only [Part.gatherBoundary]; split <;> simp
@[simp] theorem Part.gatherBoundary_balancer_enable (n : Half) (stale : Nat) (p : Part) : (p.gatherBoundary n stale).balancer.enable = p.balancer.enable := by
  simp only [Part.gatherBoundary]; split <;> simp
@[simp] theorem Part.gatherBoundary_balancer_k (n : Half) (stale : Nat) (p : Part) : (p.gatherBoundary n stale).balancer.k = p.balancer.k := by
  simp only [Part.gatherBoundary]; split <;> simp
@[simp] theorem Part.gatherBoundary_engine_previous (n : Half) (stale : Nat) (p : Part) : (p.gatherBoundary n stale).engine.previous = p.engine.previous := by
  simp only [Part.gatherBoundary]; split <;> simp

/-- The run state, the settings and the trigger number are not changed by a gather that closes. -/
theorem Part.gatherTest_pace (p : Part) :
    p.gatherTest.pace = p.pace ∨ ∃ n, p.gatherTest.pace = p.pace.cancel n := by
  simp only [Part.gatherTest]
  split
  · split
    · next n _ _ _ => exact .inr ⟨n, by simp⟩
    · exact .inl rfl
  · exact .inl rfl

/-! ### What a composition start does to a port

Only the frame buffers and the READY list of a port can change. -/

theorem Port.select_spec (n : Half) (stale : Nat) (q : Port) :
    ∃ b r, q.select n stale = { q with buffers := b, ready := r } := by
  simp only [Port.select]
  split <;> exact ⟨_, _, rfl⟩

theorem Port.atStart_spec (n : Half) (stale : Nat) (q : Port) :
    ∃ b r, q.atStart n stale = { q with buffers := b, ready := r } := by
  simp only [Port.atStart]
  split
  · exact Port.select_spec n stale q
  · exact ⟨_, _, rfl⟩

/-- A composition start leaves the ports, or asks each of them. -/
theorem Part.tryStart_ports (p : Part) :
    p.tryStart.ports = p.ports ∨ ∃ n stale, p.tryStart.ports = mapAll p.ports (Port.atStart n stale) := by
  simp only [Part.tryStart]
  split
  · exact .inr ⟨_, _, by simp [Part.compose]; rfl⟩
  · exact .inl rfl

theorem Part.tryStart_port (p : Part) (i : Fin 4) :
    ∃ b r, p.tryStart.ports[i] = { p.ports[i] with buffers := b, ready := r } := by
  rcases p.tryStart_ports with h | ⟨n, stale, h⟩
  · exact ⟨_, _, by rw [h]⟩
  · rw [h, mapAll_get]
    exact Port.atStart_spec n stale _

theorem Part.gatherTest_ports (p : Part) :
    p.gatherTest.ports = p.ports ∨ ∃ n stale, p.gatherTest.ports = mapAll p.ports (Port.atStart n stale) := by
  simp only [Part.gatherTest]
  repeat' split
  · exact Part.tryStart_ports _
  · exact .inl rfl
  · exact .inl rfl

theorem Part.gatherTest_port (p : Part) (i : Fin 4) :
    ∃ b r, p.gatherTest.ports[i] = { p.ports[i] with buffers := b, ready := r } := by
  rcases p.gatherTest_ports with h | ⟨n, stale, h⟩
  · exact ⟨_, _, by rw [h]⟩
  · rw [h, mapAll_get]
    exact Port.atStart_spec n stale _

theorem Part.closeGather_ports (p : Part) :
    p.closeGather.ports = p.ports ∨ ∃ n stale, p.closeGather.ports = mapAll p.ports (Port.atStart n stale) := by
  simp only [Part.closeGather]
  split
  · exact Part.tryStart_ports _
  · exact .inl rfl

theorem Part.closeGather_port (p : Part) (i : Fin 4) :
    ∃ b r, p.closeGather.ports[i] = { p.ports[i] with buffers := b, ready := r } := by
  rcases p.closeGather_ports with h | ⟨n, stale, h⟩
  · exact ⟨_, _, by rw [h]⟩
  · rw [h, mapAll_get]
    exact Port.atStart_spec n stale _

/-- A change of port `i` is the change itself but for what a composition start does to the port. -/
theorem Part.changePort_port (i j : Fin 4) (f : Port → Port) (p : Part) :
    ∃ b r, (p.changePort i f).ports[j]
      = { (if i = j then f p.ports[j] else p.ports[j]) with buffers := b, ready := r } := by
  have key : (p.onPort i f).ports[j] = if i = j then f p.ports[j] else p.ports[j] := update_get _ _ _ _
  simp only [Part.changePort]
  split
  · exact ⟨_, _, key⟩
  · obtain ⟨b, r, h⟩ :=
      Part.gatherTest_port ((p.onPort i f).raise .cameraState [byte i.val, (p.onPort i f).ports[i].state.code]) j
    refine ⟨b, r, h.trans ?_⟩
    rw [← key]
    rfl

@[simp] theorem Part.changePort_height (i : Fin 4) (f : Port → Port) (p : Part) : (p.changePort i f).height = p.height := by
  simp only [Part.changePort]; split <;> simp
@[simp] theorem Part.changePort_store (i : Fin 4) (f : Port → Port) (p : Part) : (p.changePort i f).store = p.store := by
  simp only [Part.changePort]; split <;> simp
@[simp] theorem Part.changePort_lines (i : Fin 4) (f : Port → Port) (p : Part) : (p.changePort i f).lines = p.lines := by
  simp only [Part.changePort]; split <;> simp
@[simp] theorem Part.changePort_supply (i : Fin 4) (f : Port → Port) (p : Part) : (p.changePort i f).supply = p.supply := by
  simp only [Part.changePort]; split <;> simp
@[simp] theorem Part.changePort_power (i : Fin 4) (f : Port → Port) (p : Part) : (p.changePort i f).power = p.power := by
  simp only [Part.changePort]; split <;> simp
@[simp] theorem Part.changePort_display (i : Fin 4) (f : Port → Port) (p : Part) : (p.changePort i f).display = p.display := by
  simp only [Part.changePort]; split <;> simp
@[simp] theorem Part.changePort_now (i : Fin 4) (f : Port → Port) (p : Part) : (p.changePort i f).now = p.now := by
  simp only [Part.changePort]; split <;> simp
@[simp] theorem Part.changePort_draws (i : Fin 4) (f : Port → Port) (p : Part) : (p.changePort i f).draws = p.draws := by
  simp only [Part.changePort]; split <;> simp
@[simp] theorem Part.changePort_balancer_gains (i : Fin 4) (f : Port → Port) (p : Part) : (p.changePort i f).balancer.gains = p.balancer.gains := by
  simp only [Part.changePort]; split <;> simp
@[simp] theorem Part.changePort_balancer_enable (i : Fin 4) (f : Port → Port) (p : Part) : (p.changePort i f).balancer.enable = p.balancer.enable := by
  simp only [Part.changePort]; split <;> simp
@[simp] theorem Part.changePort_balancer_k (i : Fin 4) (f : Port → Port) (p : Part) : (p.changePort i f).balancer.k = p.balancer.k := by
  simp only [Part.changePort]; split <;> simp
@[simp] theorem Part.changePort_engine_previous (i : Fin 4) (f : Port → Port) (p : Part) : (p.changePort i f).engine.previous = p.engine.previous := by
  simp only [Part.changePort]; split <;> simp

/-! ### The lines following their outputs -/

@[simp] theorem Part.clearMismatch_ports (i : Fin 8) (p : Part) : (p.clearMismatch i).ports = p.ports := by
  simp only [Part.clearMismatch]; split <;> simp
@[simp] theorem Part.clearMismatch_pace (i : Fin 8) (p : Part) : (p.clearMismatch i).pace = p.pace := by
  simp only [Part.clearMismatch]; split <;> simp
@[simp] theorem Part.clearMismatch_engine (i : Fin 8) (p : Part) : (p.clearMismatch i).engine = p.engine := by
  simp only [Part.clearMismatch]; split <;> simp
@[simp] theorem Part.clearMismatch_balancer (i : Fin 8) (p : Part) : (p.clearMismatch i).balancer = p.balancer := by
  simp only [Part.clearMismatch]; split <;> simp
@[simp] theorem Part.clearMismatch_height (i : Fin 8) (p : Part) : (p.clearMismatch i).height = p.height := by
  simp only [Part.clearMismatch]; split <;> simp
@[simp] theorem Part.clearMismatch_loader (i : Fin 8) (p : Part) : (p.clearMismatch i).loader = p.loader := by
  simp only [Part.clearMismatch]; split <;> simp
@[simp] theorem Part.clearMismatch_store (i : Fin 8) (p : Part) : (p.clearMismatch i).store = p.store := by
  simp only [Part.clearMismatch]; split <;> simp
@[simp] theorem Part.clearMismatch_supply (i : Fin 8) (p : Part) : (p.clearMismatch i).supply = p.supply := by
  simp only [Part.clearMismatch]; split <;> simp
@[simp] theorem Part.clearMismatch_power (i : Fin 8) (p : Part) : (p.clearMismatch i).power = p.power := by
  simp only [Part.clearMismatch]; split <;> simp
@[simp] theorem Part.clearMismatch_display (i : Fin 8) (p : Part) : (p.clearMismatch i).display = p.display := by
  simp only [Part.clearMismatch]; split <;> simp
@[simp] theorem Part.clearMismatch_now (i : Fin 8) (p : Part) : (p.clearMismatch i).now = p.now := by
  simp only [Part.clearMismatch]; split <;> simp
@[simp] theorem Part.clearMismatch_draws (i : Fin 8) (p : Part) : (p.clearMismatch i).draws = p.draws := by
  simp only [Part.clearMismatch]; split <;> simp

@[simp] theorem Part.followLine_ports (before : Part) (i : Fin 8) (p : Part) : (Part.followLine before i p).ports = p.ports := by
  simp only [Part.followLine]; split <;> simp
@[simp] theorem Part.followLine_pace (before : Part) (i : Fin 8) (p : Part) : (Part.followLine before i p).pace = p.pace := by
  simp only [Part.followLine]; split <;> simp
@[simp] theorem Part.followLine_engine (before : Part) (i : Fin 8) (p : Part) : (Part.followLine before i p).engine = p.engine := by
  simp only [Part.followLine]; split <;> simp
@[simp] theorem Part.followLine_balancer (before : Part) (i : Fin 8) (p : Part) : (Part.followLine before i p).balancer = p.balancer := by
  simp only [Part.followLine]; split <;> simp
@[simp] theorem Part.followLine_height (before : Part) (i : Fin 8) (p : Part) : (Part.followLine before i p).height = p.height := by
  simp only [Part.followLine]; split <;> simp
@[simp] theorem Part.followLine_loader (before : Part) (i : Fin 8) (p : Part) : (Part.followLine before i p).loader = p.loader := by
  simp only [Part.followLine]; split <;> simp
@[simp] theorem Part.followLine_store (before : Part) (i : Fin 8) (p : Part) : (Part.followLine before i p).store = p.store := by
  simp only [Part.followLine]; split <;> simp
@[simp] theorem Part.followLine_supply (before : Part) (i : Fin 8) (p : Part) : (Part.followLine before i p).supply = p.supply := by
  simp only [Part.followLine]; split <;> simp
@[simp] theorem Part.followLine_power (before : Part) (i : Fin 8) (p : Part) : (Part.followLine before i p).power = p.power := by
  simp only [Part.followLine]; split <;> simp
@[simp] theorem Part.followLine_display (before : Part) (i : Fin 8) (p : Part) : (Part.followLine before i p).display = p.display := by
  simp only [Part.followLine]; split <;> simp
@[simp] theorem Part.followLine_now (before : Part) (i : Fin 8) (p : Part) : (Part.followLine before i p).now = p.now := by
  simp only [Part.followLine]; split <;> simp
@[simp] theorem Part.followLine_draws (before : Part) (i : Fin 8) (p : Part) : (Part.followLine before i p).draws = p.draws := by
  simp only [Part.followLine]; split <;> simp

@[simp] theorem Part.follow_ports (before : Part) (p : Part) : (before.follow p).ports = p.ports := by
  simp [Part.follow, eachLine]
@[simp] theorem Part.follow_pace (before : Part) (p : Part) : (before.follow p).pace = p.pace := by
  simp [Part.follow, eachLine]
@[simp] theorem Part.follow_engine (before : Part) (p : Part) : (before.follow p).engine = p.engine := by
  simp [Part.follow, eachLine]
@[simp] theorem Part.follow_balancer (before : Part) (p : Part) : (before.follow p).balancer = p.balancer := by
  simp [Part.follow, eachLine]
@[simp] theorem Part.follow_height (before : Part) (p : Part) : (before.follow p).height = p.height := by
  simp [Part.follow, eachLine]
@[simp] theorem Part.follow_loader (before : Part) (p : Part) : (before.follow p).loader = p.loader := by
  simp [Part.follow, eachLine]
@[simp] theorem Part.follow_store (before : Part) (p : Part) : (before.follow p).store = p.store := by
  simp [Part.follow, eachLine]
@[simp] theorem Part.follow_supply (before : Part) (p : Part) : (before.follow p).supply = p.supply := by
  simp [Part.follow, eachLine]
@[simp] theorem Part.follow_power (before : Part) (p : Part) : (before.follow p).power = p.power := by
  simp [Part.follow, eachLine]
@[simp] theorem Part.follow_display (before : Part) (p : Part) : (before.follow p).display = p.display := by
  simp [Part.follow, eachLine]
@[simp] theorem Part.follow_now (before : Part) (p : Part) : (before.follow p).now = p.now := by
  simp [Part.follow, eachLine]
@[simp] theorem Part.follow_draws (before : Part) (p : Part) : (before.follow p).draws = p.draws := by
  simp [Part.follow, eachLine]

/-- Line `j` after line `i` followed: only its mismatch count and flag can have changed. -/
theorem Part.followLine_line (before : Part) (i j : Fin 8) (p : Part) :
    ∃ n f, (Part.followLine before i p).lines.line[j] = { p.lines.line[j] with mismatch := n, flag := f } := by
  simp only [Part.followLine, Part.clearMismatch]
  by_cases h : i = j
  · subst h
    split
    · split <;> exact ⟨0, false, by simp⟩
    · exact ⟨_, _, rfl⟩
  · split
    · split <;> exact ⟨p.lines.line[j].mismatch, p.lines.line[j].flag, by simp [Fin.val_ne_of_ne h]⟩
    · exact ⟨_, _, rfl⟩

/-- Following changes nothing of a line but its mismatch count and flag. -/
theorem Part.follow_line (before p : Part) (j : Fin 8) :
    ∃ n f, (before.follow p).lines.line[j] = { p.lines.line[j] with mismatch := n, flag := f } := by
  have step : ∀ (i : Fin 8) (q : Part), (∃ n f, q.lines.line[j] = { p.lines.line[j] with mismatch := n, flag := f }) →
      ∃ n f, (Part.followLine before i q).lines.line[j] = { p.lines.line[j] with mismatch := n, flag := f } := by
    intro i q ⟨n, f, hq⟩
    obtain ⟨n', f', h⟩ := Part.followLine_line before i j q
    exact ⟨n', f', by rw [h, hq]⟩
  simp only [Part.follow, eachLine]
  exact step _ _ (step _ _ (step _ _ (step _ _ (step _ _ (step _ _ (step _ _ (step _ _ ⟨_, _, rfl⟩)))))))

/-- Following raises nothing but LINE_CHANGE. -/
theorem Part.follow_record (before p : Part) (k : EventKind) (hk : k ≠ .lineChange) :
    (before.follow p).link.record k = p.link.record k := by
  have step : ∀ (i : Fin 8) (q : Part), (Part.followLine before i q).link.record k = q.link.record k := by
    intro i q
    simp only [Part.followLine]
    split
    · simp only [Part.clearMismatch]
      split
      · have raised := Link.raise_record (q.onLine i fun l => { l with mismatch := 0, flag := false }).link .lineChange
          [byte i.val, 3] k.index
        rw [if_neg fun h => hk (EventKind.index_injective _ _ h).symm] at raised
        exact raised
      · rfl
    · rfl
  simp only [Part.follow, eachLine, step]

/-- A line whose pad drive has not changed is left as it is. -/
theorem Part.followLine_same (before : Part) (i : Fin 8) (p : Part) (h : before.driveChanged i p = false) :
    Part.followLine before i p = p := by
  simp [Part.followLine, h]

@[simp] theorem Part.clearMismatch_autoStart (i : Fin 8) (p : Part) : (p.clearMismatch i).lines.autoStart = p.lines.autoStart := by
  simp only [Part.clearMismatch]; split <;> simp
@[simp] theorem Part.followLine_autoStart (before : Part) (i : Fin 8) (p : Part) :
    (Part.followLine before i p).lines.autoStart = p.lines.autoStart := by
  simp only [Part.followLine]; split <;> simp
@[simp] theorem Part.follow_autoStart (before p : Part) : (before.follow p).lines.autoStart = p.lines.autoStart := by
  simp [Part.follow, eachLine]
@[simp] theorem Part.clearMismatch_filled (i : Fin 8) (p : Part) : (p.clearMismatch i).lines.filled = p.lines.filled := by
  simp only [Part.clearMismatch]; split <;> simp
@[simp] theorem Part.followLine_filled (before : Part) (i : Fin 8) (p : Part) :
    (Part.followLine before i p).lines.filled = p.lines.filled := by
  simp only [Part.followLine]; split <;> simp
@[simp] theorem Part.follow_filled (before p : Part) : (before.follow p).lines.filled = p.lines.filled := by
  simp [Part.follow, eachLine]
@[simp] theorem Part.clearMismatch_awaiting (i : Fin 8) (p : Part) :
    (p.clearMismatch i).lines.awaiting = p.lines.awaiting := by
  simp only [Part.clearMismatch]; split <;> simp
@[simp] theorem Part.followLine_awaiting (before : Part) (i : Fin 8) (p : Part) :
    (Part.followLine before i p).lines.awaiting = p.lines.awaiting := by
  simp only [Part.followLine]; split <;> simp
@[simp] theorem Part.follow_awaiting (before p : Part) : (before.follow p).lines.awaiting = p.lines.awaiting := by
  simp [Part.follow, eachLine]

/-! ### The run state, a boundary, an abandonment -/

@[simp] theorem Part.setRunState_engine (r : RunState) (p : Part) : (p.setRunState r).engine = p.engine := by
  simp [Part.setRunState]
@[simp] theorem Part.setRunState_balancer (r : RunState) (p : Part) : (p.setRunState r).balancer = p.balancer := by
  simp [Part.setRunState]
@[simp] theorem Part.setRunState_height (r : RunState) (p : Part) : (p.setRunState r).height = p.height := by
  simp [Part.setRunState]
@[simp] theorem Part.setRunState_loader (r : RunState) (p : Part) : (p.setRunState r).loader = p.loader := by
  simp [Part.setRunState]
@[simp] theorem Part.setRunState_store (r : RunState) (p : Part) : (p.setRunState r).store = p.store := by
  simp [Part.setRunState]
@[simp] theorem Part.setRunState_supply (r : RunState) (p : Part) : (p.setRunState r).supply = p.supply := by
  simp [Part.setRunState]
@[simp] theorem Part.setRunState_power (r : RunState) (p : Part) : (p.setRunState r).power = p.power := by
  simp [Part.setRunState]
@[simp] theorem Part.setRunState_display (r : RunState) (p : Part) : (p.setRunState r).display = p.display := by
  simp [Part.setRunState]
@[simp] theorem Part.setRunState_now (r : RunState) (p : Part) : (p.setRunState r).now = p.now := by
  simp [Part.setRunState]
@[simp] theorem Part.setRunState_draws (r : RunState) (p : Part) : (p.setRunState r).draws = p.draws := by
  simp [Part.setRunState]

@[simp] theorem Part.setRunState_pace (r : RunState) (p : Part) :
    (p.setRunState r).pace = { p.pace with runState := r } := by simp [Part.setRunState]
@[simp] theorem Part.setRunState_ports (r : RunState) (p : Part) :
    (p.setRunState r).ports = ({ p with pace := { p.pace with runState := r } }.syncWatchdogs).ports := by
  simp [Part.setRunState]

@[simp] theorem Part.enterStopped_engine (p : Part) : (p.enterStopped).engine = p.engine := by
  simp [Part.enterStopped]
@[simp] theorem Part.enterStopped_balancer (p : Part) : (p.enterStopped).balancer = p.balancer := by
  simp [Part.enterStopped]
@[simp] theorem Part.enterStopped_height (p : Part) : (p.enterStopped).height = p.height := by
  simp [Part.enterStopped]
@[simp] theorem Part.enterStopped_loader (p : Part) : (p.enterStopped).loader = p.loader := by
  simp [Part.enterStopped]
@[simp] theorem Part.enterStopped_store (p : Part) : (p.enterStopped).store = p.store := by
  simp [Part.enterStopped]
@[simp] theorem Part.enterStopped_supply (p : Part) : (p.enterStopped).supply = p.supply := by
  simp [Part.enterStopped]
@[simp] theorem Part.enterStopped_power (p : Part) : (p.enterStopped).power = p.power := by
  simp [Part.enterStopped]
@[simp] theorem Part.enterStopped_display (p : Part) : (p.enterStopped).display = p.display := by
  simp [Part.enterStopped]
@[simp] theorem Part.enterStopped_now (p : Part) : (p.enterStopped).now = p.now := by
  simp [Part.enterStopped]
@[simp] theorem Part.enterStopped_draws (p : Part) : (p.enterStopped).draws = p.draws := by
  simp [Part.enterStopped]

@[simp] theorem Part.forceStop_engine (p : Part) : (p.forceStop).engine = p.engine := by
  simp only [Part.forceStop]; split <;> simp
@[simp] theorem Part.forceStop_balancer (p : Part) : (p.forceStop).balancer = p.balancer := by
  simp only [Part.forceStop]; split <;> simp
@[simp] theorem Part.forceStop_height (p : Part) : (p.forceStop).height = p.height := by
  simp only [Part.forceStop]; split <;> simp
@[simp] theorem Part.forceStop_loader (p : Part) : (p.forceStop).loader = p.loader := by
  simp only [Part.forceStop]; split <;> simp
@[simp] theorem Part.forceStop_store (p : Part) : (p.forceStop).store = p.store := by
  simp only [Part.forceStop]; split <;> simp
@[simp] theorem Part.forceStop_supply (p : Part) : (p.forceStop).supply = p.supply := by
  simp only [Part.forceStop]; split <;> simp
@[simp] theorem Part.forceStop_power (p : Part) : (p.forceStop).power = p.power := by
  simp only [Part.forceStop]; split <;> simp
@[simp] theorem Part.forceStop_display (p : Part) : (p.forceStop).display = p.display := by
  simp only [Part.forceStop]; split <;> simp
@[simp] theorem Part.forceStop_now (p : Part) : (p.forceStop).now = p.now := by
  simp only [Part.forceStop]; split <;> simp
@[simp] theorem Part.forceStop_draws (p : Part) : (p.forceStop).draws = p.draws := by
  simp only [Part.forceStop]; split <;> simp

@[simp] theorem Part.abandon_link (p : Part) : (p.abandon).link = p.link := by
  simp only [Part.abandon]; split <;> simp
@[simp] theorem Part.abandon_pace (p : Part) : (p.abandon).pace = p.pace := by
  simp only [Part.abandon]; split <;> simp
@[simp] theorem Part.abandon_balancer (p : Part) : (p.abandon).balancer = p.balancer := by
  simp only [Part.abandon]; split <;> simp
@[simp] theorem Part.abandon_height (p : Part) : (p.abandon).height = p.height := by
  simp only [Part.abandon]; split <;> simp
@[simp] theorem Part.abandon_loader (p : Part) : (p.abandon).loader = p.loader := by
  simp only [Part.abandon]; split <;> simp
@[simp] theorem Part.abandon_store (p : Part) : (p.abandon).store = p.store := by
  simp only [Part.abandon]; split <;> simp
@[simp] theorem Part.abandon_lines (p : Part) : (p.abandon).lines = p.lines := by
  simp only [Part.abandon]; split <;> simp
@[simp] theorem Part.abandon_supply (p : Part) : (p.abandon).supply = p.supply := by
  simp only [Part.abandon]; split <;> simp
@[simp] theorem Part.abandon_power (p : Part) : (p.abandon).power = p.power := by
  simp only [Part.abandon]; split <;> simp
@[simp] theorem Part.abandon_display (p : Part) : (p.abandon).display = p.display := by
  simp only [Part.abandon]; split <;> simp
@[simp] theorem Part.abandon_now (p : Part) : (p.abandon).now = p.now := by
  simp only [Part.abandon]; split <;> simp
@[simp] theorem Part.abandon_draws (p : Part) : (p.abandon).draws = p.draws := by
  simp only [Part.abandon]; split <;> simp
@[simp] theorem Part.abandon_engine_slot (p : Part) : (p.abandon).engine.slot = p.engine.slot := by
  simp only [Part.abandon]; split <;> simp
@[simp] theorem Part.abandon_engine_tiles (p : Part) : (p.abandon).engine.tiles = p.engine.tiles := by
  simp only [Part.abandon]; split <;> simp
@[simp] theorem Part.abandon_engine_previous (p : Part) : (p.abandon).engine.previous = p.engine.previous := by
  simp only [Part.abandon]; split <;> simp
@[simp] theorem Part.abandon_engine_firstComposite (p : Part) : (p.abandon).engine.firstComposite = p.engine.firstComposite := by
  simp only [Part.abandon]; split <;> simp

@[simp] theorem Part.abandon_inflight (p : Part) : p.abandon.engine.inflight = none := by
  simp only [Part.abandon]
  split
  · assumption
  · simp

@[simp] theorem Part.startFrame_link (p : Part) : (p.startFrame).link = p.link := by
  simp only [Part.startFrame]
@[simp] theorem Part.startFrame_ports (p : Part) : (p.startFrame).ports = p.ports := by
  simp only [Part.startFrame]
@[simp] theorem Part.startFrame_pace (p : Part) : (p.startFrame).pace = p.pace := by
  simp only [Part.startFrame]
@[simp] theorem Part.startFrame_balancer (p : Part) : (p.startFrame).balancer = p.balancer := by
  simp only [Part.startFrame]
@[simp] theorem Part.startFrame_height (p : Part) : (p.startFrame).height = p.height := by
  simp only [Part.startFrame]
@[simp] theorem Part.startFrame_loader (p : Part) : (p.startFrame).loader = p.loader := by
  simp only [Part.startFrame]
@[simp] theorem Part.startFrame_store (p : Part) : (p.startFrame).store = p.store := by
  simp only [Part.startFrame]
@[simp] theorem Part.startFrame_lines (p : Part) : (p.startFrame).lines = p.lines := by
  simp only [Part.startFrame]
@[simp] theorem Part.startFrame_supply (p : Part) : (p.startFrame).supply = p.supply := by
  simp only [Part.startFrame]
@[simp] theorem Part.startFrame_power (p : Part) : (p.startFrame).power = p.power := by
  simp only [Part.startFrame]
@[simp] theorem Part.startFrame_now (p : Part) : (p.startFrame).now = p.now := by
  simp only [Part.startFrame]
@[simp] theorem Part.startFrame_draws (p : Part) : (p.startFrame).draws = p.draws := by
  simp only [Part.startFrame]
@[simp] theorem Part.startFrame_engine_slot (p : Part) : (p.startFrame).engine.slot = p.engine.slot := by
  simp only [Part.startFrame]; repeat' split
  all_goals rfl
@[simp] theorem Part.startFrame_engine_inflight (p : Part) : (p.startFrame).engine.inflight = p.engine.inflight := by
  simp only [Part.startFrame]; repeat' split
  all_goals rfl
@[simp] theorem Part.startFrame_engine_tiles (p : Part) : (p.startFrame).engine.tiles = p.engine.tiles := by
  simp only [Part.startFrame]; repeat' split
  all_goals rfl
@[simp] theorem Part.startFrame_engine_previous (p : Part) : (p.startFrame).engine.previous = p.engine.previous := by
  simp only [Part.startFrame]; repeat' split
  all_goals rfl
@[simp] theorem Part.startFrame_display_mode (p : Part) : (p.startFrame).display.mode = p.display.mode := by
  simp only [Part.startFrame]
@[simp] theorem Part.startFrame_display_held (p : Part) : (p.startFrame).display.held = p.display.held := by
  simp only [Part.startFrame]

@[simp] theorem Part.requestFrame_link (p : Part) : (p.requestFrame).link = p.link := by
  simp only [Part.requestFrame]; repeat' split
  all_goals simp
@[simp] theorem Part.requestFrame_ports (p : Part) : (p.requestFrame).ports = p.ports := by
  simp only [Part.requestFrame]; repeat' split
  all_goals simp
@[simp] theorem Part.requestFrame_pace (p : Part) : (p.requestFrame).pace = p.pace := by
  simp only [Part.requestFrame]; repeat' split
  all_goals simp
@[simp] theorem Part.requestFrame_balancer (p : Part) : (p.requestFrame).balancer = p.balancer := by
  simp only [Part.requestFrame]; repeat' split
  all_goals simp
@[simp] theorem Part.requestFrame_height (p : Part) : (p.requestFrame).height = p.height := by
  simp only [Part.requestFrame]; repeat' split
  all_goals simp
@[simp] theorem Part.requestFrame_loader (p : Part) : (p.requestFrame).loader = p.loader := by
  simp only [Part.requestFrame]; repeat' split
  all_goals simp
@[simp] theorem Part.requestFrame_store (p : Part) : (p.requestFrame).store = p.store := by
  simp only [Part.requestFrame]; repeat' split
  all_goals simp
@[simp] theorem Part.requestFrame_lines (p : Part) : (p.requestFrame).lines = p.lines := by
  simp only [Part.requestFrame]; repeat' split
  all_goals simp
@[simp] theorem Part.requestFrame_supply (p : Part) : (p.requestFrame).supply = p.supply := by
  simp only [Part.requestFrame]; repeat' split
  all_goals simp
@[simp] theorem Part.requestFrame_power (p : Part) : (p.requestFrame).power = p.power := by
  simp only [Part.requestFrame]; repeat' split
  all_goals simp
@[simp] theorem Part.requestFrame_now (p : Part) : (p.requestFrame).now = p.now := by
  simp only [Part.requestFrame]; repeat' split
  all_goals simp
@[simp] theorem Part.requestFrame_draws (p : Part) : (p.requestFrame).draws = p.draws := by
  simp only [Part.requestFrame]; repeat' split
  all_goals simp
@[simp] theorem Part.requestFrame_engine_slot (p : Part) : (p.requestFrame).engine.slot = p.engine.slot := by
  simp only [Part.requestFrame]; repeat' split
  all_goals simp
@[simp] theorem Part.requestFrame_engine_inflight (p : Part) : (p.requestFrame).engine.inflight = p.engine.inflight := by
  simp only [Part.requestFrame]; repeat' split
  all_goals simp
@[simp] theorem Part.requestFrame_engine_tiles (p : Part) : (p.requestFrame).engine.tiles = p.engine.tiles := by
  simp only [Part.requestFrame]; repeat' split
  all_goals simp
@[simp] theorem Part.requestFrame_engine_previous (p : Part) : (p.requestFrame).engine.previous = p.engine.previous := by
  simp only [Part.requestFrame]; repeat' split
  all_goals simp

@[simp] theorem Part.displayBoundary_link (m : PaceMode) (p : Part) : (p.displayBoundary m).link = p.link := by
  simp only [Part.displayBoundary]; split <;> simp
@[simp] theorem Part.displayBoundary_ports (m : PaceMode) (p : Part) : (p.displayBoundary m).ports = p.ports := by
  simp only [Part.displayBoundary]; split <;> simp
@[simp] theorem Part.displayBoundary_pace (m : PaceMode) (p : Part) : (p.displayBoundary m).pace = p.pace := by
  simp only [Part.displayBoundary]; split <;> simp
@[simp] theorem Part.displayBoundary_balancer (m : PaceMode) (p : Part) : (p.displayBoundary m).balancer = p.balancer := by
  simp only [Part.displayBoundary]; split <;> simp
@[simp] theorem Part.displayBoundary_height (m : PaceMode) (p : Part) : (p.displayBoundary m).height = p.height := by
  simp only [Part.displayBoundary]; split <;> simp
@[simp] theorem Part.displayBoundary_loader (m : PaceMode) (p : Part) : (p.displayBoundary m).loader = p.loader := by
  simp only [Part.displayBoundary]; split <;> simp
@[simp] theorem Part.displayBoundary_store (m : PaceMode) (p : Part) : (p.displayBoundary m).store = p.store := by
  simp only [Part.displayBoundary]; split <;> simp
@[simp] theorem Part.displayBoundary_lines (m : PaceMode) (p : Part) : (p.displayBoundary m).lines = p.lines := by
  simp only [Part.displayBoundary]; split <;> simp
@[simp] theorem Part.displayBoundary_supply (m : PaceMode) (p : Part) : (p.displayBoundary m).supply = p.supply := by
  simp only [Part.displayBoundary]; split <;> simp
@[simp] theorem Part.displayBoundary_power (m : PaceMode) (p : Part) : (p.displayBoundary m).power = p.power := by
  simp only [Part.displayBoundary]; split <;> simp
@[simp] theorem Part.displayBoundary_now (m : PaceMode) (p : Part) : (p.displayBoundary m).now = p.now := by
  simp only [Part.displayBoundary]; split <;> simp
@[simp] theorem Part.displayBoundary_draws (m : PaceMode) (p : Part) : (p.displayBoundary m).draws = p.draws := by
  simp only [Part.displayBoundary]; split <;> simp
@[simp] theorem Part.displayBoundary_engine_slot (m : PaceMode) (p : Part) : (p.displayBoundary m).engine.slot = p.engine.slot := by
  simp only [Part.displayBoundary]; split <;> simp
@[simp] theorem Part.displayBoundary_engine_inflight (m : PaceMode) (p : Part) : (p.displayBoundary m).engine.inflight = p.engine.inflight := by
  simp only [Part.displayBoundary]; split <;> simp
@[simp] theorem Part.displayBoundary_engine_tiles (m : PaceMode) (p : Part) : (p.displayBoundary m).engine.tiles = p.engine.tiles := by
  simp only [Part.displayBoundary]; split <;> simp
@[simp] theorem Part.displayBoundary_engine_previous (m : PaceMode) (p : Part) : (p.displayBoundary m).engine.previous = p.engine.previous := by
  simp only [Part.displayBoundary]; split <;> simp

@[simp] theorem Part.boundary_height (p : Part) : (p.boundary).height = p.height := by
  simp [Part.boundary]
@[simp] theorem Part.boundary_store (p : Part) : (p.boundary).store = p.store := by
  simp [Part.boundary]
@[simp] theorem Part.boundary_supply (p : Part) : (p.boundary).supply = p.supply := by
  simp [Part.boundary]
@[simp] theorem Part.boundary_power (p : Part) : (p.boundary).power = p.power := by
  simp [Part.boundary]
@[simp] theorem Part.boundary_now (p : Part) : (p.boundary).now = p.now := by
  simp [Part.boundary]
@[simp] theorem Part.boundary_draws (p : Part) : (p.boundary).draws = p.draws := by
  simp [Part.boundary]
@[simp] theorem Part.boundary_balancer_gains (p : Part) : (p.boundary).balancer.gains = p.balancer.gains := by
  simp [Part.boundary]
@[simp] theorem Part.boundary_balancer_enable (p : Part) : (p.boundary).balancer.enable = p.balancer.enable := by
  simp [Part.boundary]
@[simp] theorem Part.boundary_balancer_k (p : Part) : (p.boundary).balancer.k = p.balancer.k := by
  simp [Part.boundary]

@[simp] theorem Part.boundary_pace (p : Part) : p.boundary.pace = p.pace.boundary p.now := by simp [Part.boundary]

end Sys2Proof.Machine
end

