-- ==== Sys2Proof/Laws/Gather.lean ====
section
/-! SUPPORT. What the shared operations of composition, display and loader do, each said once in the terms of
Safety.lean: a composition start, the all-present test, a frame request, a set request. -/

namespace Sys2Proof.Machine

/-! ### Composite buffers -/

/-- With no buffer WRITING and one at most in each other state, one is FREE, and the lowest such is found (R77). -/
theorem Engine.free_found (e : Engine) (none : ∀ b : Fin 3, e.buffers[b].state ≠ .writing)
    (apart : ∀ a b : Fin 3, e.buffers[a].state ≠ .free → e.buffers[a].state = e.buffers[b].state → a = b) :
    ∃ b : Fin 3, e.find? .free = some b ∧ e.buffers[b].state = .free
      ∧ ∀ c : Fin 3, c < b → e.buffers[c].state ≠ .free := by
  have hfind : ∀ b : Fin 3, e.buffers[b].state = .free → (∀ c : Fin 3, c < b → e.buffers[c].state ≠ .free) →
      ∃ b : Fin 3, e.find? .free = some b ∧ e.buffers[b].state = .free
        ∧ ∀ c : Fin 3, c < b → e.buffers[c].state ≠ .free := fun b hb hl =>
    ⟨b, find_lowest _ b (by simpa using hb) fun c hc => by simpa using hl c hc, hb, hl⟩
  by_cases f0 : e.buffers[(0 : Fin 3)].state = .free
  · exact hfind 0 f0 fun c hc => absurd hc (by simp)
  by_cases f1 : e.buffers[(1 : Fin 3)].state = .free
  · exact hfind 1 f1 fun c hc => by
      obtain rfl : c = 0 := by omega
      exact f0
  refine hfind 2 ?_ fun c hc => by
    obtain rfl | rfl : c = 0 ∨ c = 1 := by omega
    · exact f0
    · exact f1
  apply Classical.byContradiction
  intro f2
  have two : ∀ b : Fin 3, e.buffers[b].state ≠ .free → e.buffers[b].state = .done ∨ e.buffers[b].state = .shown := by
    intro b hb
    have hw := none b
    generalize e.buffers[b].state = st at hb hw
    cases st <;> simp at hb hw ⊢
  have u01 := apart 0 1 f0
  have u02 := apart 0 2 f0
  have u12 := apart 1 2 f1
  rcases two 0 f0 with h0 | h0 <;> rcases two 1 f1 with h1 | h1 <;> rcases two 2 f2 with h2 | h2 <;>
    first
    | exact absurd (u01 (h0.trans h1.symm)) (by decide)
    | exact absurd (u02 (h0.trans h2.symm)) (by decide)
    | exact absurd (u12 (h1.trans h2.symm)) (by decide)

/-! ### A composition start -/

/-- A group is active in the groups of a part exactly as its lines say (R145). -/
theorem Part.groups_iff (p : Part) (g : Fin 4) :
    p.groups[g] = true ↔ ∃ i : Fin 8,
      p.lines.line[i].config.out = false ∧ p.lines.line[i].config.role = .occlude g
        ∧ p.lines.line[i].debounced = some p.lines.line[i].config.active := by
  have same : p.groups[g] = p.groupActive g := by match g with | 0 | 1 | 2 | 3 => rfl
  rw [same]
  simp only [Part.groupActive, Lines.anyAsserted, List.any_eq_true, Line.asserted]
  constructor
  · rintro ⟨i, _, h⟩
    simp at h
    exact ⟨i, h.1.1.1, h.2, h.1.2⟩
  · rintro ⟨i, h1, h2, h3⟩
    exact ⟨i, List.mem_finRange i, by rw [h1, h2, h3]; simp⟩

/-- A camera is present exactly when its port is asked and has an eligible buffer (R24, R63). -/
theorem Port.presentFor_iff (n : Half) (stale : Nat) (q : Port) :
    q.presentFor n stale = true ↔
      (q.state = .live ∨ q.state = .stalled) ∧ ∃ b ∈ q.ready, (n - q.buffers[b].tag).toNat ≤ stale := by
  simp only [Port.presentFor, Port.asked, Port.newestEligible, Bool.and_eq_true, Bool.or_eq_true, beq_iff_eq]
  refine and_congr_right fun _ => ?_
  have mem : ∀ b, b ∈ q.ready.filter (fun b => tagEligible n stale q.buffers[b].tag) ↔
      b ∈ q.ready ∧ (n - q.buffers[b].tag).toNat ≤ stale := fun b => by simp [tagEligible]
  constructor
  · intro h
    obtain ⟨b, hb⟩ := Option.isSome_iff_exists.1 h
    exact ⟨b, (mem b).1 (List.mem_of_getLast? hb)⟩
  · rintro ⟨b, hb⟩
    have hm := (mem b).2 hb
    cases hf : q.ready.filter fun b => tagEligible n stale q.buffers[b].tag with
    | nil => rw [hf] at hm; cases hm
    | cons => simp

/-- A composition start, as `State.Composes` says. -/
theorem Part.tryStart_composes (s : State) (n : Half) (stale : Nat) (b : Fin 3) (hs : s.engine.slot = .ready n stale)
    (hi : s.engine.inflight = none) (hb : s.engine.find? .free = some b) (hf : s.engine.buffers[b].state = .free)
    (hl : ∀ c : Fin 3, c < b → s.engine.buffers[c].state ≠ .free) :
    State.Composes n stale s { s with toPart := s.toPart.tryStart } := by
  have start : s.toPart.tryStart = (s.toPart.swapTables n).compose n stale s.loader.state.isStaged b := by
    simp only [Part.tryStart, hs, hi, hb]
  have idle : (∀ k, s.loader.state ≠ .staged k) → s.toPart.swapTables n = s.toPart := by
    intro h
    unfold Part.swapTables
    split
    · next k e => exact absurd e (h k)
    · rfl
  have port : ∀ (st : Nat) (q : Port), (q.atStart n st).state = q.state ∧ (q.atStart n st).power = q.power
      ∧ (q.atStart n st).timer = q.timer ∧ (q.atStart n st).attempts = q.attempts := by
    intro st q
    simp only [Port.atStart]
    split
    · simp only [Port.select, Port.freeAll]; split <;> exact ⟨rfl, rfl, rfl, rfl⟩
    · exact ⟨rfl, rfl, rfl, rfl⟩
  rw [start]
  refine ⟨rfl, ⟨_, rfl, rfl, ?_, ?_, ?_, ?_, ?_, ?_, ?_, ?_⟩, ?_, ⟨b, hf, hl, ?_, ?_, ?_⟩, ?_, ?_, ?_, ?_, ?_, ?_⟩
  · simp [Part.latch]
  · simp only [Part.latch, Part.swapTables]; split <;> rfl
  · simp only [Part.latch, Part.swapTables]; split <;> rfl
  · simp only [Part.latch, Part.swapTables]; split <;> rfl
  · intro g
    show (s.toPart.swapTables n).groups[g] = true ↔ _
    rw [Part.groups_iff]
    simp
  · intro k hk
    refine ⟨by rw [hk]; rfl, ?_⟩
    show (s.toPart.swapTables n).loader.activeSet = _
    simp only [Part.swapTables, hk]
    rfl
  · intro h
    refine ⟨?_, ?_⟩
    · cases hst : s.loader.state <;> first | rfl | exact absurd hst (h _)
    · show (s.toPart.swapTables n).loader.activeSet = _
      rw [idle h]; rfl
  · intro i
    show (Vector.ofFn fun i : Fin 4 => (s.toPart.swapTables n).ports[i].presentFor n stale)[i] = true ↔ _
    rw [Fin.getElem_fin, Vector.getElem_ofFn, Part.swapTables_ports]
    exact Port.presentFor_iff n stale _
  · simp [Part.compose]
  · simp [Part.compose]
  · simp [Part.compose]
  · intro c hc
    have apart : ¬ b.val = c.val := fun e => hc (Fin.ext e.symm)
    simp [Part.compose, apart]
  · simp [Part.compose]
  · simp only [Part.compose, Part.swapTables]; split <;> rfl
  · intro i
    have e : ((s.toPart.swapTables n).compose n stale s.loader.state.isStaged b).ports[i] = s.ports[i].atStart n stale := by
      simp [Part.compose]
    show (Part.ports _)[i].state = _ ∧ _
    rw [e]
    exact port stale _
  · intro k hk
    refine ⟨?_, ?_⟩
    · simp only [Part.compose, Part.swapTables, hk]
      rfl
    · simp only [Part.compose, Part.swapTables, hk]
      have raised := Link.raise_record s.link .setSwitched ([byte k.val, setOrNone s.loader.activeSet] ++ le16 n.toNat)
        EventKind.setSwitched.index
      rw [if_pos rfl] at raised
      show (Link.record (s.link.raise _ _) _).pending = true
      rw [Link.record, raised]
      rfl
  · intro h
    rw [idle h]
    exact ⟨rfl, rfl⟩
  · simp only [Part.compose, Part.swapTables]
    split <;> rfl

/-! ### The all-present test -/

/-- The condition of the test, computed (R58). -/
theorem Part.allPresent_iff (p : Part) (n : Half) : p.allPresent n = true ↔ p.AllPresent n := by
  have each : ∀ i : Fin 4,
      (p.ports[i].state != .live || p.ports[i].hasReady n) = true ↔
        (p.ports[i].state = .live → ∃ b ∈ p.ports[i].ready, p.ports[i].buffers[b].tag = n) := by
    intro i
    simp only [Port.hasReady, Bool.or_eq_true, bne_iff_ne, List.any_eq_true, beq_iff_eq]
    exact Decidable.imp_iff_not_or.symm
  simp only [Part.allPresent, Part.AllPresent, Bool.and_eq_true, List.any_eq_true, List.all_eq_true, each,
    List.mem_finRange, true_and, forall_const, beq_iff_eq]

/-- The deadline cancelled, if it was armed for the trigger (R43). -/
theorem Pace.cancel_eq (n : Half) (t : Pace) :
    t.cancel n = if t.deadline.map (fun d => d.trigger) = some n then { t with deadline := none } else t := by
  simp only [Pace.cancel]
  split
  · next d e => simp [e]
  · next e => simp [e]

/-- The all-present test, as `State.Tested` says. -/
theorem State.gathered_tested (s : State) : s.Tested s.gathered := by
  constructor
  · intro n stale hs present closed
    have test : s.gathered = { closed with toPart := closed.toPart.tryStart } := by
      simp only [State.gathered, Part.gatherTest, hs, (Part.allPresent_iff _ n).2 present, if_true, Pace.cancel_eq]
      rfl
    refine ⟨fun busy => ?_, fun idle sound => ?_⟩
    · rw [test]
      have : closed.toPart.tryStart = closed.toPart := by
        simp only [Part.tryStart]
        split
        · next e _ => exact absurd e busy
        · rfl
      rw [this]
    · rw [test]
      obtain ⟨b, hb, hf, hl⟩ := closed.engine.free_found (sound.2.1.1 idle) sound.1
      exact Part.tryStart_composes closed n stale b rfl idle hb hf hl
  · intro h
    have : s.toPart.gatherTest = s.toPart := by
      simp only [Part.gatherTest]
      split
      · next n stale e => rw [if_neg fun c => h n stale e ((Part.allPresent_iff _ n).1 c)]
      · rfl
    rw [State.gathered, this]

/-! ### A frame request -/

/-- With at most one buffer in a state but FREE, the one in it is found (R77). -/
theorem Engine.find_only (e : Engine) (st : CompositeState) (b : Fin 3) (hb : e.buffers[b].state = st)
    (only : ∀ c : Fin 3, e.buffers[c].state = st → c = b) : e.find? st = some b :=
  find_lowest _ b (by simpa using hb) fun c hc => by
    simp only [beq_eq_false_iff_ne]
    intro h
    have := only c h
    omega

/-- With no buffer in a state, none is found. -/
theorem Engine.find_absent (e : Engine) (st : CompositeState) (h : ∀ b : Fin 3, e.buffers[b].state ≠ st) :
    e.find? st = none := find_none _ fun c => by simpa using h c

/-- The status line is one line of the bus: 640 words (R171, R177). -/
theorem Part.statusLine_length (p : Part) : p.statusLine.length = 1280 := by
  simp only [Part.statusLine, List.length_append, List.length_replicate, List.length_map, List.length_finRange,
    List.length_cons, List.length_nil, List.length_flatMap, le32, le16]
  simp [List.finRange]

/-- The engine after a display frame start (R173). -/
theorem Part.startFrame_engine (p : Part) : p.startFrame.engine =
    if p.takesDone then { p.engine with buffers := mapAll p.engine.buffers CompositeBuffer.show } else p.engine := rfl

/-- The repeat count after a display frame start (R173). -/
theorem Part.startFrame_repeats (p : Part) :
    p.startFrame.display.repeats = if p.takesDone then 0 else bump255 p.display.repeats := rfl

/-- The frozen mark after a display frame start (R174). -/
theorem Part.startFrame_frozen (p : Part) :
    p.startFrame.display.frozen = if p.takesDone then false else p.display.frozen := rfl

/-- What taking the DONE buffer does to each (R173). -/
theorem CompositeBuffer.show_eq (b : CompositeBuffer) :
    b.show = if b.state = .done then { b with state := .shown }
      else if b.state = .shown then { b with state := .free, record := none } else b := by
  cases h : b.state <;> simp [CompositeBuffer.show, h]

/-- The same, of every buffer at once. -/
theorem Engine.shown_buffers (e : Engine) (b : Fin 3) :
    ({ e with buffers := mapAll e.buffers CompositeBuffer.show } : Engine).buffers[b] = e.buffers[b].show := by
  simp only [mapAll, Fin.getElem_fin, Vector.getElem_ofFn]

/-- A display frame start, as `State.ShowsFrame` says. -/
theorem Part.startFrame_shows (s : State) : s.ShowsFrame { s with toPart := s.toPart.startFrame } := by
  have content : ∀ b, s.toPart.startFrame.engine.find? .shown = b →
      (match s.toPart.startFrame.engine.find? .shown with
      | some b => DisplayContent.composite b
      | none => .void s.toPart.startFrame.engine.void) =
        match b with | some b => .composite b | none => .void s.toPart.startFrame.engine.void := by
    rintro b rfl; rfl
  refine ⟨_, rfl, rfl, Part.statusLine_length _, rfl, rfl, rfl, rfl, ?_, ?_, ?_, ?_⟩
  · intro b hl hb sound
    have only : ∀ c : Fin 3, s.engine.buffers[c].state = .done → c = b := fun c hc =>
      sound.1 c b (by rw [hc]; decide) (hc.trans hb.symm)
    have takes : s.toPart.takesDone = true := by simp [Part.takesDone, hl, s.engine.find_only _ b hb only]
    have he : s.toPart.startFrame.engine =
        { s.engine with buffers := mapAll s.engine.buffers CompositeBuffer.show } := by
      rw [Part.startFrame_engine, takes]; rfl
    have hs : s.toPart.startFrame.engine.find? .shown = some b := by
      rw [he]
      refine Engine.find_only _ _ b ?_ fun c hc => only c ?_
      · rw [Engine.shown_buffers, CompositeBuffer.show_eq, if_pos hb]
      · rw [Engine.shown_buffers, CompositeBuffer.show_eq] at hc
        split at hc
        · assumption
        · split at hc
          · cases hc
          · next h => exact absurd hc h
    refine ⟨content _ hs, ?_, ?_, ?_, fun c hc => ?_⟩
    · exact (Part.startFrame_repeats s.toPart).trans (by rw [takes]; rfl)
    · exact (Part.startFrame_frozen s.toPart).trans (by rw [takes]; rfl)
    · show s.toPart.startFrame.engine.buffers[b] = _
      rw [he, Engine.shown_buffers, CompositeBuffer.show_eq, if_pos hb]
    · show s.toPart.startFrame.engine.buffers[c].state = _ ∧ s.toPart.startFrame.engine.buffers[c].record = _
      rw [he, Engine.shown_buffers, CompositeBuffer.show_eq, if_neg (by rw [hc]; decide), if_pos hc]
      exact ⟨rfl, rfl⟩
  · intro h
    have takes : s.toPart.takesDone = false := by
      rcases h with h | h
      · simp [Part.takesDone, h]
      · simp [Part.takesDone, s.engine.find_absent _ h]
    have he : s.toPart.startFrame.engine = s.engine := by rw [Part.startFrame_engine, takes]; rfl
    refine ⟨he, ?_, ?_, fun b hb sound => ?_, fun h => ?_⟩
    · exact (Part.startFrame_repeats s.toPart).trans (by rw [takes]; rfl)
    · exact (Part.startFrame_frozen s.toPart).trans (by rw [takes]; rfl)
    · exact content (some b) (by
        rw [he]
        exact s.engine.find_only _ b hb fun c hc => sound.1 c b (by rw [hc]; decide) (hc.trans hb.symm))
    · exact (content none (by rw [he]; exact s.engine.find_absent _ h)).trans (by rw [he])
  · intro b hb
    show s.toPart.startFrame.engine.buffers[b] = _
    rw [Part.startFrame_engine]
    split
    · rw [Engine.shown_buffers, CompositeBuffer.show_eq, if_neg, if_neg]
      · rcases hb with hb | hb <;> rw [hb] <;> decide
      · rcases hb with hb | hb <;> rw [hb] <;> decide
    · rfl
  · show { { s with toPart := s.toPart.startFrame } with
      engine := { s.toPart.startFrame.engine with buffers := s.engine.buffers }, display := s.display } = s
    rw [Part.startFrame_engine]
    split <;> rfl

/-- A frame request, as `State.FrameRequested` says (R172). -/
theorem Part.requestFrame_requested (s : State) : s.FrameRequested { s with toPart := s.toPart.requestFrame } := by
  refine ⟨fun h => ?_, fun h busy => ?_, fun h idle => ?_⟩
  · simp only [Part.requestFrame, if_neg h]
  · simp only [Part.requestFrame, if_pos h]
    split
    · next e => exact absurd e busy
    · rfl
  · simp only [Part.requestFrame, if_pos h, idle]
    exact Part.startFrame_shows s

/-! ### A set request -/

/-- What the loader holds dropped, as `State.LoadDropped` says (R110). -/
theorem Part.dropLoad_dropped (s : State) : s.LoadDropped { s with toPart := s.toPart.dropLoad } := by
  refine ⟨rfl, fun j h => ?_, fun j start marks h hh => ?_, fun h => ?_⟩
  · simp only [Part.dropLoad, h, Store.withdrawLoader]
  · simp only [Part.dropLoad, h, Store.releaseLoader, hh, if_true]
  · rcases h with h | ⟨j, h⟩ <;> simp only [Part.dropLoad, h]

/-- A drop leaves the write session. -/
theorem Part.dropLoad_sessionOn (p : Part) (k : Fin 8) : p.dropLoad.store.sessionOn k = p.store.sessionOn k := by
  have same : p.dropLoad.store.session = p.store.session := by
    simp only [Part.dropLoad]
    split
    · rfl
    · simp only [Store.releaseLoader]; split <;> rfl
    · rfl
  simp only [Store.sessionOn, same]

/-- SET_UNUSABLE of a request that fails without a read, as statements spell it (R111, R113). -/
theorem Part.setUnusable_raised (k : Fin 8) (reason : Byte) (s : State) :
    ({ s with toPart := s.toPart.setUnusable k reason 0 none } : State) =
      let u := s.raised .setUnusable [BitVec.ofNat 8 k.val, reason, 0x00, 0xFF, 0xFF]
      if s.loader.activeSet = none then u.raised .noCalibration [BitVec.ofNat 8 k.val] else u := by
  have kept : (s.toPart.raise .setUnusable ([byte k.val, reason, 0] ++ le16OrNone none)).loader.activeSet
      = s.loader.activeSet := rfl
  simp only [Part.setUnusable, kept]
  cases s.loader.activeSet <;> rfl

/-- A set request, as `State.SetRequested` says (R110 to R113). -/
theorem Part.requestSet_requested (k : Fin 8) (s : State) :
    s.SetRequested k { s with toPart := s.toPart.requestSet k } := by
  refine ⟨fun h => ?_, fun h1 h2 => ?_, fun h1 h2 => ?_⟩
  · simp only [Part.requestSet, if_pos h]
    exact Part.dropLoad_dropped s
  · simp only [Part.requestSet, if_neg h1, if_pos h2]
  · have damaged : s.dropLoad.loader.damaged = s.loader.damaged := rfl
    have session := Part.dropLoad_sessionOn s.toPart k
    simp only [Part.requestSet, if_neg h1, if_neg h2]
    refine ⟨_, Part.dropLoad_dropped s, ⟨fun hk => ?_, fun hk hq => ?_⟩, fun hk hq => ⟨fun hn he => ?_, fun h => ?_⟩⟩
    · simp only [damaged, hk, if_true]
      exact Part.setUnusable_raised k 2 { s with toPart := s.toPart.dropLoad }
    · simp only [damaged, hk, session, hq, if_true, Bool.false_eq_true, if_false]
      exact Part.setUnusable_raised k 1 { s with toPart := s.toPart.dropLoad }
    · have free : s.dropLoad.store.flashFree = true := by
        simp only [Store.flashFree]
        rw [show s.dropLoad.store.holder = _ from hn, show s.dropLoad.store.line = _ from he]
        rfl
      simp only [damaged, hk, session, hq, Bool.false_eq_true, if_false, Part.askLoad, if_pos free]
      rfl
    · have busy : ¬ s.dropLoad.store.flashFree = true := by
        simp only [Store.flashFree, Bool.and_eq_true, beq_iff_eq, List.isEmpty_iff]
        rintro ⟨a, b⟩
        exact h.elim (· a) (· b)
      simp only [damaged, hk, session, hq, Bool.false_eq_true, if_false, Part.askLoad, if_neg busy]

end Sys2Proof.Machine
end

