-- ==== Sys2Proof/Laws/Height.lean ====
section
/-! SUPPORT. The filter of HGT: what four samples of a level do, and that samples which never run to four leave no trace
(R102). -/

namespace Sys2Proof.Machine

/-- The filter takes a run of samples. -/
def Height.samples (levels : List Bool) (h : Height) : Height := levels.foldl (fun h level => h.sample level) h

/-- Four samples of a level in a row make it the accepted level, whatever the filter held. -/
@[simp] theorem Height.fourSamples_spec (level : Bool) (t : Nat) (h : Height) :
    h.fourSamples level t
      = { h with accepted := some level, run := some { level := level, length := 4 }, filterSince := t } := by
  rcases hr : h.run with _ | ⟨l, n⟩
  · simp [Height.fourSamples, Height.sample, SampleRun.add, hr]
  · by_cases hl : l = level
    · simp only [Height.fourSamples, Height.sample, SampleRun.add, hr, hl, if_true,
        show min 4 (min 4 (min 4 (min 4 (n + 1) + 1) + 1) + 1) = 4 by omega]
    · simp [Height.fourSamples, Height.sample, SampleRun.add, hr, hl]

/-- A sample that reads the accepted level, after four that did, changes nothing. -/
theorem Height.sample_steady (level : Bool) (h : Height) (ha : h.accepted = some level)
    (hr : h.run = some { level := level, length := 4 }) : h.sample level = h := by
  cases h
  simp_all [Height.sample, SampleRun.add]

/-- A spike of one to three samples of the other level is not accepted, and four samples after it nothing of it is left. -/
theorem Height.spike_leaves_no_trace (level : Bool) (n : Nat) (h : Height) (ha : h.accepted = some level)
    (hr : h.run = some { level := level, length := 4 }) (hn : n ≤ 3) :
    (h.samples (List.replicate n (!level))).accepted = some level
      ∧ h.samples (List.replicate n (!level) ++ List.replicate 4 level) = h := by
  cases h
  obtain rfl | rfl | rfl | rfl : n = 0 ∨ n = 1 ∨ n = 2 ∨ n = 3 := by omega
  all_goals cases level <;> simp_all [Height.samples, Height.sample, SampleRun.add, List.replicate]

/-- When the filter can accept an edge: not stopped, from the other level, four samples after its last acceptance. -/
theorem Height.edgeTo_iff (level : Bool) (t : Nat) (h : Height) :
    h.edgeTo level t = true ↔ h.state ≠ .stopped ∧ h.accepted = some (!level) ∧ h.filterSince + 4 ≤ t := by
  simp only [Height.edgeTo, Height.mayAccept, Bool.and_eq_true, bne_iff_ne, decide_eq_true_eq, beq_iff_eq]
  exact ⟨fun ⟨⟨a, b⟩, c⟩ => ⟨a, c, b⟩, fun ⟨a, c, b⟩ => ⟨⟨a, b⟩, c⟩⟩

/-- What an accepted edge leaves: the clock at it, the filter on its level, the silence timer restarted. -/
theorem Part.acceptEdge_eq (level : Bool) (t : Nat) (p : Part) :
    p.acceptEdge level t
      = { p.at (t * 27) with height := { p.height with
            accepted := some level, run := some { level := level, length := 4 }, filterSince := t
            silence := some (max p.now (t * 27) + 540000) } } := by
  simp only [Part.acceptEdge, Part.acceptLevel, Height.fourSamples_spec]
  rfl

/-! ### The band decision -/

/-- A fresh decision is the number of boundaries in use at or below the mean. -/
theorem HeightConfig.freshBand_val (c : HeightConfig) (mean : Nat) :
    (c.freshBand mean).val = ([c.b1, c.b2, c.b3].take (c.bands - 1)).countP fun x => decide (x ≤ mean) := by
  simp only [HeightConfig.freshBand, HeightConfig.inUse, List.countP_eq_length_filter]
  have shorter := List.length_filter_le (fun b => decide (b ≤ mean)) ([c.b1, c.b2, c.b3].take (c.bands - 1))
  have three : ([c.b1, c.b2, c.b3].take (c.bands - 1)).length ≤ 3 := by
    rw [List.length_take]
    exact Nat.min_le_right _ _
  omega

end Sys2Proof.Machine
end

