-- ==== Sys2Proof/WellFormed.lean ====
section
/-! DEFINITION. Which commands a sender can send: the limits that the record formats and the converters put on the
operands. A request body is at most 256 bytes (R180); a VSENSE reading is 0..500 steps of 0.05 V (R156). The
meanings are total and do not rest on these checks. -/

namespace Sys2Proof

/-- Ports and lines of events are in range by their types. What is left are the lengths of lists, which the
256-byte body bounds, and the range of a reading. -/
def Instr.WellFormed : Instr → Bool
  | .eventConfigure _ pairs => decide (2 * pairs.length ≤ 256)
  | .storeData _ _ records => decide (3 + 40 * records.length ≤ 256)
  | .lineConfigure _ _ entries => decide (1 + 8 * entries.length ≤ 256)
  | .lineWrite _ pairs => decide (2 * pairs.length ≤ 256)
  | .supplyLow r => decide (r ≤ 500)
  | .supplyRestored r => decide (r ≤ 500)
  | .vsenseReading r => decide (r ≤ 500)
  | _ => true

end Sys2Proof
end

