-- ==== Sys2Proof/Tests/Slice0.lean ====
section
/-! SUPPORT. Tests: WellFormed refuses what cannot be sent; the worked cases of the manual; and, for every obligation
with hypotheses, a state and operands that meet them, clause by clause, at boundary values where a clause has a range. -/

namespace Sys2Proof.Tests

open Sys2Proof Sys2Proof.Machine

/-! ### WellFormed refuses -/

/-- A tile record of zeros: a VOID record in black. -/
def blankRecord : TileRecord := .ofBytes []

theorem test_wf_eventConfigure : Instr.WellFormed (.eventConfigure 0 (List.replicate 129 (1, 1))) = false := by decide +kernel
theorem test_wf_storeData : Instr.WellFormed (.storeData 0 0 (List.replicate 7 blankRecord)) = false := by decide
theorem test_wf_lineConfigure :
    Instr.WellFormed (.lineConfigure 0 0 (List.replicate 32 ⟨0, 0, 0, 0, 0, 1, 0, 0⟩)) = false := by decide
theorem test_wf_lineWrite : Instr.WellFormed (.lineWrite 0 (List.replicate 129 (0, 1))) = false := by decide +kernel
theorem test_wf_supplyLow : Instr.WellFormed (.supplyLow 501) = false := by decide
theorem test_wf_supplyRestored : Instr.WellFormed (.supplyRestored 501) = false := by decide
theorem test_wf_vsenseReading : Instr.WellFormed (.vsenseReading 501) = false := by decide
theorem test_wf_accepts :
    Instr.WellFormed (.storeData 0 0 (List.replicate 6 blankRecord)) = true
      ∧ Instr.WellFormed (.vsenseReading 500) = true := by decide

/-! ### States that tests start from -/

/-- The state a command leaves. -/
def after (s : State) (c : Instr) : State :=
  match exec c s with
  | .next t => t
  | _ => s

/-- In RUN with the scan ended, CAL_WE asserted, no camera powered, and room for every reply. -/
def calm : State :=
  { State.reset with
    power := { State.reset.power with state := .run }
    store := { State.reset.store with holder := .nobody, calSampled := some true, calDebounced := true } }

/-- `calm` in DOZE. -/
def dozing : State := { calm with power := { calm.power with state := .doze } }

/-- `calm` in PARKED, with link wake as given. -/
def parked (wake : Bool) : State :=
  { calm with
    power := { calm.power with state := .parked, linkWake := wake }
    height := calm.height.stop }

/-- `calm` with four records queued, the most R183 allows. -/
def full : State := { calm with link := { calm.link with queue := List.replicate 4 ⟨0x81, 0, []⟩ } }

/-- `calm` with port 0 changed. -/
def withPort (f : Port → Port) : State := { calm with ports := update calm.ports 0 f }

/-- `calm` with the loader in a state. -/
def withLoader (l : LoaderState) (standby : TileTable) : State :=
  { calm with loader := { calm.loader with state := l, standby := standby } }

/-- `calm` with a load of set `j` begun. -/
def loaderHas (j : Fin 8) : State :=
  { withLoader (.loading j 0 false) (.loading j) with store := { calm.store with holder := .loader } }

/-- `calm` with a store step in hand. -/
def withStep (k : StepKind) (phase : StepPhase) : State :=
  { calm with store := { calm.store with step := some { kind := k, phase := phase } } }

/-- `calm` with line 0 as given. -/
def withLine (f : Line → Line) : State := { calm with lines := { calm.lines with line := update calm.lines.line 0 f } }

/-- A session on set 0. -/
def session (phase : SessionPhase) (next row : Nat) : Session :=
  { phase := phase, set := 0, nextIndex := next, sum := 0, nextRow := row, eraseSector := 0 }

/-- `calm` with a session and a staging buffer of `n` bytes. -/
def withSession (x : Session) (n : Nat) : State :=
  { calm with store := { calm.store with session := some x, staging := List.replicate n 0 } }

/-- A composition in flight. -/
def inflight : Composition :=
  { trigger := 1, completion := 71680, present := #v[false, false, false, false], firstOfSet := false, next := []
    counts := { sampled := 0, blended := 0, held := 0, filled := 560 }
    latched := { set := none, gains := #v[1024, 1024, 1024, 1024], occlusion := #v[false, false, false, false], hold := 8
                 void := { y := 16, cb := 128, cr := 128 }, divider := 1 } }

/-- `calm` composing into buffer 0. -/
def composing : State :=
  { calm with engine := { calm.engine with
      inflight := some inflight
      buffers := update calm.engine.buffers 0 fun b => { b with state := .writing } } }

/-- `calm` with a display frame in transfer. -/
def displaying (held : Bool) : State :=
  { calm with display := { calm.display with
      held := held, transfer := some { due := 574080, statusLine := [], content := .composite 0 } } }

/-- `calm` with the supply state and the two counts given. -/
def supplied (low : Bool) (lowCount restoreCount : Nat) : State :=
  { calm with supply := { calm.supply with low := low, lowCount := lowCount, restoreCount := restoreCount } }

/-! ### The worked cases of the manual -/

/-- The check value of R180. -/
theorem test_crc : crc [0x31, 0x32, 0x33, 0x34, 0x35, 0x36, 0x37, 0x38, 0x39] = 0x29B1 := by decide +kernel

/-- *One seam pixel*: the source position. -/
theorem test_seam_position :
    sourceX ⟨⟨6400, 8000⟩, ⟨6920, 8000⟩, ⟨6400, 8520⟩, ⟨6920, 8520⟩⟩ 8 4 = 6530
      ∧ sourceY ⟨⟨6400, 8000⟩, ⟨6920, 8000⟩, ⟨6400, 8520⟩, ⟨6920, 8520⟩⟩ 8 4 = 8065 := by decide

/-- *One seam pixel*: the blend weight, the gained lumas, the output luma and chroma. -/
theorem test_seam_values :
    mix 8 4 ⟨64, 48, 64, 48⟩ = 60 ∧ gainedLuma 101 1049 = 103 ∧ gainedLuma 97 1024 = 97 ∧ blend 60 103 97 = 103
      ∧ blend 60 120 124 = 120 ∧ blend 60 136 132 = 136 ∧ midSeam 60 = false := by decide

/-- *Positions at the frame edge*. -/
theorem test_edge_positions :
    clampEdge 1279 20460 = (1278, 1279, 12) ∧ clampEdge 959 15330 = (958, 959, 2) ∧ clampEdge 1279 20470 = (1279, 1279, 0)
      ∧ clampEdge 959 15350 = (959, 959, 0) ∧ clampEdge 1279 40000 = (1279, 1279, 0)
      ∧ clampEdge 959 8065 = (504, 505, 1) := by decide

/-- The longest and the shortest composition (R76). -/
theorem test_costs :
    totalCost (List.replicate 560 (.blended 0 1)) = 4300800 ∧ totalCost (List.replicate 560 .filled) = 286720 := by
  decide +kernel

/-- *Seam Balancing*, the first update: the statistics of composite k. -/
def seamCase : Vector ZoneStats 4 :=
  #v[{ sumA := 2457600, sumB := 2048000, count := 20480 }, .zero, .zero,
    { sumA := 1980000, sumB := 2160000, count := 18000 }]

/-- *Seam Balancing*, the first update. -/
theorem test_first_balance :
    (Balancer.atReset.update 1 #v[1024, 1024, 1024, 1024] seamCase).gains = #v[1008, 1049, 1024, 1035] := by decide

/-- *Seam Balancing*, the next update, with a host write to camera 3 in between. -/
theorem test_next_balance :
    ({ Balancer.atReset with gains := #v[1008, 1049, 1024, 1100], written := #v[false, false, false, true] }.update 2
      #v[1008, 1049, 1024, 1035] seamCase).gains = #v[996, 1068, 1024, 1100] := by decide

/-- `calm` TRACKING in band 1 with a window given, an active edge held at 0 and a pulse of `active` µs measured. -/
def tracking (window : List Nat) (band : Fin 4) (active : Nat) : State :=
  { calm with height := { calm.height with
      state := .tracking, band := some band, window := window, heldEdge := some 0, activeTime := active
      accepted := some false } }

/-- *A band crossed with hysteresis*: 502 keeps band 1, 512 takes band 2, 493 keeps band 2, 478 takes band 1. -/
theorem test_band_up :
    (after (tracking [480, 480, 480, 480, 480, 480, 520, 540] 1 1120) (.hgtActiveEdge 2000)).height.band = some 1
      ∧ (after (tracking [480, 480, 480, 480, 480, 520, 540, 560] 1 1120) (.hgtActiveEdge 2000)).height.band = some 2 := by
  decide
theorem test_band_down :
    (after (tracking [520, 540, 560, 560, 500, 470, 450, 440] 2 860) (.hgtActiveEdge 2000)).height.band = some 2
      ∧ (after (tracking [540, 560, 560, 500, 470, 450, 440, 430] 2 840) (.hgtActiveEdge 2000)).height.band = some 1 := by
  decide

/-- The pace's default period and deadline (R42, R43). -/
theorem test_default_period :
    PaceSettings.atReset.period = 900000 ∧ PaceSettings.atReset.deadlineOffset = 720000 := by decide

/-! ### Requests, byte by byte -/

theorem test_port_clamped :
    (after calm (.portConfigure 7 0 2009 39 9)).link.slot
      = some (.reply { kind := 0x90, tag := 7, body := [1, 0, 0xD0, 7, 40, 0, 3] }) := by decide
theorem test_port_settle_tens :
    (after calm (.portConfigure 7 3 19 200 2)).link.slot
      = some (.reply { kind := 0x90, tag := 7, body := [1, 3, 10, 0, 200, 0, 2] }) := by decide
theorem test_pace_floor :
    (after calm (.paceConfigure 1 16 1 0 80 1)).pace.inForce.reload = 42187
      ∧ (after calm (.paceConfigure 1 64 1 0 80 1)).pace.inForce.reload = 10546 := by decide
theorem test_pace_start : (after calm (.paceStart 1)).pace.trigger = 1 ∧ (after calm (.paceStart 1)).pace.parity = true := by
  decide
theorem test_identify_length :
    (after calm (.identify 9)).link.slot.map (fun o => o.frame.body.length) = some 8 := by decide
theorem test_unknown_port : (after calm (.portPower 5 4 1)).link.slot
    = some (.reply { kind := 0x91, tag := 5, body := [4] }) := by decide
theorem test_store_not_enabled :
    (after { calm with store := { calm.store with calDebounced := false } } (.storeOpen 2 0)).link.slot
      = some (.reply { kind := 0xB8, tag := 2, body := [9] }) := by decide
theorem test_store_ill_formed :
    (after (withSession (session .receiving 0 4) 0) (.storeData 3 0 [{ blankRecord with hold := 1 }])).link.slot
      = some (.reply { kind := 0xB9, tag := 3, body := [5, 0, 0] }) := by decide
theorem test_height_too_close :
    (after calm (.heightConfigure 3
      { polarity := 1, bands := 3, b1 := 300, b2 := 320, b3 := 0, hysteresis := 10, map0 := 0, map1 := 1, map2 := 2
        map3 := 3, mode := 0 })).link.slot = some (.reply { kind := 0xB0, tag := 3, body := [4] }) := by decide
theorem test_supply_threshold :
    (after calm (.supplyConfigure 3 77)).link.slot
      = some (.reply { kind := 0xCA, tag := 3, body := [1, 75, 0, 0xFF, 0xFF] }) := by decide
theorem test_overrun_clamp :
    (after calm (.balanceSetGain 3 1 4096)).link.slot
      = some (.reply { kind := 0xA9, tag := 3, body := [1, 1, 0, 8] }) := by decide

/-- A role that changes restarts the mismatch check though the pad level stays LOW (R152). -/
theorem test_configure_restarts :
    let s : State := { calm with lines := { calm.lines with line := update calm.lines.line 7 fun l =>
      { l with config := { l.config with out := true, attr := .plain }, mismatch := 1 } } }
    s.intended 7 = false
      ∧ (after s (.lineConfigure 1 0 [⟨7, 1, 2, 0, 7, 1, 0, 0⟩])).intended 7 = false
      ∧ (after s (.lineConfigure 1 0 [⟨7, 1, 2, 0, 7, 1, 0, 0⟩])).lines.line[7].mismatch = 0
      ∧ (after s (.lineConfigure 1 0 [⟨7, 1, 2, 0, 0, 1, 0, 0⟩])).lines.line[7].mismatch = 1 := by decide

/-! ### Tile records (R14) -/

/-- A SEAM record of cameras 1 and 2 with the weights given. -/
def seamRecord (camA camB : BitVec 4) (w : Byte) : TileRecord :=
  { blankRecord with kind := 2, camA := camA, camB := camB, hold := 255, weights := ⟨w, w, w, w⟩ }

theorem test_records_accepted :
    blankRecord.wellFormed = true ∧ (seamRecord 1 2 64).wellFormed = true ∧ (seamRecord 0 3 0).wellFormed = true := by decide
theorem test_records_refused :
    (seamRecord 1 3 64).wellFormed = false ∧ (seamRecord 1 2 65).wellFormed = false
      ∧ { seamRecord 1 2 64 with hold := 61 }.wellFormed = false ∧ { blankRecord with kind := 4 }.wellFormed = false := by
  decide

/-! ### Events -/

theorem test_second_low_reading :
    (after { calm with supply := { calm.supply with lowCount := 1 } } (.vsenseReading 139)).supply.low = true
      ∧ (after { calm with supply := { calm.supply with lowCount := 1 } } (.vsenseReading 140)).supply.low = false := by
  decide
theorem test_period_end_boundary :
    (after (after calm (.paceStart 1)) .periodEnd).pace.trigger = 2
      ∧ (after (after calm (.paceStart 1)) .periodEnd).now = 900000 := by decide
theorem test_deadline_composes :
    (after (after calm (.paceStart 1)) .deadlineExpiry).now = 720000
      ∧ (after (after calm (.paceStart 1)) .deadlineExpiry).engine.inflight.map (fun x => x.completion)
        = some 791680 := by decide +kernel

/-! ### Witnesses of the statements about the machine as a whole -/

/-- `calm` with a request waiting. -/
def waiting : State := { calm with pending := [.identify 1] }

theorem witness_CommandsLeaveQueue : exec .softReset calm = .next calm := by rfl
theorem witness_step : step waiting = .next (after { waiting with pending := [] } (.identify 1)) := by rfl
theorem witness_StepKeepsLink : waiting.link.Settled ∧ waiting.link.RecordsOk := by
  unfold Link.Settled Link.RecordsOk PendingRecord.Ok; decide
theorem witness_StepKeepsPorts : waiting.PortsPowered ∧ waiting.FramesOk := by
  constructor
  · intro i; match i with | 0 => rfl | 1 => rfl | 2 => rfl | 3 => rfl
  · unfold Part.FramesOk Port.BuffersOk; decide
theorem witness_StepKeepsQuietOutsideRun : ({ dozing with pending := [.identify 1] } : State).QuietOutsideRun := by
  unfold Part.QuietOutsideRun; decide
theorem witness_StepKeepsCompositeBuffers :
    ({ composing with pending := [.identify 1] } : State).engine.BuffersOk
      ∧ ({ composing with pending := [.identify 1] } : State).engine.NoIdleWait :=
  ⟨by unfold Engine.BuffersOk; decide, fun _ _ h => by cases h⟩
theorem witness_StepKeepsSettings : waiting.pace.Ok ∧ waiting.balancer.Ok ∧ waiting.supply.Ok := by
  refine ⟨⟨by unfold PaceSettings.Ok; decide, by unfold PaceSettings.Ok; decide, fun _ => ⟨0, rfl⟩, fun _ => rfl⟩, ?_, ?_⟩
  · unfold Balancer.Ok; decide
  · unfold Supply.Ok; decide
theorem witness_StepKeepsHeight : waiting.height.Ok ∧ waiting.HeightFollowsPower := by
  unfold Height.Ok Part.HeightFollowsPower; decide
theorem witness_StepKeepsFlashForm : Memory.wf 0xFF waiting.store.flash := by decide

/-- A session on set 0 in CLOSING whose complete mark is being programmed, with a request waiting. -/
def closing : State :=
  { calm with
    pending := [.identify 1]
    store := { calm.store with
      session := some (session .closing 560 92), holder := .store
      step := some { kind := .completeMark 0 0, phase := .running 40500 } } }

theorem witness_StepKeepsArbiter : closing.ArbiterOk ∧ closing.loader.StandbyOk ∧ closing.SessionApart := by
  refine ⟨⟨?_, ?_, ?_, ?_, ?_⟩, rfl, ?_⟩
  · exact ⟨fun h => (by cases h), fun ⟨_, _, _, h⟩ => (by cases h)⟩
  · decide
  · exact ⟨fun h => (by cases h), fun ⟨_, h⟩ => (by cases h)⟩
  · exact ⟨fun h => (by cases h), fun ⟨_, h⟩ => (by cases h)⟩
  · decide
  · intro x h; cases h; rfl
theorem witness_StepSparesLockedSets :
    Memory.wf 0xFF closing.store.flash ∧ closing.store.SparesLocked ∧ closing.store.SessionOk := by
  refine ⟨by decide, ⟨?_, ?_, ?_, ?_⟩, ?_, ?_, ?_, ?_⟩
  · intro x h; cases h; rfl
  · intro x h; cases h; rfl
  · intro h; cases h
  · intro _ _ h; cases h
  · decide
  · intro x h; cases h; unfold Session.Ok; decide
  · intro _ _ _ h; cases h
  · intro _ _ h; cases h
theorem witness_StepKeepsLines : waiting.LinesOk := by unfold Part.LinesOk Line.Ok; decide
theorem witness_FrameRoundTrip :
    (0x7E : Byte) ≠ 0 ∧ (0x7E : Byte).toNat < 0x7F ∧ (List.replicate 256 (0 : Byte)).length ≤ 256 := by decide +kernel
theorem witness_TileRecordRoundTrip : (List.replicate 40 (0xA5 : Byte)).length = 40 := by simp

/-! ### Witnesses of the statements about requests -/

theorem witness_IdentifyReply : calm.Takes 0x01 ∧ (parked true).Takes 0x01 := by unfold State.Takes; decide
theorem witness_RequestArrival :
    (full.power.inReset = false ∧ 4 ≤ (full.awake 0x01).link.queue.length)
      ∧ (calm.power.state ≠ .parked ∧ (parked false).power.linkWake = false)
      ∧ (parked true).power.state = .parked ∧ (parked true).power.linkWake = true := by decide
theorem witness_StatusReply : calm.Takes 0x02 := by unfold State.Takes; decide
theorem witness_ReadRequests :
    (calm.Takes 0x3E ∧ (calm.awake 0x3E).store.scanning = false)
      ∧ (State.reset.Takes 0x3E ∧ (State.reset.awake 0x3E).store.scanning = true)
      ∧ (calm.Takes 0x3F ∧ 559 < 560) ∧ calm.Takes 0x41 := by unfold State.Takes; decide

/-- `calm` with a RESET waiting. -/
def resetting : State := { calm with link := { calm.link with resetWait := .replyWaiting } }

theorem witness_ResetRequest :
    (resetting.Takes 0x03 ∧ (resetting.awake 0x03).link.resetWait ≠ .clear)
      ∧ (calm.Takes 0x03 ∧ (calm.awake 0x03).link.resetWait = .clear
        ∧ ∀ k, (calm.awake 0x03).store.step ≠ some { kind := k, phase := .pending })
      ∧ ((withStep (.lockMark 0) .pending).Takes 0x03
        ∧ ((withStep (.lockMark 0) .pending).awake 0x03).link.resetWait = .clear
        ∧ ((withStep (.lockMark 0) .pending).awake 0x03).store.step
          = some { kind := .lockMark 0, phase := .pending }) := by
  unfold State.Takes
  exact ⟨by decide, ⟨by decide, by decide, fun k h => by cases h⟩, by decide⟩
theorem witness_EventRequests :
    (calm.Takes 0x04 ∧ ([(0x01, 4), (0x12, 0)] : List (Byte × Byte)).map (fun x => kind? x.1)
        = [EventKind.cameraState, .replyOverrun].map some
      ∧ [EventKind.cameraState, .replyOverrun] ≠ [] ∧ [EventKind.cameraState, .replyOverrun].Nodup
      ∧ (EventKind.code .cameraState, 4) ∈ ([(0x01, 4), (0x12, 0)] : List (Byte × Byte))
      ∧ EventKind.woken ∉ [EventKind.cameraState, .replyOverrun])
      ∧ (kind? 0x13 = none ∧ kind? 0 = none
        ∧ ¬ (([(1, 1), (1, 2)] : List (Byte × Byte)).map fun x => kind? x.1).Nodup)
      ∧ (calm.Takes 0x05 ∧ (262143 : BitVec 24).toNat < 2 ^ 18 ∧ 2 ^ 18 ≤ (262144 : BitVec 24).toNat) := by
  unfold State.Takes; decide

/-- `calm` with port 0 in STANDBY, its camera as given. -/
def standby (power : Bool) : State := withPort fun q => { q with state := .standby, power := power }

/-- `calm` with port 0 in WAITING. -/
def watched : State := withPort fun q => { q with state := .waiting, power := true }

theorem witness_PortConfigure :
    (calm.Takes 0x10 ∧ (3 : Byte) = BitVec.ofNat 8 (3 : Fin 4).val ∧ (calm.awake 0x10).ports[3].state ≠ .standby)
      ∧ ((standby true).Takes 0x10 ∧ (0 : Byte) = BitVec.ofNat 8 (0 : Fin 4).val
        ∧ ((standby true).awake 0x10).ports[0].state = .standby)
      ∧ 4 ≤ (4 : Byte).toNat := by unfold State.Takes; decide
theorem witness_PortPower :
    (calm.Takes 0x11 ∧ (calm.awake 0x11).ports[0].state = .off ∧ (calm.awake 0x11).ports[0].power = false
        ∧ (calm.awake 0x11).power.state ≠ .parked)
      ∧ (watched.Takes 0x11 ∧ (watched.awake 0x11).ports[0].state ≠ .off
        ∧ (watched.awake 0x11).ports[0].state ≠ .failed ∧ (watched.awake 0x11).ports[0].state ≠ .standby
        ∧ (watched.awake 0x11).power.state ≠ .parked)
      ∧ ((parked false).Takes 0x11 ∧ ((parked false).awake 0x11).ports[0].state ≠ .standby
        ∧ ((parked false).awake 0x11).power.state = .parked)
      ∧ ((standby true).Takes 0x11 ∧ ((standby true).awake 0x11).ports[0].state = .standby ∧ (1 : Byte).toNat < 2) := by
  unfold State.Takes; decide
theorem witness_PortStandby :
    (watched.Takes 0x12 ∧ (watched.awake 0x12).ports[0].state ≠ .standby ∧ (watched.awake 0x12).power.state ≠ .parked)
      ∧ ((standby true).Takes 0x12 ∧ ((standby true).awake 0x12).ports[0].state = .standby
        ∧ ((standby true).awake 0x12).ports[0].power = true ∧ ((standby true).awake 0x12).power.state ≠ .parked)
      ∧ ((standby false).Takes 0x12 ∧ ((standby false).awake 0x12).ports[0].state = .standby
        ∧ ((standby false).awake 0x12).ports[0].power = false)
      ∧ ((parked false).Takes 0x12 ∧ ((parked false).awake 0x12).power.state = .parked) := by
  unfold State.Takes; decide
theorem witness_PaceConfigure :
    (calm.Takes 0x18 ∧ ((16 : Byte) = 16 ∨ (16 : Byte) = 64) ∧ (1 : Byte) = PaceMode.single.code)
      ∧ (0 : Byte) ≠ 16 ∧ (0 : Byte) ≠ 64 := by unfold State.Takes; decide

/-- `calm` with the pace in a run state. -/
def paced (r : RunState) : State := { calm with pace := { calm.pace with runState := r, counter := .counting 0 } }

theorem witness_PaceRequests :
    (calm.Takes 0x19 ∧ (calm.awake 0x19).power.state = .run ∧ (calm.awake 0x19).pace.runState = .stopped)
      ∧ ((paced .stopping).Takes 0x19 ∧ ((paced .stopping).awake 0x19).power.state = .run
        ∧ ((paced .stopping).awake 0x19).pace.runState = .stopping)
      ∧ ((paced .running).Takes 0x19 ∧ ((paced .running).awake 0x19).power.state = .run
        ∧ ((paced .running).awake 0x19).pace.runState = .running)
      ∧ (dozing.Takes 0x19 ∧ (dozing.awake 0x19).power.state ≠ .run)
      ∧ ((paced .running).Takes 0x1A ∧ ((paced .running).awake 0x1A).pace.runState = .running)
      ∧ (calm.Takes 0x1A ∧ (calm.awake 0x1A).pace.runState ≠ .running)
      ∧ ((paced .running).Takes 0x1B ∧ ((paced .running).awake 0x1B).pace.runState ≠ .stopped)
      ∧ (calm.Takes 0x1B ∧ (calm.awake 0x1B).pace.runState = .stopped) := by unfold State.Takes; decide
theorem witness_ComposeAndBalanceConfigure :
    (calm.Takes 0x20 ∧ ((4 : Byte) = 1 ∨ (4 : Byte) = 2 ∨ (4 : Byte) = 4))
      ∧ ((3 : Byte) ≠ 1 ∧ (3 : Byte) ≠ 2 ∧ (3 : Byte) ≠ 4)
      ∧ (calm.Takes 0x28 ∧ (1 : Byte).toNat < 2 ∧ 2 ≤ (2 : Byte).toNat) := by unfold State.Takes; decide
theorem witness_BalanceGains : calm.Takes 0x29 ∧ 4 ≤ (4 : Byte).toNat ∧ calm.Takes 0x2A := by unfold State.Takes; decide

/-- The arguments of HEIGHT_CONFIGURE: three bands with boundaries 1 and b2, and hysteresis 50. -/
def heightArgs (polarity mode : Byte) (b2 : Half) : HeightArgs :=
  { polarity := polarity, bands := 3, b1 := 0, b2 := b2, b3 := 0, hysteresis := 255, map0 := 7, map1 := 0, map2 := 1
    map3 := 2, mode := mode }

theorem witness_HeightConfigure :
    (calm.Takes 0x30 ∧ (calm.awake 0x30).height.state ≠ .tracking ∧ (calm.awake 0x30).height.band = none
        ∧ (calm.awake 0x30).height.config.polarity = ((heightArgs 1 0 102).polarity == 1)
        ∧ (calm.awake 0x30).height.config.polarity ≠ ((heightArgs 0 0 102).polarity == 1)
        ∧ (calm.awake 0x30).height.state ≠ .stopped)
      ∧ ((heightArgs 1 0 102).polarity.toNat < 2 ∧ (heightArgs 0 0 102).polarity.toNat < 2
        ∧ (heightArgs 1 0 102).mode.toNat < 2 ∧ (heightArgs 1 1 102).mode = 1
        ∧ 1 ≤ (heightArgs 1 0 102).bands.toNat ∧ (heightArgs 1 0 102).bands.toNat ≤ 4
        ∧ (heightArgs 1 0 102).map0 = BitVec.ofNat 8 (7 : Fin 8).val
        ∧ (heightArgs 1 0 102).map1 = BitVec.ofNat 8 (0 : Fin 8).val
        ∧ (heightArgs 1 0 102).map2 = BitVec.ofNat 8 (1 : Fin 8).val
        ∧ (heightArgs 1 0 102).map3 = BitVec.ofNat 8 (2 : Fin 8).val)
      ∧ min 999 (max 1 (heightArgs 1 0 102).b1.toNat) + 2 * min 50 (heightArgs 1 0 102).hysteresis.toNat + 1
        ≤ min 999 (max 1 (heightArgs 1 0 102).b2.toNat)
      ∧ ¬ (min 999 (max 1 (heightArgs 1 0 101).b1.toNat) + 2 * min 50 (heightArgs 1 0 101).hysteresis.toNat + 1
        ≤ min 999 (max 1 (heightArgs 1 0 101).b2.toNat))
      ∧ (2 ≤ (heightArgs 2 0 102).polarity.toNat ∧ 8 ≤ ({ heightArgs 1 0 102 with map3 := 8 }).map3.toNat) := by
  unfold State.Takes; decide

/-- `calm` TRACKING in the band given with the mean 480. -/
def settled (band : Fin 4) : State :=
  { calm with height := { calm.height with
      state := .tracking, band := some band, lastMean := some 480, window := List.replicate 8 480 } }

/-- Of the boundaries 1 and 102 both are at most 480, so the fresh band is 2: kept from 2, changed from 1; the request
for its set finds the flash free, taken, and the set active; band 3 is not below the band count. -/
theorem witness_HeightConfigure_requests :
    ((settled 2).Takes 0x30 ∧ ((settled 2).awake 0x30).height.state = .tracking
        ∧ ((settled 2).awake 0x30).height.lastMean = some 480
        ∧ (2 : Fin 4).val = ([1, 102, 1].take 2).countP (fun y => decide (y ≤ 480))
        ∧ ((settled 2).awake 0x30).height.band = some 2 ∧ ((settled 1).awake 0x30).height.band ≠ some 2
        ∧ ((settled 2).awake 0x30).height.config.bands ≠ (heightArgs 1 0 102).bands.toNat)
      ∧ ((heightArgs 1 0 102).mode = 0 ∧ (2 : Fin 4).val < (heightArgs 1 0 102).bands.toNat
        ∧ (heightArgs 1 0 102).bands.toNat ≤ (3 : Fin 4).val)
      ∧ ((settled 2).loader.state = .idle ∧ (settled 2).loader.standby = .empty ∧ (settled 2).loader.activeSet ≠ some 1
        ∧ (settled 2).loader.damaged[1] = false ∧ (settled 2).store.sessionOn 1 = false
        ∧ (settled 2).store.holder = .nobody ∧ (settled 2).store.line = [])
      ∧ ({ settled 2 with store := closing.store } : State).store.holder ≠ .nobody
      ∧ ({ settled 2 with loader := { calm.loader with active := .holding 1 [] } } : State).loader.activeSet = some 1 := by
  unfold State.Takes; decide

/-- `calm` in MANUAL, where the directory shows set 7 COMPLETE. -/
def manual : State :=
  { calm with
    height := { calm.height with config := { calm.height.config with auto := false } }
    store := { calm.store with
      directory := update calm.store.directory 7 fun e => { e with openMark := .set, completeMark := .set } } }

theorem witness_SelectSet :
    (calm.Takes 0x31 ∧ (calm.awake 0x31).height.config.auto = true)
      ∧ (let scan : State := { manual with store := { manual.store with holder := .scan 43200 } }
        scan.Takes 0x31 ∧ (scan.awake 0x31).height.config.auto = false ∧ (scan.awake 0x31).store.scanning = true)
      ∧ (manual.Takes 0x31 ∧ (manual.awake 0x31).store.scanning = false
        ∧ (manual.awake 0x31).store.setState 0 ≠ .complete)
      ∧ (¬ ((manual.awake 0x31).store.setState 7 ≠ .complete ∨ (manual.awake 0x31).loader.damaged[7] = true
          ∨ (manual.awake 0x31).store.sessionOn 7 = true)
        ∧ (manual.awake 0x31).loader.state = .idle ∧ (manual.awake 0x31).loader.activeSet ≠ some 7
        ∧ (manual.awake 0x31).store.holder = .nobody ∧ (manual.awake 0x31).store.line = [])
      ∧ (let busy : State := { manual with store := { manual.store with
            holder := .store, step := some { kind := .lockMark 0, phase := .running 40500 } } }
        busy.Takes 0x31 ∧ (busy.awake 0x31).store.scanning = false ∧ (busy.awake 0x31).store.setState 7 = .complete
          ∧ (busy.awake 0x31).loader.state = .idle ∧ (busy.awake 0x31).store.holder ≠ .nobody)
      ∧ (let staged : State := { manual with loader := { manual.loader with
            active := .holding 7 [], state := .staged 6, standby := .holding 6 [] } }
        staged.Takes 0x31 ∧ (staged.awake 0x31).loader.activeSet = some 7
          ∧ (staged.awake 0x31).store.setState 7 = .complete ∧ (staged.awake 0x31).loader.damaged[7] = false
          ∧ (staged.awake 0x31).store.sessionOn 7 = false ∧ (staged.awake 0x31).store.scanning = false
          ∧ (staged.awake 0x31).loader.state = .staged 6) := by
  unfold State.Takes; decide

/-- `manual` with the loader in a state that holds set `j`, and the flash with whom that state says. -/
def handling (l : LoaderState) (standby : TileTable) (holder : FlashHolder) (line : List FlashUser) : State :=
  { manual with
    loader := { manual.loader with state := l, standby := standby }
    store := { manual.store with holder := holder, line := line } }

/-- SELECT_SET of set 7 with another set loading (nobody and somebody waiting for the flash) or waiting, and with set 7
in hand. -/
theorem witness_SelectSet_busy :
    (∀ line ∈ [[], [FlashUser.store]],
      let s := handling (.loading 6 0 false) (.loading 6) .loader line
      s.Takes 0x31 ∧ (s.awake 0x31).height.config.auto = false ∧ (s.awake 0x31).store.scanning = false
        ∧ (s.awake 0x31).store.setState 7 = .complete ∧ (s.awake 0x31).loader.damaged[7] = false
        ∧ (s.awake 0x31).store.sessionOn 7 = false ∧ (s.awake 0x31).loader.activeSet ≠ some 7 ∧ (6 : Fin 8) ≠ 7
        ∧ (s.awake 0x31).loader.state = .loading 6 0 false ∧ (s.awake 0x31).store.holder = .loader)
      ∧ (let s := handling (.waitingStore 6) .empty .store [.loader]
        s.Takes 0x31 ∧ (s.awake 0x31).store.scanning = false ∧ (s.awake 0x31).loader.state = .waitingStore 6
          ∧ (s.awake 0x31).store.holder ≠ .nobody)
      ∧ (let s := handling (.loading 7 0 false) (.loading 7) .loader []
        s.Takes 0x31 ∧ (s.awake 0x31).store.scanning = false ∧ (s.awake 0x31).loader.activeSet ≠ some 7
          ∧ (s.awake 0x31).loader.state.set? = some 7) := by
  unfold State.Takes; decide

/-- The cases of a set request: the active set, the set in hand, a load and a wait that are dropped, a set DAMAGED, a set
under a write session, and the flash free and taken. -/
theorem witness_SetRequested :
    ({ calm with loader := { calm.loader with active := .holding 7 [] } } : State).loader.activeSet = some 7
      ∧ (loaderHas 7).loader.state.set? = some 7
      ∧ ((loaderHas 6).loader.activeSet ≠ some 7 ∧ (loaderHas 6).loader.state.set? ≠ some 7
        ∧ (loaderHas 6).loader.state = .loading 6 0 false ∧ (loaderHas 6).store.holder = .loader)
      ∧ (withLoader (.waitingStore 6) .empty).loader.state = .waitingStore 6
      ∧ (withLoader (.staged 6) (.holding 6 [])).loader.state = .staged 6
      ∧ ({ calm with loader := { calm.loader with damaged := calm.loader.damaged.set 7 true } } : State).loader.damaged[7]
        = true
      ∧ (calm.loader.damaged[0] = false ∧ (withSession (session .erasing 0 4) 0).store.sessionOn 0 = true)
      ∧ (calm.loader.damaged[7] = false ∧ calm.store.sessionOn 7 = false ∧ calm.store.holder = .nobody
        ∧ calm.store.line = [] ∧ closing.store.holder ≠ .nobody) := by decide

/-- In AUTO the mapped set of a decided band is under a write session: the request fails, and with no set active
NO_CALIBRATION follows (R111, R113). -/
theorem test_request_fails :
    let s : State := { tracking [490, 490, 490, 490, 490, 490, 490, 490] 0 1000 with store :=
      { calm.store with session := some { session .erasing 0 4 with set := 1 } } }
    ((after s (.hgtActiveEdge 2000)).link.record .setUnusable).detail = [1, 1, 0, 0xFF, 0xFF]
      ∧ ((after s (.hgtActiveEdge 2000)).link.record .noCalibration).detail = [1]
      ∧ (after s (.hgtActiveEdge 2000)).loader.state = .idle := by decide

/-- `calm` with set 7 locked. -/
def locked : State :=
  { calm with store := { calm.store with
      directory := update calm.store.directory 7 fun e =>
        { e with openMark := .set, completeMark := .set, lockMark := .set } } }

/-- `calm` with CAL_WE deasserted. -/
def disabled : State := { calm with store := { calm.store with calDebounced := false } }

theorem witness_StoreOpen :
    (State.reset.Takes 0x38 ∧ (State.reset.awake 0x38).store.scanning = true)
      ∧ ((parked false).Takes 0x38 ∧ ((parked false).awake 0x38).store.scanning = false
        ∧ ((parked false).awake 0x38).power.state = .parked)
      ∧ (disabled.Takes 0x38 ∧ (disabled.awake 0x38).store.scanning = false ∧ (disabled.awake 0x38).power.state ≠ .parked
        ∧ (disabled.awake 0x38).store.calDebounced = false)
      ∧ ((withSession (session .erasing 0 4) 0).Takes 0x38
        ∧ ((withSession (session .erasing 0 4) 0).awake 0x38).store.calDebounced = true
        ∧ ((withSession (session .erasing 0 4) 0).awake 0x38).store.session ≠ none)
      ∧ (locked.Takes 0x38 ∧ (locked.awake 0x38).store.session = none ∧ (locked.awake 0x38).store.step = none
        ∧ (locked.awake 0x38).store.directory[7].lockMark ≠ .blank)
      ∧ ((withLoader (.waitingStore 7) .empty).Takes 0x38
        ∧ ((withLoader (.waitingStore 7) .empty).awake 0x38).store.directory[7].lockMark = .blank
        ∧ ((withLoader (.waitingStore 7) .empty).awake 0x38).loader.inUse 7 = true)
      ∧ (calm.Takes 0x38 ∧ (calm.awake 0x38).store.calDebounced = true ∧ (calm.awake 0x38).store.session = none
        ∧ (calm.awake 0x38).store.step = none ∧ (calm.awake 0x38).store.directory[7].lockMark = .blank
        ∧ (calm.awake 0x38).loader.inUse 7 = false ∧ (calm.awake 0x38).link.resetWait = .clear
        ∧ (calm.awake 0x38).store.holder = .nobody ∧ (calm.awake 0x38).store.line = []
        ∧ (42 : Fin 48).val = 6 * (7 : Fin 8).val) := by unfold State.Takes; decide

/-- A session in RECEIVING with `n` bytes staged. -/
def receiving (next row n : Nat) : State := withSession (session .receiving next row) n

theorem witness_StoreData :
    (calm.Takes 0x39 ∧ ¬ (1 ≤ ([] : List TileRecord).length)
        ∧ ¬ ((555 : Half).toNat + (List.replicate 6 blankRecord).length ≤ 560)
        ∧ (554 : Half).toNat + (List.replicate 6 blankRecord).length ≤ 560)
      ∧ (State.reset.Takes 0x39 ∧ (State.reset.awake 0x39).store.scanning = true)
      ∧ ((calm.awake 0x39).store.scanning = false ∧ (calm.awake 0x39).store.session = none)
      ∧ ((withSession (session .closing 560 91) 128).Takes 0x39 ∧ (session .closing 560 91).phase ≠ .receiving)
      ∧ ((receiving 3 4 120).Takes 0x39
        ∧ ((receiving 3 4 120).awake 0x39).store.session = some (session .receiving 3 4)
        ∧ ((receiving 3 4 120).awake 0x39).store.scanning = false
        ∧ (2 : Half).toNat ≠ (session .receiving 3 4).nextIndex ∧ (3 : Half).toNat = (session .receiving 3 4).nextIndex
        ∧ (seamRecord 1 3 0).wellFormed = false ∧ (∀ r ∈ List.replicate 3 blankRecord, r.wellFormed = true)
        ∧ 120 + 40 * 3 < 256 ∧ 256 ≤ 120 + 40 * 4)
      ∧ ((receiving 7 4 280).Takes 0x39
        ∧ 512 < ((receiving 7 4 280).awake 0x39).store.staging.length + 40 * (List.replicate 6 blankRecord).length)
      ∧ (((receiving 3 4 120).awake 0x39).store.step = none ∧ ((receiving 3 4 120).awake 0x39).store.holder = .nobody
        ∧ ((receiving 3 4 120).awake 0x39).store.line = []
        ∧ ((receiving 3 4 120).awake 0x39).link.resetWait = .clear) := by unfold State.Takes; decide +kernel
theorem witness_StoreCloseAndAbort :
    ((withSession (session .erasing 0 4) 0).Takes 0x3A ∧ (session .erasing 0 4).phase ≠ .receiving)
      ∧ ((receiving 559 91 88).Takes 0x3A ∧ ((receiving 559 91 88).awake 0x3A).store.scanning = false
        ∧ ((receiving 559 91 88).awake 0x3A).store.session = some (session .receiving 559 91)
        ∧ (session .receiving 559 91).nextIndex < 560)
      ∧ ((receiving 560 91 128).Takes 0x3A
        ∧ ((receiving 560 91 128).awake 0x3A).store.session = some (session .receiving 560 91)
        ∧ ((receiving 560 91 128).awake 0x3A).store.staging ≠ [] ∧ ((receiving 560 91 128).awake 0x3A).store.step = none
        ∧ ((receiving 560 91 128).awake 0x3A).store.holder = .nobody
        ∧ ((receiving 560 91 128).awake 0x3A).link.resetWait = .clear)
      ∧ (State.reset.Takes 0x3A ∧ (State.reset.awake 0x3A).store.scanning = true)
      ∧ (calm.Takes 0x3A ∧ (calm.awake 0x3A).store.scanning = false ∧ (calm.awake 0x3A).store.session = none)
      ∧ (calm.Takes 0x3B ∧ (calm.awake 0x3B).store.session = none)
      ∧ ((receiving 3 4 120).Takes 0x3B ∧ ((receiving 3 4 120).awake 0x3B).store.session = some (session .receiving 3 4)
        ∧ ((receiving 3 4 120).awake 0x3B).store.step = none)
      ∧ (let erasing : State := { withStep (.erase 0) (.running 648000) with store :=
            { (withStep (.erase 0) (.running 648000)).store with session := some (session .erasing 0 4) } }
        erasing.Takes 0x3B ∧ (erasing.awake 0x3B).store.session = some (session .erasing 0 4)
          ∧ (erasing.awake 0x3B).store.step = some { kind := .erase 0, phase := .running 648000 }) := by
  unfold State.Takes; decide
/-- A session on set 0 with a step in hand, and `n` bytes staged. -/
def stepping (k : StepKind) (phase : StepPhase) (n : Nat) : State :=
  { withStep k phase with store := { (withStep k phase).store with
      session := some (session .receiving 12 4), staging := List.replicate n 0 } }

/-- STORE_ABORT, and the CAL_WE abort, with a step pending and with one of each kind running. -/
theorem witness_abort_with_step :
    ∀ k ∈ [StepKind.erase 0, .openMark 0, .recordRow 0 4, .completeMark 0 0, .lockMark 0, .retireMark 0],
      (∀ phase ∈ [StepPhase.pending, .running 40500],
        (stepping k phase 480).Takes 0x3B
          ∧ ((stepping k phase 480).awake 0x3B).store.session = some (session .receiving 12 4)
          ∧ ((stepping k phase 480).awake 0x3B).store.step = some { kind := k, phase := phase })
        ∧ (let s : State := { stepping k .pending 480 with store :=
            { (stepping k .pending 480).store with calSampled := some false } }
          s.power.inReset = false ∧ (s.store.calSampled = some false ∧ false ≠ s.store.calDebounced)
            ∧ s.store.session = some (session .receiving 12 4) ∧ s.store.step = some { kind := k, phase := .pending }) := by
  unfold State.Takes; decide +kernel

/-- Of 480 bytes staged, the 256 of the row that runs stay; with the row pending none does, and the step is withdrawn
(R133). -/
theorem test_abort_staging :
    (after (stepping (.recordRow 0 4) (.running 40500) 480) (.storeAbort 1)).store.staging.length = 256
      ∧ (after (stepping (.recordRow 0 4) .pending 480) (.storeAbort 1)).store.staging = []
      ∧ (after (stepping (.recordRow 0 4) .pending 480) (.storeAbort 1)).store.step = none := by decide +kernel

theorem witness_StoreLockAndRetire :
    (locked.Takes 0x3C ∧ (locked.awake 0x3C).store.calDebounced = true ∧ (locked.awake 0x3C).store.session = none
        ∧ (locked.awake 0x3C).store.step = none ∧ (locked.awake 0x3C).store.directory[7].lockMark ≠ .blank)
      ∧ (calm.Takes 0x3C ∧ (calm.awake 0x3C).store.scanning = false ∧ (calm.awake 0x3C).power.state ≠ .parked
        ∧ (calm.awake 0x3C).store.calDebounced = true ∧ (calm.awake 0x3C).store.session = none
        ∧ (calm.awake 0x3C).store.step = none ∧ (calm.awake 0x3C).store.directory[7].lockMark = .blank
        ∧ (calm.awake 0x3C).store.setState 7 ≠ .complete)
      ∧ (manual.Takes 0x3C ∧ (manual.awake 0x3C).store.setState 7 = .complete
        ∧ (manual.awake 0x3C).store.directory[7].lockMark = .blank ∧ (manual.awake 0x3C).link.resetWait = .clear
        ∧ (manual.awake 0x3C).store.holder = .nobody ∧ (manual.awake 0x3C).store.line = [])
      ∧ ((withLoader (.waitingStore 7) .empty).Takes 0x3D
        ∧ ((withLoader (.waitingStore 7) .empty).awake 0x3D).loader.inUse 7 = true)
      ∧ (manual.Takes 0x3D ∧ (manual.awake 0x3D).loader.inUse 7 = false
        ∧ (manual.awake 0x3D).store.directory[7].retireMark = .blank)
      ∧ (∀ m : MarkCondition, m = .set ∨ m = .torn →
        let s : State := { calm with store := { calm.store with
          directory := update calm.store.directory 7 fun e => { e with retireMark := m } } }
        s.Takes 0x3D ∧ (s.awake 0x3D).loader.inUse 7 = false ∧ (s.awake 0x3D).store.directory[7].retireMark = m) := by
  unfold State.Takes
  refine ⟨by decide, by decide, by decide, by decide, by decide, ?_⟩
  intro m h
  rcases h with rfl | rfl <;> decide

/-- One entry of a LINE_CONFIGURE list, for line 7. -/
def entry (direction attr role wake : Byte) : LineEntry :=
  { line := 7, direction := direction, attr := attr, level := 1, role := role, active := 0, report := 1, wake := wake }

theorem witness_LineConfigure :
    calm.Takes 0x40
      ∧ ((entry 1 3 7 0).line = BitVec.ofNat 8 (7 : Fin 8).val ∧ (entry 1 3 7 0).direction.toNat < 2
        ∧ (entry 1 3 7 0).level.toNat < 2 ∧ (entry 1 3 7 0).active.toNat < 2 ∧ (entry 1 3 7 0).report.toNat < 2
        ∧ (2 ≤ (entry 1 3 7 0).attr.toNat ∧ (entry 1 3 7 0).attr.toNat ≤ 3) ∧ (entry 1 3 7 0).role = 7
        ∧ (entry 1 3 7 0).wake = 0 ∧ (calm.awake 0x40).lines.line[7].config.out ≠ ((entry 1 3 7 0).direction == 1))
      ∧ ((entry 0 1 5 1).attr.toNat ≤ 1 ∧ (entry 0 1 5 1).role.toNat ≤ 5 ∧ (entry 0 1 5 1).wake.toNat < 2
        ∧ (calm.awake 0x40).lines.line[7].config.out = ((entry 0 1 5 1).direction == 1)
        ∧ (calm.awake 0x40).reverse = false ∧ (entry 0 1 4 1).role ≠ 5)
      ∧ (¬ ((2 : Byte).toNat < 2) ∧ ((entry 1 2 0 1).direction = 1 ∧ (entry 1 2 0 1).wake = 1)
        ∧ ((entry 0 2 0 0).direction = 0 ∧ 2 ≤ (entry 0 2 0 0).attr.toNat)) := by unfold State.Takes; decide

/-- `calm` with line 7 an output that drives HIGH inverted, flagged for a mismatch. -/
def mismatched : State :=
  { calm with lines := { calm.lines with line := update calm.lines.line 7 fun l =>
      { l with
        config := { l.config with out := true, attr := .inverted, level := true, report := true }
        mismatch := 2, flag := true } } }

/-- An output whose drive is kept and one whose role changes; a parked line whose wake enable is kept and one that gets
it. -/
theorem witness_LineConfigure_restart :
    (mismatched.Takes 0x40 ∧ (mismatched.awake 0x40).lines.line[7].config.out = ((entry 1 3 0 0).direction == 1)
        ∧ ((mismatched.awake 0x40).lines.line[7].config.bytes.drop 1).take 3 = [(entry 1 3 0 0).attr, 1, 0]
        ∧ ((mismatched.awake 0x40).lines.line[7].config.bytes.drop 1).take 3 ≠ [(entry 1 3 7 0).attr, 0, 7]
        ∧ (mismatched.awake 0x40).lines.line[7].flag = true ∧ (entry 1 3 7 0).report = 1)
      ∧ ((parked false).Takes 0x40 ∧ ((parked false).awake 0x40).power.state = .parked ∧ (entry 0 1 0 1).wake = 1
        ∧ ((parked false).awake 0x40).lines.line[7].config.wake = false)
      ∧ ({ parked false with lines := { calm.lines with line := update calm.lines.line 7 fun l =>
          { l with config := { l.config with wake := true } } } } : State).lines.line[7].config.wake = true := by
  unfold State.Takes; decide

/-- `calm` with line 0 an output with the role given. -/
def output (role : LineRole) : State :=
  withLine fun l => { l with config := { l.config with out := true, attr := .inverted, role := role } }

theorem witness_LineWrite :
    ((output .none).Takes 0x42 ∧ ((output .none).awake 0x42).lines.line[0].config.out = true
        ∧ ((output .none).awake 0x42).lines.line[0].config.role = .none)
      ∧ ((output .parity).Takes 0x42 ∧ ((output .parity).awake 0x42).lines.line[0].config.role ≠ .none)
      ∧ (calm.Takes 0x42 ∧ (calm.awake 0x42).lines.line[0].config.out = false) := by unfold State.Takes; decide
theorem witness_PowerState :
    (calm.Takes 0x48 ∧ (calm.awake 0x48).power.state = .run)
      ∧ (dozing.Takes 0x48 ∧ (dozing.awake 0x48).power.state = .doze)
      ∧ (closing.Takes 0x48 ∧ (closing.awake 0x48).power.state ≠ .parked ∧ (closing.awake 0x48).store.session ≠ none)
      ∧ ((calm.awake 0x48).power.state ≠ .parked
        ∧ ¬ ((calm.awake 0x48).store.session ≠ none ∨ (calm.awake 0x48).store.step ≠ none))
      ∧ (let s := withPort fun q => { q with state := .failed }
        (s.awake 0x48).ports[0].state = .failed ∧ (s.awake 0x48).ports[1].state ≠ .failed
          ∧ ∀ i : Fin 4, (s.awake 0x48).ports[i].power = false)
      ∧ ((parked false).Takes 0x48 ∧ ((parked false).awake 0x48).power.state = .parked)
      ∧ 3 ≤ (3 : Byte).toNat := by unfold State.Takes; decide

theorem witness_WakeAndSupplyConfigure :
    calm.Takes 0x49 ∧ (1 : Byte).toNat < 2 ∧ 2 ≤ (2 : Byte).toNat ∧ calm.Takes 0x4A := by unfold State.Takes; decide

/-! ### Witnesses of the statements about the link and resets -/

/-- `calm` with a record in the slot. -/
def holding (o : Outgoing) : State := { calm with link := { calm.link with slot := some o, attn := true } }

theorem witness_TransactionBringsRequest :
    (calm.power.inReset = false ∧ calm.link.Settled ∧ calm.link.slot = none ∧ calm.link.receiver = [])
      ∧ (([(1, 1), (2, 2)] : List (Byte × Byte)).flatMap fun y => [y.1, y.2]).length ≤ 256
      ∧ (le16 0 ++ [BitVec.ofNat 8 6] ++ (List.replicate 6 blankRecord).flatMap TileRecord.toBytes).length ≤ 256 := by
  unfold Link.Settled; decide +kernel

theorem witness_TransactionEnd :
    (calm.power.inReset = false ∧ calm.link.receiver = [] ∧ calm.link.Settled ∧ calm.link.slot = none)
      ∧ (checkFrame [0x02, 5] = .rejected 2 ∧ checkFrame [0xFF] = .rejected 2 ∧ (0xFF : Byte) ≠ 0)
      ∧ ((holding (.reply ⟨0x81, 0, []⟩)).link.slot = some (.reply ⟨0x81, 0, []⟩)
        ∧ (holding (.reply ⟨0x81, 0, []⟩)).link.queue.length < 4
        ∧ ([] : List Byte).length + 1 < 6 + (Frame.mk 0x81 0 []).body.length)
      ∧ (let s : State := { holding (.reply ⟨0x81, 0, []⟩) with link :=
          { (holding (.reply ⟨0x81, 0, []⟩)).link with queue := full.link.queue } }
        s.link.slot = some (.reply ⟨0x81, 0, []⟩) ∧ 4 ≤ s.link.queue.length)
      ∧ ([1, 2, 4] : List Byte).length ≠ 2 ∧ (0x7E : Byte).toNat < 0x7F ∧ (List.replicate 256 (0 : Byte)).length ≤ 256
      ∧ (2 ≤ (2 : Byte).toNat ∧ ([1, 2, 3] : List Byte).length % 2 = 1 ∧ ([] : List Byte).length % 8 ≠ 1
        ∧ ([0, 0] : List Byte).length < 3 ∧ ([0, 0, 1] : List Byte).length ≠ 3 + 40 * (1 : Byte).toNat)
      ∧ ((0x06 : Byte) ∉ [(0x01 : Byte), 0x02, 0x03, 0x04, 0x05, 0x10, 0x11, 0x12, 0x18, 0x19, 0x1A, 0x1B, 0x20, 0x28,
          0x29, 0x2A, 0x30, 0x31, 0x38, 0x39, 0x3A, 0x3B, 0x3C, 0x3D, 0x3E, 0x3F, 0x40, 0x41, 0x42, 0x48, 0x49, 0x4A])
      ∧ (([] : List Byte)[0]?.getD 0 = 0 ∧ ([0, 9] : List Byte)[0]?.getD 0 = 0 ∧ ([0, 9] : List Byte).length < 6 + 0)
      ∧ ((holding (.reply ⟨0x83, 0, [0]⟩)).link.slot = some (.reply ⟨0x83, 0, [0]⟩)
        ∧ 6 + ([0] : List Byte).length ≤ (List.replicate 7 (0 : Byte)).length)
      ∧ (holding (.notice .woken ⟨0xFF, 0, []⟩)).link.slot = some (.notice .woken ⟨0xFF, 0, []⟩) := by
  unfold Link.Settled; decide +kernel

/-- On MISO go the bytes of the record in the slot, then 00h (R179). -/
theorem test_miso :
    (after (holding (.reply ⟨0x81, 7, [5]⟩)) (.transactionEnd (List.replicate 9 0) .slotHeld)).link.miso.take 5
        = [0x81, 7, 1, 0, 5]
      ∧ (after (holding (.reply ⟨0x81, 7, [5]⟩)) (.transactionEnd (List.replicate 9 0) .slotHeld)).link.miso.drop 7 = [0, 0]
      ∧ (after calm (.transactionEnd [0, 0] .slotEmpty)).link.miso = [0, 0] := by decide +kernel

theorem witness_SoftReset :
    (let s : State := { calm with link := { calm.link with resetWait := .replySent } }
     s.power.inReset = false ∧ s.link.resetWait = .replySent ∧ s.store.step = none)
      ∧ calm.link.resetWait ≠ .replySent := by decide
theorem witness_FullResets :
    ((withStep (.erase 47) (.running 648000)).store.step = some { kind := .erase 47, phase := .running 648000 }
        ∧ 4096 * (47 : Fin 48).val - 1 < 4096 * (47 : Fin 48).val)
      ∧ (∀ x ∈ [(StepKind.recordRow 7 91, 91), (.openMark 7, 0), (.completeMark 7 0, 1), (.lockMark 7, 2),
          (.retireMark 7, 3)],
        (withStep x.1 (.running 40500)).store.step = some { kind := x.1, phase := .running 40500 }
          ∧ (x.1 = .recordRow 7 x.2 ∨ x.1 = .openMark 7 ∧ x.2 = 0 ∨ x.1 = .completeMark 7 0 ∧ x.2 = 1
            ∨ x.1 = .lockMark 7 ∧ x.2 = 2 ∨ x.1 = .retireMark 7 ∧ x.2 = 3))
      ∧ calm.store.stepRunning = false ∧ calm.power.inReset = false
      ∧ (after calm .pinReset).power.inReset = true := by decide

/-! ### Witnesses of the statements about events -/

/-- `calm` with port 0 LIVE and its buffer 0 FILLING, with `n` lines stored. -/
def filling (n : Nat) : State :=
  withPort fun q =>
    { q with
      state := .live, power := true
      buffers := update q.buffers 0 fun b => { b with state := .filling, lines := n } }

theorem witness_FrameReception :
    (calm.power.inReset = false ∧ calm.ports[0].state = .off)
      ∧ (watched.ports[0].state = .waiting ∧ watched.supply.low = false
        ∧ (∀ b : Fin 3, watched.ports[0].buffers[b].state ≠ .filling) ∧ watched.ports[0].buffers[0].state = .free
        ∧ ∀ c : Fin 3, c < 0 → watched.ports[0].buffers[c].state ≠ .free)
      ∧ (let s : State := withPort fun q =>
          { q with
            state := .live, power := true, ready := [2, 0, 1], buffers := mapAll q.buffers fun b => { b with state := .ready } }
        (∀ b : Fin 3, s.ports[0].buffers[b].state ≠ .filling ∧ s.ports[0].buffers[b].state ≠ .free)
          ∧ s.ports[0].ready = 2 :: [0, 1])
      ∧ (∀ n : Fin 2, let s := filling (959 + n.val)
        s.ports[0].buffers[0].state = .filling ∧ (∀ c : Fin 3, s.ports[0].buffers[c].state = .filling → c = 0)
          ∧ s.ports[0].buffers[0].lines = 959 + n.val ∧ s.ports[0].buffers[0].broken = none) := by decide

/-- A FRAME START that meets the FILLING buffer 2: with buffers 0 and 1 READY the freed one is the lowest FREE, with
buffer 1 FREE that one is. -/
theorem witness_FrameReception_abandon :
    ∀ spare ∈ [BufferState.ready, .free],
      let s : State := withPort fun q =>
        { q with
          state := .live, power := true
          buffers := #v[{ FrameBuffer.atReset with state := .ready }, { FrameBuffer.atReset with state := spare },
            { FrameBuffer.atReset with state := .filling }] }
      let freed := update s.ports[0].buffers 2 fun f => { f with state := .free }
      s.ports[0].buffers[2].state = .filling ∧ (∀ c : Fin 3, s.ports[0].buffers[c].state = .filling → c = 2)
        ∧ ∃ c : Fin 3, freed[c].state = .free ∧ ∀ d : Fin 3, d < c → freed[d].state ≠ .free := by decide

/-- A state with the deadline of trigger 1 armed and the slot gathering trigger `n`. -/
def gathering (n : Half) (s : State) : State :=
  { s with
    pace := { s.pace with deadline := some { due := 720000, trigger := 1 } }
    engine := { s.engine with slot := .gathering n 1 } }

/-- `calm` with ports 0 and 1 LIVE, port 0 with a READY frame of trigger 1, port 1 with buffer 0 as given. -/
def twoLive (b : BufferState) (ready : List (Fin 3)) : State :=
  { calm with ports := Vector.ofFn fun i : Fin 4 =>
      if i.val < 2 then
        { Port.atReset with
          state := .live, power := true, ready := if i = 0 then [0] else ready
          buffers := update Port.atReset.buffers 0 fun f =>
            { f with state := if i = 0 then .ready else b, tag := 1, lines := 960 } }
      else Port.atReset }

/-- The all-present test: met with the engine IDLE and busy, missed for want of a frame of one LIVE port and of a tag, and
no gather open. -/
theorem witness_Tested :
    (let s := gathering 1 (twoLive .ready [0])
     s.engine.slot = .gathering 1 1 ∧ s.AllPresent 1 ∧ s.engine.inflight = none ∧ s.engine.BuffersOk)
      ∧ (let s := gathering 1 { twoLive .ready [0] with engine := composing.engine }
        s.engine.slot = .gathering 1 1 ∧ s.AllPresent 1 ∧ s.engine.inflight ≠ none)
      ∧ (¬ (gathering 1 (twoLive .free [])).AllPresent 1 ∧ ¬ (gathering 2 (twoLive .ready [0])).AllPresent 2)
      ∧ (calm.engine.slot = .empty
        ∧ ({ composing with engine := { composing.engine with slot := .ready 1 1 } } : State).engine.slot = .ready 1 1) := by
  simp only [← Part.allPresent_iff]
  unfold Engine.BuffersOk; decide

/-- The last frame of trigger 1 closes its gather: its deadline is cancelled and its composition starts, or waits for the
one in flight (R58). -/
theorem test_all_present :
    (let t := after (gathering 1 (twoLive .filling [])) (.frameEnd 1)
     t.engine.slot = .empty ∧ t.engine.inflight.map (fun x => x.trigger) = some 1 ∧ t.pace.deadline = none)
      ∧ (let t := after (gathering 1 { twoLive .filling [] with engine := composing.engine }) (.frameEnd 1)
        t.engine.slot = .ready 1 1 ∧ t.engine.inflight = some inflight ∧ t.pace.deadline = none) := by decide +kernel

/-- So does a port without a frame that leaves LIVE (R58). -/
theorem test_leaving_port_closes :
    let t := after (gathering 1 (twoLive .free [])) (.portPower 1 1 0)
    t.engine.inflight.map (fun x => x.present) = some #v[true, false, false, false] ∧ t.pace.deadline = none := by
  decide +kernel

/-- `calm` with port 0 in a state, its timer running to tick 27, and `n` attempts of at most 2 counted. -/
def timed (st : PortState) (power : Bool) (n : Nat) : State :=
  withPort fun q => { q with state := st, power := power, timer := .running 27, attempts := n }

theorem witness_PortTimers :
    calm.power.inReset = false
      ∧ (∀ st ∈ [PortState.powering, .live], (timed st true 0).ports[0].timer = .running 27
        ∧ (timed st true 0).ports[0].state = st)
      ∧ (∀ st ∈ [PortState.waiting, .stalled], (timed st true 1).ports[0].attempts < (timed st true 1).ports[0].limit
        ∧ (timed st true 2).ports[0].limit ≤ (timed st true 2).ports[0].attempts)
      ∧ ((timed .recovering false 1).ports[0].state = .recovering ∧ (timed .recovering false 1).ports[0].power = false)
      ∧ (timed .off false 0).ports[0].timer = .running 27 := by decide

/-- `calm` with port 0 WAITING and `n` CSNS samples that read off counted. -/
def faulting (n : Nat) : State := withPort fun q => { q with state := .waiting, power := true, faultCount := n }

theorem witness_CameraPowerFault :
    (calm.power.inReset = false ∧ calm.ports[0].power = false)
      ∧ ((faulting 18).ports[0].power = true ∧ (faulting 18).supply.low = false ∧ (faulting 18).ports[0].faultCount < 19)
      ∧ ((faulting 19).ports[0].faultCount = 19 ∧ (faulting 19).ports[0].state ≠ .failed) := by decide
theorem witness_PeriodEnd :
    ((paced .running).power.inReset = false ∧ (paced .running).pace.counter = .counting 0
        ∧ (paced .running).pace.runState = .running ∧ (paced .running).pace.inForce.mode = .continuous)
      ∧ (let low : State := { paced .running with supply := { calm.supply with low := true } }
        low.supply.low = true ∧ low.pace.counter = .counting 0)
      ∧ (let s : State := { paced .running with engine := { composing.engine with slot := .ready 1 1 } }
        s.supply.low = false ∧ s.engine.slot = .ready 1 1 ∧ s.engine.inflight = some inflight)
      ∧ (paced .stopping).pace.runState = .stopping
      ∧ (let s : State := { paced .running with pace := { (paced .running).pace with
            inForce := { calm.pace.inForce with mode := .single } } }
        s.pace.runState = .running ∧ s.pace.inForce.mode = .single)
      ∧ calm.pace.counter = .stopped 0
      ∧ ({ calm with pace := { calm.pace with capture := some 2700 } } : State).pace.capture = some 2700
      ∧ calm.pace.capture = none := by decide

/-- The gather of a trigger that a boundary finds open, with the engine IDLE and busy; a boundary that takes SINGLE into
force. -/
theorem witness_PeriodEnd_gathering :
    (let s := gathering 1 (paced .running)
     s.pace.runState = .running ∧ s.supply.low = false ∧ s.engine.slot = .gathering 1 1 ∧ s.engine.inflight = none
      ∧ s.engine.BuffersOk ∧ s.pace.configured.mode = .continuous)
      ∧ (let s := gathering 1 { paced .running with engine := composing.engine }
        s.supply.low = false ∧ s.engine.slot = .gathering 1 1 ∧ s.engine.inflight = some inflight)
      ∧ (let s : State := { paced .running with pace := { (paced .running).pace with
            configured := { calm.pace.configured with mode := .single } } }
        s.pace.runState = .running ∧ s.pace.inForce.mode = .continuous ∧ s.pace.configured.mode = .single) := by
  unfold Engine.BuffersOk; decide

/-- At a boundary an open gather is composed, or SKIPPED with OVERRUN by a busy engine (R57). -/
theorem test_boundary_gathering :
    (after (gathering 1 (paced .running)) .periodEnd).engine.inflight.map (fun x => x.trigger) = some 1
      ∧ ((after (gathering 3 { paced .running with engine := composing.engine }) .periodEnd).link.record .overrun).detail
        = [3, 0, 1, 0] := by decide +kernel

/-- A frame request: outside RUN, on a busy transfer, on an idle one (R172). -/
theorem witness_FrameRequested :
    dozing.power.state ≠ .run
      ∧ ({ paced .running with display := (displaying false).display } : State).display.transfer ≠ none
      ∧ ((paced .running).power.state = .run ∧ (paced .running).display.transfer = none)
      ∧ (let e : Engine := { calm.engine with
            previous := some 1
            buffers := #v[{ CompositeBuffer.atReset with state := .shown }, { CompositeBuffer.atReset with state := .done },
              CompositeBuffer.atReset] }
        e.BuffersOk ∧ e.buffers[1].state = .done ∧ e.buffers[0].state = .shown ∧ e.buffers[2].state = .free)
      ∧ (supplied true 0 0).supply.low = true ∧ ∀ b : Fin 3, calm.engine.buffers[b].state ≠ .done
        ∧ calm.engine.buffers[b].state ≠ .shown := by
  unfold Engine.BuffersOk; decide

theorem witness_DeadlineExpiry :
    calm.pace.deadline = none
      ∧ ((gathering 2 calm).power.inReset = false
        ∧ (gathering 2 calm).pace.deadline = some { due := 720000, trigger := 1 }
        ∧ ∀ stale, (gathering 2 calm).engine.slot ≠ .gathering 1 stale)
      ∧ ((gathering 1 composing).engine.slot = .gathering 1 1
        ∧ (gathering 1 composing).engine.inflight = some inflight)
      ∧ ((gathering 1 calm).engine.slot = .gathering 1 1 ∧ (gathering 1 calm).engine.inflight = none
        ∧ (gathering 1 calm).engine.BuffersOk ∧ (gathering 1 calm).ports[0].state ≠ .live
        ∧ (gathering 1 calm).ports[0].state ≠ .stalled ∧ (∀ k, (gathering 1 calm).loader.state ≠ .staged k)
        ∧ (gathering 1 calm).loader.active = .empty ∧ (gathering 1 calm).engine.tiles.length = 560)
      ∧ (gathering 1 (withLoader (.staged 7) (.holding 7 []))).loader.state = .staged 7 := by
  unfold Engine.BuffersOk
  refine ⟨rfl, ⟨rfl, rfl, ?_⟩, ⟨rfl, rfl⟩, ⟨rfl, rfl, by decide, by decide, by decide, ?_, rfl, ?_⟩, rfl⟩
  · intro _ h; cases h
  · intro _ h; cases h
  · exact List.length_replicate

/-- `calm` with port 0 LIVE and three READY buffers with the tags given, oldest first. -/
def asked (a b c : Half) : State :=
  withPort fun q =>
    { q with
      state := .live, power := true, ready := [0, 1, 2]
      buffers := #v[{ FrameBuffer.atReset with state := .ready, tag := a }, { FrameBuffer.atReset with state := .ready, tag := b },
        { FrameBuffer.atReset with state := .ready, tag := c }] }

/-- For trigger 1 with the stale allowance 1: of the tags FFFFh, 0000h and 0002h the middle one alone is eligible, of
FFFFh, 8000h and 8001h none is, and 8000h alone is later. -/
theorem witness_DeadlineExpiry_select :
    ((asked 0xFFFF 0 2).ports[0].state = .live ∧ (asked 0xFFFF 0 2).ports[0].ready = [0] ++ 1 :: [2]
        ∧ (1 : Fin 3) ∉ [(0 : Fin 3)] ∧ ((1 : Half) - (asked 0xFFFF 0 2).ports[0].buffers[1].tag).toNat ≤ 1
        ∧ ∀ e ∈ [(2 : Fin 3)], ¬ ((1 : Half) - (asked 0xFFFF 0 2).ports[0].buffers[e].tag).toNat ≤ 1)
      ∧ (∀ e ∈ (asked 0xFFFF 0x8000 0x8001).ports[0].ready,
        ¬ ((1 : Half) - (asked 0xFFFF 0x8000 0x8001).ports[0].buffers[e].tag).toNat ≤ 1)
      ∧ (after (gathering 1 (asked 0xFFFF 0x8000 0x8001)) .deadlineExpiry).ports[0].ready = [1] := by decide

/-- VOID, BODY, three SINGLE of camera 0, SEAM of cameras 0 and 1. -/
def sixRecords : List TileRecord :=
  [blankRecord, { blankRecord with kind := 3 }, { blankRecord with kind := 1, hold := 255 },
    { blankRecord with kind := 1, hold := 9 }, { blankRecord with kind := 1, hold := 255 }, seamRecord 0 1 64]

/-- `calm` with set 7 of `sixRecords` active and a composite shown in which tiles 2 to 4 have the sources and ages
given. -/
def loaded : State :=
  { calm with
    loader := { calm.loader with active := .holding 7 sixRecords }
    engine := { calm.engine with
      previous := some 1, buffers := update calm.engine.buffers 1 fun b => { b with state := .shown }
      tiles := [.atReset, .atReset, ⟨.sampled, 7⟩, ⟨.held, 8⟩, ⟨.held, 8⟩, .atReset] } }

/-- With no camera present: VOID, BODY, held up to the limit of the host and of the record, filled beyond it (R66, R67). -/
theorem test_tiles_held :
    (after (gathering 1 loaded) .deadlineExpiry).engine.inflight.map (fun x => x.next)
      = some [⟨.voided, 0⟩, ⟨.body, 0⟩, ⟨.held, 8⟩, ⟨.held, 9⟩, ⟨.filled, 9⟩, ⟨.filled, 255⟩] := by decide +kernel

/-- The loaded table has a record for each tile, all of them well-formed. -/
theorem witness_DeadlineExpiry_seams :
    loaded.loader.active = .holding 7 sixRecords ∧ loaded.engine.tiles.length = sixRecords.length
      ∧ ∀ r ∈ sixRecords, r.wellFormed = true := by decide

/-- A frame whose first pixels all have the luma given. -/
def flatFrame (y : Byte) : List (List Byte) := [[128, y, 128, y], [128, y, 128, y]]

/-- A FRONT record with camera A = 1 and camera B = 0 adds its A luma to the sum of camera 1, and nothing with weights
outside 8..56 (R75). -/
theorem test_seam_sums :
    (seamStats #v[flatFrame 10, flatFrame 20, [], []] (.holding 0 [seamRecord 1 0 32]) [.blended 1 0])[0]
        = { sumA := 10240, sumB := 20480, count := 1024 }
      ∧ (seamStats #v[flatFrame 10, flatFrame 20, [], []] (.holding 0 [seamRecord 1 0 57]) [.blended 1 0])[0] = .zero := by
  decide +kernel

/-- `loaded` with ports 0 and 1 LIVE, each with a READY frame of trigger 1, and group 0 occluding nothing. -/
def seen : State :=
  { loaded with ports := Vector.ofFn fun i : Fin 4 =>
      if i.val < 2 then
        { Port.atReset with
          state := .live, power := true, ready := [0]
          buffers := #v[{ FrameBuffer.atReset with state := .ready, tag := 1 }, FrameBuffer.atReset, FrameBuffer.atReset] }
      else Port.atReset }

/-- With cameras 0 and 1 present: sampled and blended (R66). -/
theorem test_tiles_seen :
    (after (gathering 1 seen) .deadlineExpiry).engine.inflight.map (fun x => x.next.drop 4)
      = some [⟨.sampled, 0⟩, ⟨.blended, 0⟩] := by decide +kernel

theorem witness_CompositionComplete :
    calm.engine.inflight = none
      ∧ (composing.power.inReset = false ∧ composing.engine.inflight = some inflight ∧ composing.engine.BuffersOk
        ∧ composing.engine.buffers[0].state = .writing ∧ (∀ m stale, composing.engine.slot ≠ .ready m stale)
        ∧ composing.display.mode = .continuous ∧ composing.engine.firstComposite = true ∧ 0 < inflight.counts.filled)
      ∧ ({ inflight with counts := { inflight.counts with filled := 0 } } : Composition).counts.filled = 0
      ∧ ({ composing with balancer := { calm.balancer with enable := false } } : State).balancer.enable = false := by
  unfold Engine.BuffersOk
  exact ⟨rfl, ⟨rfl, rfl, by decide, rfl, (fun _ _ h => by cases h), rfl, rfl, by decide⟩, rfl, rfl⟩

/-- `composing` with a gather closed behind the composition, in SINGLE display mode. -/
def behind : State :=
  { composing with
    engine := { composing.engine with slot := .ready 2 1 }
    display := { calm.display with mode := .single } }

theorem witness_CompositionComplete_ready :
    (behind.engine.slot = .ready 2 1 ∧ behind.engine.inflight = some inflight ∧ behind.engine.BuffersOk
        ∧ behind.display.mode = .single ∧ behind.power.state = .run ∧ behind.display.transfer = none)
      ∧ ({ behind with display := { (displaying false).display with mode := .single } } : State).display.transfer ≠ none := by
  unfold Engine.BuffersOk; decide

/-- The completion shows the composite and starts the one behind (R79, R172). -/
theorem test_completion_hands_on :
    (after behind .compositionComplete).engine.inflight.map (fun x => x.trigger) = some 2
      ∧ (after behind .compositionComplete).display.transfer.map (fun y => y.content) = some (.composite 0) := by
  decide +kernel

/-- `composing` after a composite with `n` FILLED tiles, shown from buffer 1. -/
def composingAgain (n : Nat) : State :=
  { composing with engine := { composing.engine with
      firstComposite := false, previous := some 1
      buffers := update composing.engine.buffers 1 fun b =>
        { b with state := .shown, record := some { inflight.record with counts := { inflight.counts with filled := n } } } } }

/-- A later composite: after one without a FILLED tile, and after one with one. -/
theorem witness_CompositionComplete_later :
    ∀ n ∈ [0, 1], (composingAgain n).engine.BuffersOk ∧ (composingAgain n).engine.firstComposite = false
      ∧ (composingAgain n).engine.previous = some 1
      ∧ (composingAgain n).engine.buffers[1].record
        = some { inflight.record with counts := { inflight.counts with filled := n } }
      ∧ ((after (composingAgain n) .compositionComplete).link.record .tilesFilled).pending = (n == 0) := by
  unfold Engine.BuffersOk; decide +kernel

theorem witness_BalancerUpdate :
    composing.power.inReset = false ∧ composing.engine.inflight = some inflight ∧ composing.balancer.enable = true
      ∧ (∀ m stale, composing.engine.slot ≠ .ready m stale) ∧ composing.balancer.written[0] = false
      ∧ (2048 ≤ seamCase[0].count ∧ 16 * seamCase[0].sumA / seamCase[0].count ≤ 3760 ∧ ¬ 2048 ≤ seamCase[1].count) :=
  ⟨rfl, rfl, rfl, (fun _ _ h => by cases h), rfl, by decide⟩
theorem witness_PixelArithmetic :
    (31 < 32 ∧ (∀ v ∈ [1, 4, 2, 3], 1 ≤ v ∧ v ≤ 4)) ∧ 20464 ≤ 20464 ∧ 15344 ≤ 15344 ∧ 255 ≤ 255 ∧ 64 ≤ 64 := by decide

/-- `calm` with `n` duties of 500 in the window, an active edge held at 0 and a pulse of 1000 µs measured. -/
def measured (n : Nat) (invalid : Nat) : State :=
  { calm with height := { calm.height with
      accepted := some false, heldEdge := some 0, activeTime := 1000, invalid := invalid
      window := List.replicate n 500
      config := { calm.height.config with auto := false } } }

theorem witness_HeightEdges :
    (calm.power.inReset = false ∧ calm.height.accepted ≠ some (!calm.height.config.polarity))
      ∧ (let s : State := { calm with height := { calm.height with accepted := some false } }
        s.height.state ≠ .stopped ∧ s.height.accepted = some (!s.height.config.polarity) ∧ s.height.heldEdge = none
          ∧ s.height.filterSince + 4 ≤ max 4 (s.now / 27) ∧ ¬ s.height.filterSince + 4 ≤ max 3 (s.now / 27))
      ∧ ((measured 6 0).height.heldEdge = some 0 ∧ (measured 6 0).height.window.length < 7)
      ∧ ((measured 7 0).height.window.length = 7 ∧ (measured 7 0).height.config.auto = false
        ∧ (measured 7 0).height.band = none)
      ∧ (max 999 (calm.now / 27) - 0 < 1000 ∧ 0 < max 4 (calm.now / 27) - 0 ∧ (measured 0 1).height.invalid < 2
        ∧ (measured 0 2).height.invalid = 2 ∧ (measured 0 2).height.state ≠ .fault)
      ∧ ({ measured 0 2 with height := { (measured 0 2).height with state := .fault } } : State).height.state = .fault
      ∧ (∀ t ∈ [1000, 10000], 1000 ≤ max t (calm.now / 27) - 0 ∧ max t (calm.now / 27) - 0 ≤ 10000)
      ∧ (∀ active ∈ [50, 950], 50 ≤ 1000 * active / 1000 ∧ 1000 * active / 1000 ≤ 950)
      ∧ ∀ active ∈ [49, 951], ¬ (50 ≤ 1000 * active / 1000 ∧ 1000 * active / 1000 ≤ 950) := by decide

/-- The band decision of TRACKING in band 1 of the defaults (300, 500, 700; hysteresis 10) at four means: 510 takes band
2, 509 and 290 keep band 1, 289 takes band 0. -/
theorem witness_HeightEdges_bands :
    let c := HeightConfig.atReset
    let up := fun (mean : Nat) (j : Fin 4) => 1 < j ∧ j.val < c.bands ∧ c.boundary j.val + c.hysteresis ≤ mean
    let down := fun (mean : Nat) (j : Fin 4) =>
      j < 1 ∧ j.val + 1 < c.bands ∧ mean + c.hysteresis < c.boundary (j.val + 1)
    (up 510 2 ∧ ∀ j, up 510 j → j ≤ 2) ∧ (∀ m ∈ [509, 290], (∀ j, ¬ up m j) ∧ ∀ j, ¬ down m j)
      ∧ ((∀ j, ¬ up 289 j) ∧ down 289 0 ∧ ∀ j, down 289 j → 0 ≤ j)
      ∧ (let s := tracking [490, 490, 490, 490, 490, 490, 490, 490] 1 1000
        s.height.window.length = 8 ∧ s.height.state = .tracking ∧ s.height.band = some 1 ∧ s.height.config.auto = true
          ∧ s.loader.state = .idle ∧ s.loader.standby = .empty ∧ s.loader.activeSet ≠ some s.height.config.map[2]
          ∧ s.loader.damaged[2] = false ∧ s.store.sessionOn 2 = false ∧ s.store.holder = .nobody ∧ s.store.line = []) := by
  decide

/-- The filter (R102): an edge 3 µs after the last acceptance has not had its four samples, one 4 µs after it has. -/
theorem test_filter :
    let s : State := { calm with height := { calm.height with
      accepted := some false, run := some { level := false, length := 4 }, filterSince := 100 } }
    (after s (.hgtActiveEdge 103)).height.accepted = some false
      ∧ (after s (.hgtActiveEdge 104)).height.accepted = some true
      ∧ (after s (.hgtActiveEdge 104)).height.run = some { level := true, length := 4 } := by decide

theorem witness_HeightOtherEvents :
    (calm.power.inReset = false ∧ calm.height.accepted = none ∧ calm.height.state ≠ .stopped
        ∧ calm.height.filterSince + 4 ≤ max 4 (calm.now / 27) ∧ ¬ calm.height.filterSince + 4 ≤ max 3 (calm.now / 27))
      ∧ (let s : State := { calm with height := { calm.height with accepted := some true } }
        s.height.accepted = some s.height.config.polarity ∧ s.height.heldEdge = none ∧ s.height.accepted ≠ none)
      ∧ ({ calm with height := { calm.height with accepted := some true, heldEdge := some 0 } } : State).height.heldEdge
        = some 0
      ∧ (parked false).height.silence = none
      ∧ (calm.height.silence = some 540000 ∧ (measured 0 1).height.invalid < 2 ∧ (measured 0 2).height.invalid = 2)
      ∧ ({ measured 0 2 with height := { (measured 0 2).height with state := .fault } } : State).height.state = .fault
      ∧ (let h : Height := { calm.height with accepted := some true, run := some { level := true, length := 4 } }
        h.accepted = some true ∧ h.run = some { level := true, length := 4 } ∧ 3 ≤ 3) := by decide

/-- The records of a set of VOID tiles in black, in set 7. -/
def blankSet : Memory := Memory.writeAll 0xFF [] (24576 * 7 + 1024) (List.replicate 22400 0)

/-- Flash in which set 7 holds them and is COMPLETE with a sum. -/
def finished (sum : Word) : Memory :=
  Memory.writeAll 0xFF (Memory.writeAll 0xFF blankSet (24576 * 7) plainMarkRow) (24576 * 7 + 256) (completeMarkRow sum)

theorem blankSet_wf : Memory.wf 0xFF blankSet := Memory.writeAll_wf _ _ _ _ ⟨List.Pairwise.nil, fun _ h => by cases h⟩

theorem finished_complete (sum : Word) :
    (entryFromFlash (finished sum) 7).state = .complete ∧ (entryFromFlash (finished sum) 7).sum = some sum := by
  have marked := Memory.writeAll_wf 0xFF plainMarkRow _ (24576 * 7) blankSet_wf
  have n0 := length_plainMarkRow
  have n1 := length_completeMarkRow sum
  refine entryFromFlash_complete _ 7 sum ?_ ?_ ?_
  · refine (Memory.readAll_writeAll_apart _ _ _ (24576 * 7 + 256) (24576 * 7) 256 marked (by omega)).trans ?_
    exact n0 ▸ Memory.readAll_writeAll 0xFF plainMarkRow _ (24576 * 7) blankSet_wf
  · have reads := Memory.readAll_writeAll 0xFF (completeMarkRow sum) _ (24576 * 7 + 256) marked
    rwa [n1] at reads
  · refine (Memory.readAll_writeAll_apart _ _ _ (24576 * 7 + 256) (24576 * 7 + 768) 256 marked (by omega)).trans ?_
    refine (Memory.readAll_writeAll_apart _ _ _ (24576 * 7) (24576 * 7 + 768) 256 blankSet_wf (by omega)).trans ?_
    refine (Memory.readAll_writeAll_apart _ _ _ (24576 * 7 + 1024) (24576 * 7 + 768) 256
      ⟨List.Pairwise.nil, fun _ h => by cases h⟩ (by omega)).trans ?_
    exact Memory.readAll_nil _ _ _

theorem finished_byte (sum : Word) (b : Nat) (h : b < 22400) :
    Memory.read 0xFF (finished sum) (24576 * 7 + 1024 + b) = 0 := by
  have marked := Memory.writeAll_wf 0xFF plainMarkRow _ (24576 * 7) blankSet_wf
  have n0 := length_plainMarkRow
  have n1 := length_completeMarkRow sum
  rw [finished, Memory.read_writeAll _ _ _ _ _ marked, if_neg (by omega), Memory.read_writeAll _ _ _ _ _ blankSet_wf,
    if_neg (by omega), blankSet, Memory.read_writeAll _ _ _ _ _ ⟨List.Pairwise.nil, fun _ h => by cases h⟩,
    List.length_replicate, if_pos (by omega), List.getElem?_replicate, if_pos (by omega)]
  rfl

/-- The hypotheses of LOAD_END about the records and their sum: met with the sum 0, and met but for the sum with 1. -/
theorem witness_LoadedRecords (sum : Word) :
    (∀ r ∈ (List.range 560).map fun t => TileRecord.ofBytes ((List.range 40).map fun b =>
      Memory.read 0xFF (finished sum) (24576 * 7 + 1024 + 40 * t + b)), r.wellFormed = true)
      ∧ byteSum ((List.range 22400).map fun b => Memory.read 0xFF (finished sum) (24576 * 7 + 1024 + b)) = 0 := by
  constructor
  · intro r hr
    obtain ⟨t, ht, rfl⟩ := List.mem_map.mp hr
    rw [List.mem_range] at ht
    have zeros : ((List.range 40).map fun b => Memory.read 0xFF (finished sum) (24576 * 7 + 1024 + 40 * t + b))
        = List.replicate 40 0 := by
      refine List.eq_replicate_iff.mpr ⟨by rw [List.length_map, List.length_range], fun x hx => ?_⟩
      obtain ⟨b, hb, rfl⟩ := List.mem_map.mp hx
      rw [List.mem_range] at hb
      rw [Nat.add_assoc]
      exact finished_byte sum _ (by omega)
    rw [zeros]; decide
  · have zeros : ((List.range 22400).map fun b => Memory.read 0xFF (finished sum) (24576 * 7 + 1024 + b))
        = List.replicate 22400 0 := by
      refine List.eq_replicate_iff.mpr ⟨by rw [List.length_map, List.length_range], fun x hx => ?_⟩
      obtain ⟨b, hb, rfl⟩ := List.mem_map.mp hx
      exact finished_byte sum b (List.mem_range.mp hb)
    rw [zeros]; exact byteSum_zeros _

/-- `calm` with a load of set 7 holding the flash. -/
def loading (marksRead : Bool) : State :=
  { withLoader (.loading 7 0 marksRead) (.loading 7) with store := { calm.store with holder := .loader } }

theorem witness_Loading :
    (let s : State := { withLoader (.waitingStore 7) .empty with store := { calm.store with line := [.loader] } }
     s.power.inReset = false ∧ s.loader.state = .waitingStore 7 ∧ s.store.holder = .nobody ∧ s.store.line = .loader :: [])
      ∧ State.reset.store.holder ≠ .nobody
      ∧ ((loading false).loader.state = .loading 7 0 false ∧ (loading false).store.holder = .loader
        ∧ (entryFromFlash [] 7).state ≠ .complete ∧ (loading false).store.flash = [])
      ∧ (loading true).loader.state = .loading 7 0 true
      ∧ ((State.reset.power.inReset = false ∧ State.reset.store.holder = .scan 43200)
        ∧ State.reset.loader.state = .idle ∧ State.reset.loader.active = .empty ∧ State.reset.loader.damaged[7] = false
        ∧ State.reset.store.session = none ∧ State.reset.store.line = [])
      ∧ (∀ due, calm.store.holder ≠ .scan due)
      ∧ ((entryFromFlash (finished 0) 7).state = .complete ∧ (entryFromFlash (finished 0) 7).sum = some 0
        ∧ (entryFromFlash (finished 1) 7).sum ≠ some 0) :=
  ⟨by decide, by decide, ⟨rfl, rfl, by decide +kernel, rfl⟩, by decide, by decide, (fun _ h => by cases h),
    (finished_complete 0).1, (finished_complete 0).2, by rw [(finished_complete 1).2]; decide⟩

/-- The hypotheses of LOAD_END about an ill-formed record: in erased flash record 0 is one. -/
theorem witness_IllFormedRecord :
    ∃ r, ((List.range 560).map fun t => TileRecord.ofBytes ((List.range 40).map fun b =>
      Memory.read 0xFF [] (24576 * 7 + 1024 + 40 * t + b)))[0]? = some r ∧ r.wellFormed = false := by
  refine ⟨_, List.getElem?_map.trans (congrArg _ (List.getElem?_range (by decide : 0 < 560))), ?_⟩
  decide +kernel

theorem witness_StoreStepEnds :
    (let s : State := { withStep (.erase 47) .pending with store :=
        { (withStep (.erase 47) .pending).store with line := [.store] } }
     s.store.step = some { kind := .erase 47, phase := .pending } ∧ s.store.holder = .nobody
      ∧ s.store.line = .store :: [])
      ∧ (State.reset.store.holder ≠ .nobody ∧ calm.store.step = none ∧ calm.store.trailing = none ∧ calm.store.line = []
        ∧ calm.link.resetWait = .clear)
      ∧ (∀ q : Fin 6, let s : State := { withStep (.erase ⟨q.val, by omega⟩) (.running 648000) with store :=
          { (withStep (.erase ⟨q.val, by omega⟩) (.running 648000)).store with
            session := some { session .erasing 0 4 with eraseSector := q.val } } }
        s.store.step = some { kind := .erase ⟨q.val, by omega⟩, phase := .running 648000 } ∧ q.val / 6 = (0 : Fin 8).val
          ∧ s.store.session = some { session .erasing 0 4 with eraseSector := q.val })
      ∧ ((0 : Fin 48).val % 6 = 0 ∧ (1 : Fin 48).val = 6 * (0 : Fin 8).val + 0 + 1
        ∧ (5 : Fin 48).val = 6 * (0 : Fin 8).val + 4 + 1)
      ∧ (let s := (withStep (.openMark 7) (.running 40500))
        s.store.step = some { kind := .openMark 7, phase := .running 40500 })
      ∧ ((receiving 12 4 480).store.staging.length < 512 ∧ 256 ≤ (receiving 12 4 480).store.staging.length
        ∧ (withSession (session .closing 560 91) 128).store.staging.length = 128)
      ∧ (∀ k ∈ [StepKind.recordRow 0 4, .completeMark 0 0, .lockMark 7, .retireMark 7],
        (withStep k (.running 40500)).store.step = some { kind := k, phase := .running 40500 }) := by decide +kernel

/-- A step that an abort of a session on set 0 left running, with `n` bytes staged. -/
def trailing (k : StepKind) (due n : Nat) : State :=
  { withStep k (.running due) with store := { (withStep k (.running due)).store with
      holder := .store, staging := List.replicate n 0
      trailing := some { set := 0, cause := .calWe, nextIndex := 12 } } }

theorem witness_StoreStepEnds_trailing :
    ∀ k ∈ [StepKind.erase 0, .erase 5, .openMark 0, .recordRow 0 4, .completeMark 0 0],
      (trailing k 40500 256).store.step = some { kind := k, phase := .running 40500 }
        ∧ (trailing k 40500 256).store.trailing = some { set := 0, cause := .calWe, nextIndex := 12 }
        ∧ (trailing k 40500 256).store.session = none ∧ (trailing k 40500 256).store.staging.length ≤ 256
        ∧ ((after (trailing k 40500 256) k.ending).link.record .storeAborted).pending = true := by decide +kernel

theorem witness_CalWe :
    (calm.power.inReset = false ∧ ¬ (calm.store.calSampled = some true ∧ true ≠ calm.store.calDebounced))
      ∧ (let s : State := { receiving 3 4 120 with store := { (receiving 3 4 120).store with calSampled := some false } }
        (s.store.calSampled = some false ∧ false ≠ s.store.calDebounced)
          ∧ s.store.session = some (session .receiving 3 4) ∧ s.store.step = none)
      ∧ (let s : State := { disabled with store := { disabled.store with calSampled := some true } }
        s.store.calSampled = some true ∧ true ≠ s.store.calDebounced) := by decide

/-- `calm` with line 0 an input that has read HIGH once over a debounced LOW, with a role and a wake enable. -/
def rising (role : LineRole) (wake : Bool) : State :=
  withLine fun l =>
    { l with
      config := { l.config with role := role, wake := wake }
      prev := some true, debounced := some false }

theorem witness_LineEvents :
    (calm.power.inReset = false ∧ calm.lines.line[0].config.out = false ∧ calm.lines.line[0].config.role ≠ .reverse
        ∧ calm.lines.line[0].debounced = none ∧ calm.power.state ≠ .parked)
      ∧ ((rising .none false).lines.line[0].debounced = some (!true) ∧ (rising .none false).lines.line[0].prev = some true
        ∧ (rising .none false).lines.line[0].debounced ≠ none)
      ∧ (calm.lines.line[0].prev ≠ some true ∧ calm.lines.line[0].mismatch = 0)
      ∧ (let s := withLine fun l => { l with config := { l.config with out := true }, mismatch := 1 }
        s.lines.line[0].config.out = true ∧ s.lines.line[0].mismatch = 1 ∧ s.lines.line[0].flag = false)
      ∧ (let s := withLine fun l => { l with config := { l.config with out := true }, mismatch := 2, flag := true }
        s.lines.line[0].config.out = true ∧ s.lines.line[0].flag = true) := by decide
/-- `s` with line 0 an input that has not been sampled, with the role and the wake enable given, and auto-start. -/
def unsampled (role : LineRole) (wake auto : Bool) (s : State) : State :=
  { s with lines := { s.lines with
      autoStart := auto
      line := update s.lines.line 0 fun l =>
        { l with config := { l.config with out := false, role := role, wake := wake }, debounced := none } } }

/-- First samples: in PARKED of a line that wakes, and of a REVERSE line outside and in PARKED, with auto-start off and
on. -/
theorem witness_LineEvents_first :
    (let s := unsampled .none true false (parked true)
     s.power.state = .parked ∧ s.lines.line[0].config.role ≠ .reverse ∧ s.lines.line[0].debounced = none
      ∧ s.lines.line[0].config.wake = true ∧ s.lines.line[0].snapshot = none)
      ∧ (∀ auto : Bool, ∀ s ∈ [calm, parked true],
        (unsampled .reverse false auto s).power.inReset = false
          ∧ (unsampled .reverse false auto s).lines.line[0].config.role = .reverse
          ∧ (unsampled .reverse false auto s).lines.line[0].debounced = none
          ∧ (unsampled .reverse false auto s).reverse = false
          ∧ (unsampled .reverse false auto s).lines.autoStart = auto)
      ∧ (calm.power.state ≠ .parked ∧ (parked true).power.state = .parked) := by decide

/-- `rising` while PARKED, with the snapshot and auto-start given. -/
def risingParked (role : LineRole) (snapshot : Option Bool) (auto : Bool) : State :=
  { parked true with lines := { calm.lines with
      autoStart := auto
      line := update (rising role true).lines.line 0 fun l => { l with snapshot := snapshot } } }

theorem witness_LineWakesAndReverse_parked :
    ∀ auto : Bool, ∀ snapshot ∈ [none, some true, some false],
      let s := risingParked .reverse snapshot auto
      s.power.inReset = false ∧ s.lines.line[0].config.out = false ∧ s.lines.line[0].debounced = some (!true)
        ∧ s.lines.line[0].prev = some true ∧ s.power.state = .parked ∧ s.lines.line[0].config.role = .reverse
        ∧ true = s.lines.line[0].config.active ∧ s.reverse = false ∧ s.lines.line[0].snapshot = snapshot
        ∧ s.lines.autoStart = auto := by decide

/-- A REVERSE line that wakes the part brings it to RUN with auto-start on; one that does not leaves it PARKED, and
REVERSE_ON says so (R150, R164). -/
theorem test_reverse_parked :
    ((after (risingParked .reverse (some false) true) (.lineAcceptedChange 0 true)).power.state = .run
        ∧ (after (risingParked .reverse (some false) true) (.lineAcceptedChange 0 true)).pace.runState = .running)
      ∧ ((after (risingParked .reverse none true) (.lineAcceptedChange 0 true)).power.state = .parked
        ∧ ((after (risingParked .reverse none true) (.lineAcceptedChange 0 true)).link.record .reverseOn).detail
          = [0, 3]) := by decide

theorem witness_LineWakesAndReverse :
    (let s : State := { parked true with lines := { calm.lines with line := update calm.lines.line 0 fun l =>
        { l with
          config := { l.config with wake := true }
          prev := some true, debounced := some false, snapshot := some false } } }
     s.power.inReset = false ∧ s.lines.line[0].config.out = false ∧ s.lines.line[0].debounced = some (!true)
      ∧ s.lines.line[0].prev = some true ∧ s.power.state = .parked ∧ s.lines.line[0].config.role ≠ .reverse
      ∧ s.lines.line[0].snapshot = some (!true))
      ∧ ((rising .reverse false).power.state ≠ .parked ∧ (rising .reverse false).lines.line[0].config.role = .reverse
        ∧ true = (rising .reverse false).lines.line[0].config.active ∧ (rising .reverse false).reverse = false
        ∧ (rising .reverse false).lines.autoStart = false)
      ∧ (let s : State := { rising .reverse false with lines := { (rising .reverse false).lines with autoStart := true } }
        s.reverse = false ∧ s.lines.autoStart = true) := by decide
theorem witness_VehicleLineSample : calm.power.inReset = false := by rfl

theorem witness_SupplyEvents :
    (calm.power.inReset = false ∧ (supplied false 0 0).supply.low = false
        ∧ 2 * (supplied false 0 0).supply.threshold ≤ 140 ∧ 139 < 2 * (supplied false 0 0).supply.threshold
        ∧ (supplied false 0 0).supply.lowCount = 0 ∧ (supplied false 1 0).supply.lowCount = 1)
      ∧ ((supplied true 0 0).supply.low = true ∧ 155 < 2 * (supplied true 0 0).supply.threshold + 16
        ∧ 2 * (supplied true 0 0).supply.threshold + 16 ≤ 156 ∧ (supplied true 0 18).supply.restoreCount < 19
        ∧ (supplied true 0 19).supply.restoreCount = 19) := by decide

/-- After a return of the supply PICTURE_OK waits for a completion, though the newest composite has no FILLED tile
(R159). -/
theorem test_picture_waits :
    let s : State := { paced .running with
      supply := (supplied true 0 19).supply
      lines := { calm.lines with filled := some 0 } }
    (after s (.vsenseReading 156)).supply.low = false ∧ (after s (.vsenseReading 156)).lines.filled = some 0
      ∧ (after s (.vsenseReading 156)).pictureOk = false
      ∧ ((after s (.vsenseReading 156)).toPart.takeFilled 0).pictureOk = true := by decide

theorem witness_TransferEnd :
    calm.display.transfer = none
      ∧ ((displaying false).power.inReset = false ∧ (displaying false).display.held = false
        ∧ (displaying false).display.transfer = some { due := 574080, statusLine := [], content := .composite 0 })
      ∧ (displaying true).display.held = true
      ∧ (let s : State := { displaying true with engine := { calm.engine with
            previous := some 1, buffers := update calm.engine.buffers 1 fun b => { b with state := .done } } }
        s.supply.low = false ∧ s.engine.BuffersOk ∧ s.engine.buffers[1].state = .done)
      ∧ (let s : State := { displaying true with engine := { calm.engine with
            previous := some 1, buffers := update calm.engine.buffers 1 fun b => { b with state := .shown } } }
        s.engine.BuffersOk ∧ s.engine.buffers[1].state = .shown ∧ ∀ b : Fin 3, s.engine.buffers[b].state ≠ .done)
      ∧ (∀ b : Fin 3, (displaying true).engine.buffers[b].state = .free) := by
  unfold Engine.BuffersOk; decide

end Sys2Proof.Tests
end

section
/-! PROOF. PORT_CONFIGURE (R36): how a port number and a reply's status are read, the request's effect in its three cases,
and its obligation. -/

namespace Sys2Proof.Machine

/-! ### Port numbers and the status of an accepted request -/

@[simp] theorem camera?_ofNat (i : Fin 4) : camera? (BitVec.ofNat 8 i.val) = some i := by
  have hi : (BitVec.ofNat 8 i.val).toNat = i.val := by
    rw [BitVec.toNat_ofNat]
    omega
  simp only [camera?, hi, i.isLt, dite_true, Fin.eta]

theorem camera?_eq_none {port : Byte} (h : 4 ≤ port.toNat) : camera? port = none :=
  dif_neg (Nat.not_lt.mpr h)

/-- A request that puts three values in force answers OK when each is the one it gave, OK_CLAMPED otherwise. -/
theorem stAccepted_three (x x' y y' z z' : Nat) :
    stAccepted (x != x' || y != y' || z != z') = if x = x' ∧ y = y' ∧ z = z' then 0x00 else 0x01 := by
  by_cases h : x = x' ∧ y = y' ∧ z = z'
  · obtain ⟨rfl, rfl, rfl⟩ := h
    simp [stAccepted, stOk]
  · have hchanged : (x != x' || y != y' || z != z') = true := by
      simp only [Bool.or_eq_true, bne_iff_ne]
      omega
    rw [if_neg h, hchanged]
    rfl

/-! ### What PORT_CONFIGURE does (R36) -/

/-- The port with the three values of PORT_CONFIGURE in force. -/
def Port.configured (settle watchdog : Half) (limit : Byte) (q : Port) : Port :=
  { q with
    settle := settleInForce settle.toNat, watchdog := watchdogInForce watchdog.toNat, limit := min 3 limit.toNat }

theorem exec_portConfigure (tag port : Byte) (settle watchdog : Half) (limit : Byte) (s : State) :
    exec (.portConfigure tag port settle watchdog limit) s
      = s.act (Part.answer 0x10 tag (doPortConfigure port settle watchdog limit)) := rfl

theorem doPortConfigure_configured (i : Fin 4) (settle watchdog : Half) (limit : Byte) (p : Part)
    (h : p.ports[i].state ≠ .standby) :
    doPortConfigure (BitVec.ofNat 8 i.val) settle watchdog limit p
      = ((if settleInForce settle.toNat = settle.toNat ∧ watchdogInForce watchdog.toNat = watchdog.toNat
            ∧ min 3 limit.toNat = limit.toNat then 0x00 else 0x01) :: BitVec.ofNat 8 i.val ::
          (le16 (settleInForce settle.toNat) ++ le16 (watchdogInForce watchdog.toNat) ++ [byte (min 3 limit.toNat)]),
        p.onPort i (Port.configured settle watchdog limit)) := by
  simp only [doPortConfigure, camera?_ofNat, if_neg h, stAccepted_three]
  rfl

theorem doPortConfigure_standby (i : Fin 4) (settle watchdog : Half) (limit : Byte) (p : Part)
    (h : p.ports[i].state = .standby) :
    doPortConfigure (BitVec.ofNat 8 i.val) settle watchdog limit p = ([0x0B], p) := by
  simp only [doPortConfigure, camera?_ofNat, if_pos h]
  rfl

theorem doPortConfigure_badPort {port : Byte} (settle watchdog : Half) (limit : Byte) (p : Part) (h : 4 ≤ port.toNat) :
    doPortConfigure port settle watchdog limit p = ([0x04], p) := by
  simp only [doPortConfigure, camera?_eq_none h]
  rfl

/-- After a POWER-ON reset every port holds its reset values (R40). -/
theorem State.reset_port (i : Fin 4) : State.reset.ports[i] = Port.atReset := by
  match i with
  | 0 => rfl
  | 1 => rfl
  | 2 => rfl
  | 3 => rfl

/-! ### The obligation -/

/-- Settles O22: the effect's three cases, each answered as a taken request, and the ports at reset. -/
theorem portConfigure : Obligations.PortConfigure := by
  unfold Obligations.PortConfigure
  intro s tag port settle watchdog limit hs
  refine ⟨?configured, ?standby, ?badPort, ?defaults⟩
  case configured =>
    rintro i rfl hstate
    rw [exec_portConfigure]
    exact State.act_effect _ _ _ _ _ _ _ hs rfl (doPortConfigure_configured i settle watchdog limit _ hstate)
  case standby =>
    rintro i rfl hstate
    rw [exec_portConfigure]
    exact State.act_refused _ _ _ _ _ _ hs rfl (doPortConfigure_standby i settle watchdog limit _ hstate)
  case badPort =>
    intro hport
    rw [exec_portConfigure]
    exact State.act_refused _ _ _ _ _ _ hs rfl (doPortConfigure_badPort settle watchdog limit _ hport)
  case defaults =>
    intro i
    rw [State.reset_port]
    exact ⟨rfl, rfl, rfl⟩

end Sys2Proof.Machine
end

section
/-! PROOF. BALANCE_SET_GAIN and BALANCE_RESET (R99, R100): the status of a request that puts one value in force, the
change each request makes to the gains, the requests' effects, and their obligation. -/

namespace Sys2Proof.Machine

/-- A request that puts one value in force answers OK when it is the one it gave, OK_CLAMPED otherwise. -/
theorem stAccepted_one (x x' : Nat) : stAccepted (x != x') = if x = x' then 0x00 else 0x01 := by
  by_cases h : x = x'
  · rw [if_pos h, bne_eq_false_iff_eq.mpr h]
    rfl
  · rw [if_neg h, bne_iff_ne.mpr h]
    rfl

/-! ### What the two requests do to the gains -/

/-- The part with `g` written as the gain of camera `c` (R99). -/
def Part.gainSet (c : Fin 4) (g : Nat) (p : Part) : Part :=
  { p with balancer := { p.balancer with
      gains := update p.balancer.gains c fun _ => g, written := update p.balancer.written c fun _ => true } }

/-- The part with all four gains written as 1024 (R100). -/
def Part.gainsReset (p : Part) : Part :=
  { p with balancer := { p.balancer with
      gains := #v[1024, 1024, 1024, 1024], written := #v[true, true, true, true] } }

theorem exec_balanceSetGain (tag camera : Byte) (gain : Half) (s : State) :
    exec (.balanceSetGain tag camera gain) s = s.act (Part.answer 0x29 tag (doBalanceSetGain camera gain)) := rfl

theorem exec_balanceReset (tag : Byte) (s : State) :
    exec (.balanceReset tag) s = s.act (Part.answer 0x2A tag doBalanceReset) := rfl

theorem doBalanceSetGain_camera (c : Fin 4) (gain : Half) (p : Part) :
    doBalanceSetGain (BitVec.ofNat 8 c.val) gain p
      = ((if clamp 512 2048 gain.toNat = gain.toNat then 0x00 else 0x01) :: BitVec.ofNat 8 c.val ::
          le16 (clamp 512 2048 gain.toNat),
        p.gainSet c (clamp 512 2048 gain.toNat)) := by
  simp only [doBalanceSetGain, camera?_ofNat, stAccepted_one, Part.gainSet]

theorem doBalanceSetGain_badCamera {camera : Byte} (gain : Half) (p : Part) (h : 4 ≤ camera.toNat) :
    doBalanceSetGain camera gain p = ([0x04], p) := by
  simp only [doBalanceSetGain, camera?_eq_none h]
  rfl

theorem doBalanceReset_eq (p : Part) : doBalanceReset p = ([0x00], p.gainsReset) := rfl

/-! ### The obligation -/

/-- Settles O28: each request is taken, and answers with its effect on the balancer or, for a camera above 3, with its
refusal. -/
theorem balanceGains : Obligations.BalanceGains := by
  unfold Obligations.BalanceGains
  refine ⟨fun s tag gain hs => ⟨?written, ?badCamera⟩, ?reset⟩
  case written =>
    intro c
    rw [exec_balanceSetGain]
    exact State.act_effect _ _ _ _ _ _ _ hs rfl (doBalanceSetGain_camera c gain _)
  case badCamera =>
    intro camera hcamera
    rw [exec_balanceSetGain]
    exact State.act_refused _ _ _ _ _ _ hs rfl (doBalanceSetGain_badCamera gain _ hcamera)
  case reset =>
    intro s tag hs
    rw [exec_balanceReset]
    exact State.act_effect _ _ _ _ _ _ _ hs rfl (doBalanceReset_eq _)

end Sys2Proof.Machine
end

section
/-! PROOF. WAKE_CONFIGURE and SUPPLY_CONFIGURE (R166, R167): how a two-valued argument and a byte of eight flags are
read, the two requests' effects, and their obligation. -/

namespace Sys2Proof.Machine

/-! ### Two-valued arguments and flags in a byte -/

/-- A byte below 2 is the code of OFF or of ON. -/
theorem bit?_of_lt_two {value : Byte} (h : value.toNat < 2) : bit? value = some (value == 1) := by
  obtain rfl | rfl : value = 0 ∨ value = 1 := by bv_omega
  · rfl
  · rfl

theorem bit?_eq_none {value : Byte} (h : 2 ≤ value.toNat) : bit? value = none := by
  have hoff : value ≠ 0 := by bv_omega
  have hon : value ≠ 1 := by bv_omega
  rw [bit?, if_neg hoff, if_neg hon]

/-- The code of what a byte below 2 is read as is the byte itself. -/
theorem bit_beq_one {value : Byte} (h : value.toNat < 2) : bit (value == 1) = value := by
  obtain rfl | rfl : value = 0 ∨ value = 1 := by bv_omega
  · rfl
  · rfl

/-- Once the flags of the places in `ks` are put into a byte, a bit is set if it was set before, or if its place is one
of them and its flag holds. -/
theorem getLsbD_foldl_flags (f : Fin 8 → Bool) (ks : List (Fin 8)) (acc : Byte) (i : Fin 8) :
    (ks.foldl (fun acc k => if f k then acc ||| BitVec.twoPow 8 k.val else acc) acc).getLsbD i.val
      = (acc.getLsbD i.val || (decide (i ∈ ks) && f i)) := by
  induction ks generalizing acc with
  | nil => simp
  | cons k ks ih =>
    rw [List.foldl_cons, ih]
    by_cases hik : i = k
    · subst hik
      cases f i <;> simp
    · have hval : i.val ≠ k.val := fun h => hik (Fin.ext h)
      cases f k <;> simp [hik, hval]

@[simp] theorem getLsbD_flags8 (f : Fin 8 → Bool) (i : Fin 8) : (flags8 f).getLsbD i.val = f i := by
  rw [flags8, getLsbD_foldl_flags]
  simp

/-! ### What WAKE_CONFIGURE does (R166) -/

/-- The part with link wake ON or OFF. -/
def Part.linkWakeSet (on : Bool) (p : Part) : Part := { p with power := { p.power with linkWake := on } }

theorem exec_wakeConfigure (tag value : Byte) (s : State) :
    exec (.wakeConfigure tag value) s = s.act (Part.answer 0x49 tag (doWakeConfigure value)) := rfl

theorem doWakeConfigure_code {value : Byte} (p : Part) (h : value.toNat < 2) :
    doWakeConfigure value p = ([0x00, value, p.lines.wakeBits], p.linkWakeSet (value == 1)) := by
  simp only [doWakeConfigure, bit?_of_lt_two h, bit_beq_one h]
  rfl

theorem doWakeConfigure_badValue {value : Byte} (p : Part) (h : 2 ≤ value.toNat) :
    doWakeConfigure value p = ([0x04], p) := by
  simp only [doWakeConfigure, bit?_eq_none h]
  rfl

/-! ### What SUPPLY_CONFIGURE does (R167) -/

/-- The part with the threshold given, both counts at 0 and the supply state kept. -/
def Part.thresholdSet (v : Nat) (p : Part) : Part :=
  { p with supply := { p.supply with threshold := v, lowCount := 0, restoreCount := 0 } }

theorem exec_supplyConfigure (tag threshold : Byte) (s : State) :
    exec (.supplyConfigure tag threshold) s = s.act (Part.answer 0x4A tag (doSupplyConfigure threshold)) := rfl

/-- The threshold in force is the highest of the four that is not above the value given, or the lowest of them. -/
theorem thresholdInForce_eq (n : Nat) :
    thresholdInForce n = if 80 ≤ n then 80 else if 75 ≤ n then 75 else if 70 ≤ n then 70 else 65 := by
  rw [thresholdInForce, clamp]
  split
  · omega
  · split
    · omega
    · split <;> omega

theorem doSupplyConfigure_eq (threshold : Byte) (p : Part) :
    doSupplyConfigure threshold p
      = ([if thresholdInForce threshold.toNat = threshold.toNat then 0x00 else 0x01,
            BitVec.ofNat 8 (thresholdInForce threshold.toNat), bit p.supply.low] ++ le16OrNone p.supply.last,
        p.thresholdSet (thresholdInForce threshold.toNat)) := by
  simp only [doSupplyConfigure, stAccepted_one]
  rfl

/-! ### The obligation -/

/-- Settles O38: each request is taken, and answers with its effect on link wake or on the supply monitor, or, for a
wake value above 1, with its refusal. -/
theorem wakeAndSupplyConfigure : Obligations.WakeAndSupplyConfigure := by
  unfold Obligations.WakeAndSupplyConfigure
  refine ⟨fun s tag value hs => ⟨?linkWake, ?badValue⟩, rfl, ?supply⟩
  case linkWake =>
    intro hvalue
    refine ⟨(s.awake 0x49).lines.wakeBits, fun i => getLsbD_flags8 _ i, ?_⟩
    rw [exec_wakeConfigure]
    exact State.act_effect _ _ _ _ _ _ _ hs rfl (doWakeConfigure_code _ hvalue)
  case badValue =>
    intro hvalue
    rw [exec_wakeConfigure]
    exact State.act_refused _ _ _ _ _ _ hs rfl (doWakeConfigure_badValue _ hvalue)
  case supply =>
    intro s tag threshold hs
    simp only [← thresholdInForce_eq]
    rw [exec_supplyConfigure]
    exact State.act_effect _ _ _ _ _ _ _ hs rfl (doSupplyConfigure_eq threshold _)

end Sys2Proof.Machine
end

section
/-! PROOF. IDENTIFY (R188): the range of the die revision, the request's effect, and its obligation. -/

namespace Sys2Proof.Machine

/-- The die revision is 1..255, whatever the constant behind it is. -/
theorem revision_mem_range : 1 ≤ Config.revision ∧ Config.revision ≤ 255 := by
  have hlt : Config.revisionLess1.val < 255 := Config.revisionLess1.isLt
  rw [Config.revision]
  omega

theorem exec_identify (tag : Byte) (s : State) :
    exec (.identify tag) s = s.act (Part.answer 0x01 tag doIdentify) := rfl

/-- The reply's numbers as bytes, low byte first: 4120, the die revision, 256, 4 and 18. The part stays as it is. -/
theorem doIdentify_eq (p : Part) :
    doIdentify p = ([0x00, 0x18, 0x10, BitVec.ofNat 8 Config.revision, 0x00, 0x01, 0x04, 0x12], p) := rfl

/-! ### The obligation -/

/-- Settles O16: the request is taken and answered without effect; the revision of the reply is the model's constant. -/
theorem identifyReply : Obligations.IdentifyReply := by
  unfold Obligations.IdentifyReply
  obtain ⟨hlow, hhigh⟩ := revision_mem_range
  refine ⟨Config.revision, hlow, hhigh, fun s tag hs => ?_⟩
  rw [exec_identify]
  exact State.act_refused _ _ _ _ _ _ hs rfl (doIdentify_eq _)

end Sys2Proof.Machine
end

section
/-! PROOF. The machine as a whole: the change that each command makes to the part, said once; a step as one of these
changes or one tick; that commands leave the queue alone; and that the part right after reset is sound. -/

namespace Sys2Proof.Machine

/-! ### Every command is a change of the part -/

/-- The change that a command makes to the part. -/
def Instr.change (c : Instr) (p : Part) : Part :=
  match exec c { toPart := p, pending := [] } with
  | .next t => t.toPart
  | _ => p

/-- A command answers with its change, and neither reads nor changes the queue. -/
theorem exec_eq_change (c : Instr) (s : State) : exec c s = .next { s with toPart := Instr.change c s.toPart } := by
  cases c <;> rfl

/-- What a step can do: the change of one command, or one tick of the clock. -/
theorem step_cases {s t : State} (h : step s = .next t) :
    (∃ c, t.toPart = Instr.change c s.toPart) ∨ t.toPart = s.toPart.tick := by
  unfold step at h
  split at h
  case h_1 c rest _ =>
    rw [exec_eq_change] at h
    cases h
    exact .inl ⟨c, rfl⟩
  case h_2 =>
    split at h
    case h_1 c _ =>
      rw [exec_eq_change] at h
      cases h
      exact .inl ⟨c, rfl⟩
    case h_2 =>
      cases h
      exact .inr rfl

/-! ### The obligations -/

/-- Settles O1: the first case of `step`. -/
theorem stepRunsFrontCommand : Obligations.StepRunsFrontCommand := by
  unfold Obligations.StepRunsFrontCommand
  intro c rest s
  rfl

/-- Settles O3: every command is a change of the part alone. -/
theorem commandsLeaveQueue : Obligations.CommandsLeaveQueue := by
  unfold Obligations.CommandsLeaveQueue
  intro c s t h
  rw [exec_eq_change] at h
  cases h
  exact ⟨rfl, fun q => exec_eq_change c { s with pending := q }⟩

/-! ### The part right after reset -/

theorem Port.atReset_powerOk : Port.atReset.PowerOk := rfl

theorem Port.atReset_buffer (b : Fin 3) : Port.atReset.buffers[b] = FrameBuffer.atReset := by
  match b with
  | 0 | 1 | 2 => rfl

theorem Port.atReset_buffersOk : Port.atReset.BuffersOk := by
  refine ⟨List.nodup_nil, fun b => ?_, fun a b ha => ?_, fun a b ha => ?_, fun _ b hb => ?_⟩
  · rw [Port.atReset_buffer]
    simp [Port.atReset, FrameBuffer.atReset]
  all_goals
    rw [Port.atReset_buffer] at *
    contradiction

theorem Engine.atReset_buffer (b : Fin 3) : Engine.atReset.buffers[b] = CompositeBuffer.atReset := by
  match b with
  | 0 | 1 | 2 => rfl

theorem Engine.atReset_buffersOk : Engine.atReset.BuffersOk := by
  refine ⟨fun a b ha => ?_, ⟨fun _ b => ?_, fun _ => rfl⟩, fun b hb => ?_, fun b hb => nomatch hb⟩
  · rw [Engine.atReset_buffer] at ha
    contradiction
  · rw [Engine.atReset_buffer]
    decide
  · rw [Engine.atReset_buffer] at hb
    contradiction

theorem Link.atReset_record (k : Fin 18) : ∃ n, n ≤ 3 ∧ Link.atReset.records[k] = .clear n := by
  revert k
  decide

theorem PendingRecord.clear_ok {n : Nat} (h : n ≤ 3) : (PendingRecord.clear n).Ok := by
  simp [PendingRecord.Ok, PendingRecord.clear, h]

theorem Link.atReset_recordsOk : Link.atReset.RecordsOk := by
  intro k
  obtain ⟨n, hn, h⟩ := Link.atReset_record k
  exact h ▸ PendingRecord.clear_ok hn

theorem Link.atReset_settled : Link.atReset.Settled := by
  refine ⟨Nat.zero_le _, rfl, fun _ => ⟨rfl, fun k => ?_⟩⟩
  obtain ⟨n, _, h⟩ := Link.atReset_record k
  rw [h]
  rfl

theorem Pace.atReset_ok : Pace.atReset.Ok := by
  refine ⟨?_, ?_, iff_of_true rfl ⟨0, rfl⟩⟩ <;> simp [PaceSettings.Ok, Pace.atReset, PaceSettings.atReset]

theorem Balancer.atReset_ok : Balancer.atReset.Ok := by
  refine ⟨fun c => ?_, by decide, by decide⟩
  match c with
  | 0 | 1 | 2 | 3 => exact ⟨by decide, by decide⟩

theorem Height.atReset_ok (since : Nat) (silence : Option Nat) : (Height.atReset since silence).Ok := by
  simp [Height.Ok, Height.atReset]

theorem Line.atReset_ok : Line.atReset.Ok := by simp [Line.Ok, Line.atReset, LineConfig.atReset]

theorem Lines.atReset_line (i : Fin 8) : Lines.atReset.line[i] = Line.atReset := by
  match i with
  | 0 | 1 | 2 | 3 | 4 | 5 | 6 | 7 => rfl

/-- After a full reset every port holds its reset values (R40). -/
theorem Part.afterFullReset_port (cause : ResetCause) (flash : Memory) (now draws : Nat) (i : Fin 4) :
    (Part.afterFullReset cause flash now draws).ports[i] = Port.atReset := by
  match i with
  | 0 | 1 | 2 | 3 => rfl

/-- Settles O2: each unit's reset values are sound, and nothing is in hand that ties two units together. -/
theorem resetIsSound : Obligations.ResetIsSound := by
  unfold Obligations.ResetIsSound
  refine ⟨Link.atReset_settled, Link.atReset_recordsOk, ?ports, ?frames, ?quiet, Pace.atReset_ok,
    Engine.atReset_buffersOk, ?wait, Balancer.atReset_ok, ?supply, Height.atReset_ok _ _, ?follows, ⟨.nil, by simp [State.reset, Part.afterFullReset, Store.atReset]⟩,
    rfl, ?arbiter, ?apart, ?spares, ?session, ?lines⟩
  case ports =>
    intro i
    rw [State.reset_port]
    exact Port.atReset_powerOk
  case frames =>
    intro i
    rw [State.reset_port]
    refine ⟨Port.atReset_buffersOk, fun h => (nomatch h), fun _ b => ?_⟩
    rw [Port.atReset_buffer]
    decide
  case quiet => exact fun _ => ⟨rfl, rfl, rfl, rfl⟩
  case wait => exact fun _ _ h => nomatch h
  case supply => exact ⟨.inr (.inl rfl), fun h => (nomatch h), fun _ => ⟨rfl, Nat.zero_le _⟩⟩
  case follows => exact ⟨fun h => (nomatch h), fun h => (nomatch h)⟩
  case arbiter =>
    refine ⟨⟨fun h => ?_, fun ⟨_, _, _, h⟩ => ?_⟩, ⟨fun h => ?_, fun h => ?_⟩, ⟨fun h => ?_, fun ⟨_, h⟩ => ?_⟩,
      ⟨fun h => ?_, fun ⟨_, h⟩ => ?_⟩, List.nodup_nil⟩ <;> nomatch h
  case apart => exact fun _ h => nomatch h
  case spares => exact ⟨fun _ h => (nomatch h), fun _ h => (nomatch h), fun _ => ⟨rfl, rfl⟩, fun _ _ h => (nomatch h)⟩
  case session => exact ⟨by decide, fun _ h => (nomatch h), fun _ _ _ h => (nomatch h), fun _ _ h => (nomatch h)⟩
  case lines =>
    intro i
    show Line.Ok Lines.atReset.line[i] ∧ (_ → Line.snapshot Lines.atReset.line[i] = none)
    rw [Lines.atReset_line]
    exact ⟨Line.atReset_ok, fun _ => rfl⟩

end Sys2Proof.Machine
end

section
/-! PROOF. What a command can do to the part, said once for every invariant: a command is a chain of moves, each a change
of one unit under the condition that keeps that unit sound. Changes that are sound only together with others (the entry
into DOZE or PARKED, the start of the pace, a completion, a change of supply state) are acts, and the kind of a move
says in which of them it occurs. -/

namespace Sys2Proof.Machine

/-! ### Moves of one unit -/

/-- Where a move occurs: anywhere, or only as a part of an entry into DOZE or PARKED, of a start of the pace, of a
completion, of a change of supply state. -/
inductive MoveKind where
  | sound | sleep | launch | commit | supply
  deriving DecidableEq

/-- What the link does of its own, but for taking a reply into its queue. -/
inductive Link.Move (l : Link) : Link → Prop
  | raise (k : EventKind) (d : List Byte) : Move l (l.raise k d)
  | prioritise (pairs : List (Byte × Byte)) : Move l (l.setPriorities pairs).fill
  | clear (kinds : BitVec 24) : Move l (l.clearKinds kinds)
  | wait (w : ResetWait) : Move l { l with resetWait := w }
  | shift (r m : List Byte) : Move l { l with receiver := r, miso := m }
  | leave (n : Nat) : Move l (l.leaveAfter n).fill
  | fill : Move l l.fill

/-- Two ports that differ in nothing that says what state the port and its buffers are in. -/
structure Port.Alike (q r : Port) : Prop where
  state : r.state = q.state
  power : r.power = q.power
  ready : r.ready = q.ready
  buffers : ∀ b : Fin 3, r.buffers[b].state = q.buffers[b].state

/-- No frame buffer of a port is FILLING or READY. -/
def Port.Cleared (q : Port) : Prop := ∀ b : Fin 3, q.buffers[b].state ≠ .filling ∧ q.buffers[b].state ≠ .ready

/-- No frame buffer of a port is IN_USE. -/
def Port.Unused (q : Port) : Prop := ∀ b : Fin 3, q.buffers[b].state ≠ .inUse

/-- A change of a port that keeps it sound, with the supply LOW or not. -/
structure Port.Move (low : Bool) (q r : Port) : Prop where
  power : q.PowerOk → r.PowerOk
  buffers : q.BuffersOk → r.BuffersOk
  cleared : low = true → q.Cleared → r.Cleared
  unused : q.Unused → r.Unused

/-- A change of the pace timer that keeps it in range, and outside RUN STOPPED without a deadline. -/
structure Pace.Move (running : Prop) (t u : Pace) : Prop where
  ok : t.Ok → u.Ok
  quiet : running ∨ (t.runState = .stopped → t.deadline = none → u.runState = .stopped ∧ u.deadline = none)

/-- The steps that a store with its session as it stands may issue. -/
inductive Store.MayIssue (t : Store) : StepKind → Prop
  | erase (x : Session) (e : Nat) (h : t.session = some x) (he : e ≤ 5) : MayIssue t (.erase (sectorOf x.set e))
  | openMark (x : Session) (h : t.session = some x) (hp : x.phase = .erasing) : MayIssue t (.openMark x.set)
  | recordRow (x : Session) (h : t.session = some x) (hs : t.staging ≠ []) (hp : x.phase ≠ .erasing)
      (full : x.phase = .receiving → 256 ≤ t.staging.length) : MayIssue t (.recordRow x.set x.nextRow)
  | completeMark (x : Session) (h : t.session = some x) : MayIssue t (.completeMark x.set x.sum)
  | lockMark (s : Fin 8) (h : t.directory[s].locked = false) (hs : t.session = none) (hn : t.scanning = false) :
      MayIssue t (.lockMark s)
  | retireMark (s : Fin 8) (h : t.directory[s].locked = false) (hn : t.scanning = false) : MayIssue t (.retireMark s)

/-- What the store and the loader do, but for the end of a store step. -/
inductive Part.VaultMove (p : Part) : Store → Loader → Prop
  | calWe (a : Option Bool) (b : Bool) : VaultMove p { p.store with calSampled := a, calDebounced := b } p.loader
  | damaged (v : Vector Bool 8) : VaultMove p p.store { p.loader with damaged := v }
  | drop : VaultMove p p.dropLoad.store p.dropLoad.loader
  | ask (s : Fin 8) (idle : p.loader.state = .idle) (apart : p.store.sessionOn s = false) :
      VaultMove p (p.askLoad s).store (p.askLoad s).loader
  | loadStart (s : Fin 8) (rest : List FlashUser) (hs : p.loader.state = .waitingStore s)
      (hh : p.store.holder = .nobody) (hl : p.store.line = .loader :: rest) :
      VaultMove p { p.store with line := rest, holder := .loader }
        { p.loader with state := .loading s p.now false, standby := .loading s }
  | marksRead (s : Fin 8) (start : Nat) (h : p.loader.state = .loading s start false) :
      VaultMove p p.store { p.loader with state := .loading s start true }
  | fail (s : Fin 8) (start : Nat) (marks : Bool) (h : p.loader.state = .loading s start marks) :
      VaultMove p p.store.releaseLoader p.loader.cleared
  | staged (s : Fin 8) (start : Nat) (marks : Bool) (records : List TileRecord)
      (h : p.loader.state = .loading s start marks) :
      VaultMove p p.store.releaseLoader { p.loader with state := .staged s, standby := .holding s records }
  | scanEnd (due : Nat) (d : Vector SetEntry 8) (h : p.store.holder = .scan due) :
      VaultMove p { p.store with holder := .nobody, directory := d } p.loader
  | issue (k : StepKind) (free : p.store.step = none) (may : p.store.MayIssue k) :
      VaultMove p (p.issueStep k).store p.loader
  | stepStart (k : StepKind) (rest : List FlashUser) (hs : p.store.step = some { kind := k, phase := .pending })
      (hh : p.store.holder = .nobody) (hl : p.store.line = .store :: rest) :
      VaultMove p { p.store with
        line := rest, holder := .store, step := some { kind := k, phase := .running (p.now + k.ticks) } } p.loader
  | withdraw : VaultMove p p.store.withdrawStep p.loader
  | openSession (s : Fin 8) (v : Vector Bool 8) (hs : p.store.session = none) (ht : p.store.step = none)
      (hn : p.store.scanning = false) (hd : p.store.directory[s].locked = false) (hu : p.loader.inUse s = false) :
      VaultMove p { p.store with session := some (.start s), staging := [] } { p.loader with damaged := v }
  | stage (x : Session) (bytes : List Byte) (n : Nat) (sum : Word) (h : p.store.session = some x)
      (hp : x.phase = .receiving) (hb : bytes.length = 40 * n) (hi : x.nextIndex + n ≤ 560)
      (room : p.store.staging.length + 40 * n ≤ 512) :
      VaultMove p { p.store with
        staging := p.store.staging ++ bytes, session := some { x with nextIndex := x.nextIndex + n, sum := sum } } p.loader
  | closing (x : Session) (h : p.store.session = some x) (hp : x.phase = .receiving) :
      VaultMove p { p.store with session := some { x with phase := .closing } } p.loader
  | nextSector (x : Session) (h : p.store.session = some x) (he : x.eraseSector < 5) :
      VaultMove p { p.store with session := some { x with eraseSector := x.eraseSector + 1 } } p.loader
  | endSession : VaultMove p { p.store with session := none } p.loader
  | trailing (a : Option Abort) : VaultMove p { p.store with trailing := a } p.loader
  | abort (bytes : List Byte) (a : Option Abort) (h : bytes.length ≤ p.store.staging.length) :
      VaultMove p { p.store.withdrawStep with session := none, staging := bytes, trailing := a } p.loader

/-! ### Moves of the part -/

/-- One move of the part. -/
inductive Part.Move (p : Part) : MoveKind → Part → Prop
  | clock (t : Nat) : Move p .sound { p with now := t }
  | draws (n : Nat) : Move p .sound { p with draws := n }
  | link {l : Link} (h : p.link.Move l) : Move p .sound { p with link := l }
  | ports {v : Vector Port 4} (h : ∀ i : Fin 4, p.ports[i].Alike v[i]) : Move p .sound { p with ports := v }
  | port (i : Fin 4) {f : Port → Port} (h : Port.Move p.supply.low p.ports[i] (f p.ports[i])) :
      Move p .sound (p.onPort i f)
  | portsSupplied {v : Vector Port 4} (h : ∀ i : Fin 4, p.ports[i].PowerOk → v[i].PowerOk) :
      Move p .supply { p with ports := v }
  | pace {t : Pace} (h : p.pace.Move (p.power.state = .run) t) : Move p .sound { p with pace := t }
  | paceStarts {t : Pace} (h : p.power.state = .run) : Move p .launch { p with pace := t }
  | composeConfigure (hold : Nat) (void : Colour) (divider : Nat) :
      Move p .sound { p with engine := { p.engine with hold := hold, void := void, divider := divider } }
  | dropGather : Move p .sound (p.setSlot .empty)
  | openGather (n : Half) (stale : Nat) (h : p.pace.runState ≠ .stopped) : Move p .sound (p.setSlot (.gathering n stale))
  | closeGather (n : Half) (stale : Nat) (h : p.engine.slot = .gathering n stale) :
      Move p .sound (p.setSlot (.ready n stale)).tryStart
  | scrap : Move p .sound (p.abandon.setSlot .empty)
  | commit (c : Composition) (h : p.engine.inflight = some c) :
      Move p .commit { p with
        engine := p.engine.commit c
        balancer := p.balancer.takeCompletion c.trigger c.latched.gains p.engine.stats
        ports := mapAll p.ports Port.release }
  | start : Move p .commit p.tryStart
  | frame : Move p .sound p.startFrame
  | display {d : Display} (h : d.held = true → p.display.held = true ∨ p.power.state = .run) :
      Move p .sound { p with display := d }
  | balancer {b : Balancer} (h : p.balancer.Ok → b.Ok) : Move p .sound { p with balancer := b }
  | supply {s : Supply} (h : p.supply.Ok → s.Ok) (low : s.low = p.supply.low) : Move p .sound { p with supply := s }
  | supplyState {s : Supply} (h : p.supply.Ok → s.Ok) : Move p .supply { p with supply := s }
  | height {h : Height} (ok : p.height.Ok → h.Ok ∧ (h.state = .stopped ↔ p.height.state = .stopped)) :
      Move p .sound { p with height := h }
  | heightStops : Move p .sleep { p with height := p.height.stop }
  | wake (st : PowerState) (h : p.power.state = .parked) (hs : st ≠ .parked) : Move p .sound (p.leaveParked st)
  | rise (h : p.power.state = .doze) : Move p .sound (p.setPower .run)
  | sleep (st : PowerState) (h : p.power.state ≠ .parked) (hs : st ≠ .run) : Move p .sleep (p.setPower st)
  | linkWake (on : Bool) : Move p .sound { p with power := { p.power with linkWake := on } }
  | line (i : Fin 8) {f : Line → Line} (ok : p.lines.line[i].Ok → (f p.lines.line[i]).Ok)
      (snapshot : p.power.state ≠ .parked → p.lines.line[i].snapshot = none → (f p.lines.line[i]).snapshot = none) :
      Move p .sound (p.onLine i f)
  | snapshots (h : p.power.state = .parked) : Move p .sleep (p.mapLines Line.takeSnapshot)
  | lineUnit (auto : Bool) (filled : Option Nat) (awaiting : Bool) :
      Move p .sound { p with lines := { p.lines with autoStart := auto, filled := filled, awaiting := awaiting } }
  | vault {t : Store} {l : Loader} (h : p.VaultMove t l) : Move p .sound { p with store := t, loader := l }

/-- A chain of steps: none, or a chain with one step more. -/
inductive Chain {α : Type} (r : α → α → Prop) (a : α) : α → Prop
  | refl : Chain r a a
  | tail {b c : α} (h : Chain r a b) (g : r b c) : Chain r a c

/-- A chain of moves that are sound by themselves or of the kind given. -/
def Part.Moves (k : MoveKind) : Part → Part → Prop :=
  Chain fun p q => p.Move .sound q ∨ p.Move k q

/-- What the part does at once: a move that is sound by itself, or moves that are sound only together. -/
inductive Part.Act (p : Part) : MoveKind → Part → Prop
  | move {q : Part} (h : p.Move .sound q) : Act p .sound q
  | doze (h : p.power.state = .run) : Act p .sleep p.enterDoze
  | park (h : p.power.state ≠ .parked) : Act p .sleep p.enterParked
  | launch (h : p.power.state = .run) (hs : p.pace.runState = .stopped) : Act p .launch (p.setRunState .running).boundary
  | complete (c : Composition) (h : p.engine.inflight = some c) : Act p .commit p.completeComposition
  | goLow (h : p.supply.low = false) : Act p .supply p.enterLow
  | restore (h : p.supply.low = true) : Act p .supply p.leaveLow

/-- A chain of acts. -/
def Part.Acts : Part → Part → Prop := Chain fun p q => ∃ k, p.Act k q

/-- A store step ends: what it leaves in flash, directory and session, at the tick of its end. -/
inductive Part.StepEnd (p : Part) : Part → Prop
  | erase (q : Fin 48) (due t : Nat) (h : p.store.step = some { kind := .erase q, phase := .running due }) :
      StepEnd p { p with
        now := t
        store :=
          let e := p.store.endStep (eraseSector p.store.flash q)
          if q.val % 6 = 0 then e.onEntry (setOfSector q) (fun _ => .blank) else e }
  | openMark (s : Fin 8) (due t : Nat) (f : Session → Session) (hf : ∀ x, f x = x ∨ f x = { x with phase := .receiving })
      (h : p.store.step = some { kind := .openMark s, phase := .running due }) :
      StepEnd p { p with
        now := t
        store := { (p.store.endStep (programRow p.store.flash s 0 plainMarkRow)).onEntry s
            (fun e => { e with openMark := .set }) with session := p.store.session.map f } }
  | recordRow (s : Fin 8) (r : Nat) (due t : Nat)
      (h : p.store.step = some { kind := .recordRow s r, phase := .running due }) :
      StepEnd p { p with
        now := t
        store := { p.store.endStep (programRow p.store.flash s r (paddedRow (p.store.staging.take 256))) with
          staging := p.store.staging.drop 256
          session := p.store.session.map fun (x : Session) => { x with nextRow := x.nextRow + 1 } } }
  | completeMark (s : Fin 8) (sum : Word) (due t : Nat)
      (h : p.store.step = some { kind := .completeMark s sum, phase := .running due }) :
      StepEnd p { p with
        now := t
        store := (p.store.endStep (programRow p.store.flash s 1 (completeMarkRow sum))).onEntry s
          (fun e => { e with completeMark := .set, sum := some sum }) }
  | lockMark (s : Fin 8) (due t : Nat) (h : p.store.step = some { kind := .lockMark s, phase := .running due }) :
      StepEnd p { p with
        now := t
        store := (p.store.endStep (programRow p.store.flash s 2 plainMarkRow)).onEntry s
          (fun e => { e with lockMark := .set }) }
  | retireMark (s : Fin 8) (due t : Nat) (h : p.store.step = some { kind := .retireMark s, phase := .running due }) :
      StepEnd p { p with
        now := t
        store := (p.store.endStep (programRow p.store.flash s 3 plainMarkRow)).onEntry s
          (fun e => { e with retireMark := .set }) }

/-- What a command does between two commands: acts, and replies that join a queue of at most three. -/
inductive Part.Turn (p : Part) : Part → Prop
  | act {k : MoveKind} {q : Part} (h : p.Act k q) : Turn p q
  | join (f : Frame) (h : p.link.queue.length ≤ 3) : Turn p { p with link := p.link.join f }

/-- A chain of turns. -/
def Part.Turns : Part → Part → Prop := Chain Part.Turn

/-- A reset. -/
inductive Part.Reset (p : Part) : Part → Prop
  | soft : Reset p p.softReset
  | begin (cause : ResetCause) : Reset p (p.beginReset cause)
  | finish : Reset p (Part.afterFullReset p.power.cause p.store.flash p.now p.draws)

/-! ### Chains -/

section
variable {α : Type} {r s : α → α → Prop} {a b c : α}

theorem Chain.single (h : r a b) : Chain r a b := .tail .refl h

theorem Chain.trans (h : Chain r a b) (g : Chain r b c) : Chain r a c := by
  induction g with
  | refl => exact h
  | tail _ step ih => exact .tail ih step

theorem Chain.mono (h : ∀ a b, r a b → s a b) (g : Chain r a b) : Chain s a b := by
  induction g with
  | refl => exact .refl
  | tail _ step ih => exact .tail ih (h _ _ step)

end

theorem Part.Moves.refl {k : MoveKind} (p : Part) : Part.Moves k p p := Chain.refl

theorem Part.Moves.trans {k : MoveKind} {p q r : Part} (h : Part.Moves k p q) (g : Part.Moves k q r) :
    Part.Moves k p r := Chain.trans h g

theorem Part.Move.moves {k : MoveKind} {p q : Part} (h : p.Move .sound q) : Part.Moves k p q :=
  Chain.single (.inl h)

theorem Part.Move.piece {k : MoveKind} {p q : Part} (h : p.Move k q) : Part.Moves k p q :=
  Chain.single (.inr h)

/-- A chain of sound moves is one of any kind. -/
theorem Part.Moves.lift {k : MoveKind} {p q : Part} (h : Part.Moves .sound p q) : Part.Moves k p q :=
  Chain.mono (fun _ _ g => .inl (g.elim id id)) h

theorem Part.Acts.refl (p : Part) : p.Acts p := Chain.refl

theorem Part.Acts.trans {p q r : Part} (h : p.Acts q) (g : q.Acts r) : p.Acts r := Chain.trans h g

theorem Part.Act.acts {k : MoveKind} {p q : Part} (h : p.Act k q) : p.Acts q := Chain.single ⟨k, h⟩

theorem Part.Moves.acts {p q : Part} (h : Part.Moves .sound p q) : p.Acts q :=
  Chain.mono (fun _ _ g => ⟨.sound, .move (g.elim id id)⟩) h

theorem Part.Acts.turns {p q : Part} (h : p.Acts q) : p.Turns q :=
  Chain.mono (fun _ _ ⟨_, g⟩ => .act g) h

theorem Part.Turns.trans {p q r : Part} (h : p.Turns q) (g : q.Turns r) : p.Turns r :=
  Chain.trans h g

/-- What every move of a chain keeps, the chain keeps. -/
theorem Part.Moves.keep {I : Part → Prop} {k : MoveKind} {p q : Part} (h : Part.Moves k p q)
    (sound : ∀ p q : Part, p.Move .sound q → I p → I q) (piece : ∀ p q : Part, p.Move k q → I p → I q) (hp : I p) : I q := by
  induction h with
  | refl => exact hp
  | tail _ g ih => exact g.elim (sound _ _ · ih) (piece _ _ · ih)

theorem Part.Acts.keep {I : Part → Prop} {p q : Part} (h : p.Acts q)
    (act : ∀ (k : MoveKind) (p q : Part), p.Act k q → I p → I q) (hp : I p) : I q := by
  induction h with
  | refl => exact hp
  | tail _ g ih => exact g.elim fun k g => act k _ _ g ih

theorem Part.Turns.keep {I : Part → Prop} {p q : Part} (h : p.Turns q)
    (act : ∀ (k : MoveKind) (p q : Part), p.Act k q → I p → I q)
    (join : ∀ (f : Frame) (p : Part), p.link.queue.length ≤ 3 → I p → I { p with link := p.link.join f }) (hp : I p) :
    I q := by
  induction h with
  | refl => exact hp
  | tail _ g ih =>
    cases g with
    | act g => exact act _ _ _ g ih
    | join f g => exact join f _ g ih

/-! ### The shared operations as moves -/

section
variable (p : Part)

theorem Part.raise_moves (k : EventKind) (d : List Byte) : Part.Moves .sound p (p.raise k d) :=
  (Part.Move.moves (.link (.raise k d)))

theorem Part.at_moves (t : Nat) : Part.Moves .sound p (p.at t) := (Part.Move.moves (.clock _))

theorem Part.onLine_moves (i : Fin 8) {f : Line → Line} (ok : p.lines.line[i].Ok → (f p.lines.line[i]).Ok)
    (snapshot : (f p.lines.line[i]).snapshot = p.lines.line[i].snapshot) : Part.Moves .sound p (p.onLine i f) :=
  (Part.Move.moves (.line i ok fun _ h => snapshot.trans h))

/-- A line with its mismatch check started again is sound if it was. -/
theorem Line.restarted_ok (l : Line) (h : l.Ok) : Line.Ok { l with mismatch := 0, flag := false } := by
  obtain ⟨_, _, _, out⟩ := h
  exact ⟨Nat.zero_le _, by simp, fun _ => rfl, out⟩

theorem Part.clearMismatch_moves (i : Fin 8) : Part.Moves .sound p (p.clearMismatch i) := by
  have cleared := p.onLine_moves i (f := fun l => { l with mismatch := 0, flag := false }) (Line.restarted_ok _) rfl
  simp only [Part.clearMismatch]
  split
  · exact cleared.trans (Part.raise_moves _ _ _)
  · exact cleared

theorem Part.followLine_moves (before : Part) (i : Fin 8) : Part.Moves .sound p (Part.followLine before i p) := by
  simp only [Part.followLine]
  split
  · exact p.clearMismatch_moves i
  · exact .refl p

/-- An operation on each line is a chain of moves if each is. -/
theorem eachLine_acts (f : Fin 8 → Part → Part) (h : ∀ i q, Part.Acts q (f i q)) : p.Acts (eachLine f p) := by
  have two : ∀ {q} (i), p.Acts q → p.Acts (f i q) := fun i g => g.trans (h i _)
  exact two 7 (two 6 (two 5 (two 4 (two 3 (two 2 (two 1 (two 0 (.refl p))))))))

theorem Part.follow_moves (before : Part) : Part.Moves .sound p (before.follow p) := by
  have two : ∀ {q} (i), Part.Moves .sound p q → Part.Moves .sound p (Part.followLine before i q) :=
    fun i g => g.trans (Part.followLine_moves _ before i)
  exact two 7 (two 6 (two 5 (two 4 (two 3 (two 2 (two 1 (two 0 (.refl p))))))))

theorem Part.skipReady_moves : Part.Moves .sound p p.skipReady := by
  unfold Part.skipReady
  split
  · exact p.raise_moves _ _
  · exact .refl p

theorem Part.closeGather_moves : Part.Moves .sound p p.closeGather := by
  unfold Part.closeGather
  split
  case h_1 n stale h => exact (Part.Move.moves (.closeGather n stale h))
  case h_2 => exact .refl p

theorem Part.gatherDeadline_moves (m : Half) : Part.Moves .sound p (p.gatherDeadline m) := by
  unfold Part.gatherDeadline
  split
  · split
    · exact p.closeGather_moves
    · exact .refl p
  · exact .refl p

/-- A pace timer whose deadline goes is as sound as it was, and no less quiet. -/
theorem Pace.noDeadline_move (running : Prop) (t : Pace) : t.Move running { t with deadline := none } :=
  ⟨id, .inr fun h _ => ⟨h, rfl⟩⟩

theorem Pace.cancel_move (running : Prop) (n : Half) (t : Pace) : t.Move running (t.cancel n) := by
  rw [Pace.cancel_eq]
  split
  · exact t.noDeadline_move running
  · exact ⟨id, .inr fun h d => ⟨h, d⟩⟩

theorem Part.gatherTest_moves : Part.Moves .sound p p.gatherTest := by
  unfold Part.gatherTest
  split
  case h_1 n stale h =>
    split
    · exact (Part.Move.moves (.pace (p.pace.cancel_move _ n))).trans (Part.Move.moves (.closeGather n stale h))
    · exact .refl p
  case h_2 => exact .refl p

theorem Part.gatherBoundary_moves (n : Half) (stale : Nat) (h : p.pace.runState ≠ .stopped) :
    Part.Moves .sound p (p.gatherBoundary n stale) := by
  unfold Part.gatherBoundary
  split
  · exact Part.Move.dropGather.moves
  · exact (p.closeGather_moves.trans (Part.skipReady_moves _)).trans (Part.Move.moves (.openGather n stale (by simpa using h)))

theorem Part.requestFrame_moves : Part.Moves .sound p p.requestFrame := by
  unfold Part.requestFrame
  split
  case isTrue h =>
    split
    · exact Part.Move.frame.moves
    · exact (Part.Move.moves (.display fun _ => .inr h))
  case isFalse => exact .refl p

theorem Part.displayBoundary_moves (mode : PaceMode) : Part.Moves .sound p (p.displayBoundary mode) := by
  have taken : Part.Moves .sound p { p with display := { p.display with mode := mode } } :=
    (Part.Move.moves (.display .inl))
  simp only [Part.displayBoundary]
  split
  · exact taken.trans (Part.requestFrame_moves _)
  · exact taken

theorem Part.displayCompletion_moves : Part.Moves .sound p p.displayCompletion := by
  unfold Part.displayCompletion
  split
  · exact p.requestFrame_moves
  · exact .refl p

theorem Part.displayLeavesRun_moves : Part.Moves .sound p p.displayLeavesRun :=
  (Part.Move.moves (.display nofun))

theorem Part.endTransfer_moves : Part.Moves .sound p p.endTransfer := by
  unfold Part.endTransfer
  split
  · exact .refl p
  case h_2 t _ =>
    have ended : Part.Moves .sound p { p.at t.due with display := { p.display with transfer := none } } :=
      (p.at_moves _).trans (Part.Move.moves (.display .inl))
    simp only
    split
    · refine ended.trans (Part.Moves.trans (Part.Move.moves (.display ?_)) (Part.Move.moves .frame))
      exact fun h => absurd h Bool.false_ne_true
    · exact ended

/-! ### The ports in general -/

theorem Part.syncTimer_alike (q : Port) : q.Alike (p.syncTimer q) := by
  unfold Part.syncTimer
  split
  · split <;> exact ⟨rfl, rfl, rfl, fun _ => rfl⟩
  · exact ⟨rfl, rfl, rfl, fun _ => rfl⟩

theorem Part.syncWatchdogs_moves : Part.Moves .sound p p.syncWatchdogs :=
  (Part.Move.moves (.ports fun i => by rw [mapAll_get]; exact p.syncTimer_alike _))

theorem Part.changePort_tail (i : Fin 4) (f : Port → Port) : Part.Moves .sound (p.onPort i f) (p.changePort i f) := by
  simp only [Part.changePort]
  split
  · exact .refl _
  · exact (Part.raise_moves _ _ _).trans (Part.gatherTest_moves _)

theorem Part.changePort_moves (i : Fin 4) (f : Port → Port) (h : Port.Move p.supply.low p.ports[i] (f p.ports[i])) :
    Part.Moves .sound p (p.changePort i f) := (Part.Move.moves (.port i h)).trans (p.changePort_tail i f)

/-! ### The pace timer -/

/-- What happens at a change of run state once the pace timer has changed. -/
theorem Part.setRunState_tail (r : RunState) :
    Part.Moves .sound { p with pace := { p.pace with runState := r } } (p.setRunState r) :=
  (Part.syncWatchdogs_moves _).trans (Part.follow_moves _ p)

theorem PeriodCounter.stop_stopped (now : Nat) (c : PeriodCounter) : ∃ n, c.stop now = .stopped n := by
  cases c <;> exact ⟨_, rfl⟩

theorem Part.enterStopped_moves : Part.Moves .sound p p.enterStopped := by
  refine Part.Moves.trans (Part.Move.moves (.pace (t := { p.pace with
    inForce := p.pace.configured, counter := p.pace.counter.stop p.now, runState := .stopped }) ⟨?_, ?_⟩))
    (Part.setRunState_tail { p with pace := { p.pace with
      inForce := p.pace.configured, counter := p.pace.counter.stop p.now } } .stopped)
  · rintro ⟨configured, _, _⟩
    exact ⟨configured, configured, iff_of_true rfl (PeriodCounter.stop_stopped _ _)⟩
  · exact .inr fun _ h => ⟨rfl, h⟩

theorem Part.forceStop_moves : Part.Moves .sound p p.forceStop := by
  simp only [Part.forceStop]
  split
  · exact (Part.Move.moves (.pace (Pace.noDeadline_move _ _)))
  · exact p.enterStopped_moves.trans (Part.Move.moves (.pace (Pace.noDeadline_move _ _)))

/-- What a boundary does once the pace timer has taken it. -/
theorem Part.boundary_tail (h : p.pace.runState ≠ .stopped) :
    Part.Moves .sound { p with pace := p.pace.boundary p.now } p.boundary := by
  refine ((Part.follow_moves _ p).trans (Part.gatherBoundary_moves _ _ _ ?_)).trans (Part.displayBoundary_moves _ _)
  rw [Part.follow_pace]
  exact h

theorem Part.boundary_moves (h : p.pace.runState = .running) : Part.Moves .sound p p.boundary := by
  refine Part.Moves.trans (Part.Move.moves (.pace ⟨?_, ?_⟩)) (p.boundary_tail (by rw [h]; decide))
  · rintro ⟨configured, _, _⟩
    exact ⟨configured, configured, iff_of_false (by show p.pace.runState ≠ _; rw [h]; decide) nofun⟩
  · exact .inr fun hs => by rw [h] at hs; cases hs

theorem Part.periodEnds_moves : Part.Moves .sound p p.periodEnds := by
  unfold Part.periodEnds
  split
  case h_1 since _ =>
    refine (p.at_moves (since + p.pace.inForce.period)).trans ?_
    unfold Part.endPeriod
    split
    case h_1 h _ => exact Part.boundary_moves _ h
    case h_2 => exact Part.enterStopped_moves _
    case h_3 => exact Part.enterStopped_moves _
    case h_4 => exact .refl _
  case h_2 => exact .refl p

/-- Between RUNNING and STOPPING the run state changes nothing else of the pace timer. -/
theorem Part.setRunState_moves (r : RunState) (h : p.pace.runState ≠ .stopped) (hr : r ≠ .stopped) :
    Part.Moves .sound p (p.setRunState r) := by
  refine Part.Moves.trans (Part.Move.moves (.pace ⟨?_, ?_⟩)) (p.setRunState_tail r)
  · rintro ⟨configured, inForce, counts⟩
    exact ⟨configured, inForce, iff_of_false hr fun g => h (counts.2 g)⟩
  · exact .inr fun hs => absurd hs h

theorem Part.startPace_acts (h : p.power.state = .run) : p.Acts p.startPace := by
  unfold Part.startPace
  split
  case h_1 hs => exact (Part.Act.launch h hs).acts
  case h_2 hs => exact (p.setRunState_moves _ (by rw [hs]; decide) (by decide)).acts
  case h_3 => exact .refl p

/-- The mode written into both copies of the settings keeps them in range. -/
theorem Part.autoStartPace_acts (h : p.power.state = .run) : p.Acts p.autoStartPace := by
  refine Part.Acts.trans (Part.Move.moves (.pace ⟨?_, ?_⟩)).acts (Part.startPace_acts _ h)
  · rintro ⟨configured, inForce, counts⟩
    exact ⟨configured, inForce, counts⟩
  · exact .inr fun hs hd => ⟨hs, hd⟩

theorem Part.capturePulseEnds_moves : Part.Moves .sound p p.capturePulseEnds := by
  unfold Part.capturePulseEnds
  split
  · refine (p.at_moves _).trans (Part.Move.moves (.pace ⟨?_, ?_⟩))
    · exact id
    · exact .inr fun hs hd => ⟨hs, hd⟩
  · exact .refl p

theorem Part.deadlineExpires_moves : Part.Moves .sound p p.deadlineExpires := by
  unfold Part.deadlineExpires
  split
  · exact .refl p
  · exact ((p.at_moves _).trans (Part.Move.moves (.pace (Pace.noDeadline_move _ _)))).trans (Part.gatherDeadline_moves _ _)

/-! ### The power state -/

theorem Part.wake_moves (cause what : Byte) (st : PowerState) (h : p.power.state = .parked) (hs : st ≠ .parked) :
    Part.Moves .sound p (p.wake cause what st) := (Part.Move.moves (.wake st h hs)).trans (Part.raise_moves _ _ _)

theorem Part.wakeByRequest_moves (kind : Byte) : Part.Moves .sound p (p.wakeByRequest kind) := by
  unfold Part.wakeByRequest
  split
  case isTrue h => exact p.wake_moves _ _ _ h.1 (by decide)
  case isFalse => exact .refl p

theorem Part.enterDoze_pieces (h : p.power.state = .run) : Part.Moves .sleep p p.enterDoze := by
  refine Part.Moves.trans (Part.Move.piece (.sleep .doze (by rw [h]; decide) (by decide))) (Part.Moves.lift ?_)
  exact ((Part.forceStop_moves _).trans Part.Move.dropGather.moves).trans (Part.displayLeavesRun_moves _)

end

end Sys2Proof.Machine
end

section
/-! PROOF. The operations of the camera ports, the height monitor and the set loader as chains of moves. -/

namespace Sys2Proof.Machine

/-! ### Frame buffers -/

@[simp] theorem Port.onBuffer_get (b c : Fin 3) (f : FrameBuffer → FrameBuffer) (q : Port) :
    (q.onBuffer b f).buffers[c] = if b = c then f q.buffers[c] else q.buffers[c] := update_get _ _ _ _

@[simp] theorem Port.clearBuffers_get (q : Port) (b : Fin 3) : q.clearBuffers.buffers[b] = q.buffers[b].dropped :=
  mapAll_get _ _ _

theorem FrameBuffer.dropped_state (f : FrameBuffer) :
    f.dropped.state ≠ .filling ∧ f.dropped.state ≠ .ready ∧ (f.dropped.state = .inUse ↔ f.state = .inUse) := by
  cases h : f.state <;> simp [FrameBuffer.dropped, h]

/-- A port whose buffers are cleared as it changes, in a state that its camera power fits. -/
theorem Port.Move.of_clear {low : Bool} {q r : Port} (power : q.PowerOk → r.PowerOk)
    (buffers : r.buffers = q.clearBuffers.buffers) (ready : r.ready = []) : Port.Move low q r := by
  have drop : ∀ b : Fin 3, r.buffers[b] = q.buffers[b].dropped := fun b => by rw [buffers]; exact q.clearBuffers_get b
  have state := fun b : Fin 3 => (q.buffers[b]).dropped_state
  simp only [← drop] at state
  refine ⟨power, fun ⟨_, _, _, one, _⟩ => ⟨by simp [ready], fun b => ?_, fun a _ ha => ?_, fun a b ha hb => ?_,
    fun _ b => (state b).1⟩, fun _ _ b => ⟨(state b).1, (state b).2.1⟩, fun h b hb => h b ((state b).2.2.1 hb)⟩
  · rw [ready]
    exact iff_of_false List.not_mem_nil (state b).2.1
  · exact absurd ha (state a).1
  · exact one a b ((state a).2.2.1 ha) ((state b).2.2.1 hb)

/-- A port that changes its state with its buffers as they are: it goes on watching for frames, or did not before. -/
theorem Port.Move.of_kept {low : Bool} {q r : Port} (power : q.PowerOk → r.PowerOk) (buffers : r.buffers = q.buffers)
    (ready : r.ready = q.ready) (watches : r.state.watches = false → q.state.watches = false) : Port.Move low q r := by
  refine ⟨power, ?_, ?_, ?_⟩
  · rintro ⟨nodup, mem, filling, inUse, idle⟩
    simp only [Port.BuffersOk, buffers, ready]
    exact ⟨nodup, mem, filling, inUse, fun h => idle (watches h)⟩
  · simp only [Port.Cleared, buffers]
    exact fun _ h => h
  · simp only [Port.Unused, buffers]
    exact id

theorem Port.freeBuffer_state (b c : Fin 3) (q : Port) :
    (q.freeBuffer b).buffers[c].state = if b = c then .free else q.buffers[c].state := by
  rw [Port.freeBuffer, Port.onBuffer_get]
  split <;> rfl

/-- A FILLING buffer that becomes FREE leaves the port sound. -/
theorem Port.freeBuffer_move {low : Bool} {q : Port} {b : Fin 3} (hb : q.buffers[b].state = .filling) :
    Port.Move low q (q.freeBuffer b) := by
  have kept : ∀ (c : Fin 3) (st : BufferState), st ≠ .free → (q.freeBuffer b).buffers[c].state = st → q.buffers[c].state = st := by
    intro c st hst h
    rw [Port.freeBuffer_state] at h
    split at h
    · exact absurd h.symm hst
    · exact h
  refine ⟨id, ?_, fun _ h c => ⟨fun e => (h c).1 (kept c _ (by decide) e), fun e => (h c).2 (kept c _ (by decide) e)⟩,
    fun h c e => h c (kept c _ (by decide) e)⟩
  rintro ⟨nodup, mem, filling, inUse, idle⟩
  refine ⟨nodup, fun c => ?_, fun a c ha hc => filling a c (kept a _ (by decide) ha) (kept c _ (by decide) hc),
    fun a c ha hc => inUse a c (kept a _ (by decide) ha) (kept c _ (by decide) hc),
    fun h c e => idle h c (kept c _ (by decide) e)⟩
  rw [show (q.freeBuffer b).ready = q.ready from rfl, mem c, Port.freeBuffer_state]
  split
  case isTrue h => exact h ▸ iff_of_false (by rw [hb]; decide) (by decide)
  case isFalse => exact Iff.rfl

theorem Port.filling?_some {q : Port} {b : Fin 3} (h : q.filling? = some b) : q.buffers[b].state = .filling := by
  have := List.find?_some h
  simpa using this

theorem Port.filling?_none {q : Port} (h : q.filling? = none) (b : Fin 3) : q.buffers[b].state ≠ .filling := by
  have := List.find?_eq_none.1 h b (List.mem_finRange b)
  simpa using this

theorem Port.free?_some {q : Port} {b : Fin 3} (h : q.free? = some b) : q.buffers[b].state = .free := by
  have := List.find?_some h
  simpa using this

/-- What a new frame does to the buffers' states: one that was not FILLING is FILLING now. -/
theorem Port.beginFrame_cases (tag : Half) (q : Port) :
    q.beginFrame tag = q
      ∨ ∃ b, (∀ c : Fin 3, (q.beginFrame tag).buffers[c].state = if b = c then .filling else q.buffers[c].state)
        ∧ (q.buffers[b].state = .free ∧ (q.beginFrame tag).ready = q.ready
          ∨ q.ready = b :: (q.beginFrame tag).ready) := by
  have taken : ∀ (b c : Fin 3) (r : Port), r.buffers = q.buffers →
      (r.onBuffer b (FrameBuffer.begin tag)).buffers[c].state = if b = c then .filling else q.buffers[c].state := by
    intro b c r hr
    rw [Port.onBuffer_get, hr]
    split <;> rfl
  unfold Port.beginFrame
  split
  case h_1 b h => exact .inr ⟨b, fun c => taken b c q rfl, .inl ⟨Port.free?_some h, rfl⟩⟩
  case h_2 =>
    split
    case h_1 b rest h => exact .inr ⟨b, fun c => taken b c { q with ready := rest } rfl, .inr h⟩
    case h_2 => exact .inl rfl

/-- A new frame leaves a port sound that watches for frames and has none FILLING. -/
theorem Port.beginFrame_buffersOk {tag : Half} {q : Port} (h : q.BuffersOk) (none : ∀ b : Fin 3, q.buffers[b].state ≠ .filling)
    (watches : q.state.watches = true) : (q.beginFrame tag).BuffersOk := by
  have state : (q.beginFrame tag).state = q.state := by
    unfold Port.beginFrame
    split
    · rfl
    · split <;> rfl
  obtain same | ⟨b, st, ready⟩ := q.beginFrame_cases tag
  · rwa [same]
  obtain ⟨nodup, mem, _, inUse, _⟩ := h
  have one : ∀ {c}, (q.beginFrame tag).buffers[c].state = .filling → b = c := by
    intro c hc
    rw [st] at hc
    split at hc
    · assumption
    · exact absurd hc (none c)
  have used : ∀ {c : Fin 3}, (q.beginFrame tag).buffers[c].state = .inUse → q.buffers[c].state = .inUse := by
    intro c hc
    rw [st] at hc
    split at hc
    · cases hc
    · exact hc
  refine ⟨?_, fun c => ?_, fun a c ha hc => (one ha).symm.trans (one hc), fun a c ha hc => inUse a c (used ha) (used hc),
    fun hw => by rw [state, watches] at hw; cases hw⟩
  · obtain ⟨_, hr⟩ | hr := ready
    · rwa [hr]
    · exact (List.nodup_cons.1 (hr ▸ nodup)).2
  · rw [st c]
    obtain ⟨hb, hr⟩ | hr := ready
    · rw [hr, mem c]
      split
      case isTrue h => exact h ▸ iff_of_false (by rw [hb]; decide) (by decide)
      case isFalse => exact Iff.rfl
    · have hm := mem c
      have hn := (List.nodup_cons.1 (hr ▸ nodup)).1
      rw [hr, List.mem_cons] at hm
      split
      case isTrue h => exact iff_of_false (h ▸ hn) (by decide)
      case isFalse h => exact ⟨fun g => hm.1 (.inr g), fun g => (hm.2 g).resolve_left (Ne.symm h)⟩

theorem Port.beginFrame_unused {tag : Half} {q : Port} (h : q.Unused) : (q.beginFrame tag).Unused := by
  obtain same | ⟨b, st, _⟩ := q.beginFrame_cases tag
  · rwa [same]
  · intro c hc
    rw [st] at hc
    split at hc
    · cases hc
    · exact h c hc

theorem Port.beginFrame_powerOk {tag : Half} {q : Port} (h : q.PowerOk) : (q.beginFrame tag).PowerOk := by
  unfold Port.beginFrame
  split
  · exact h
  · split <;> exact h

/-- A good frame end: the FILLING buffer joins the READY list of a port that is LIVE then. -/
theorem Port.goodEnd_move {low : Bool} {q : Port} {b : Fin 3} (hb : q.buffers[b].state = .filling)
    (hw : q.state.watches = true) (hl : low = false) (attempts : Nat) (timer : PortTimer) :
    Port.Move low q { q.onBuffer b (fun f => { f with state := .ready }) with
      ready := q.ready ++ [b], state := .live, attempts := attempts, timer := timer } := by
  have st : ∀ c : Fin 3, (q.onBuffer b (fun f => { f with state := .ready })).buffers[c].state
      = if b = c then .ready else q.buffers[c].state := by
    intro c
    rw [Port.onBuffer_get]
    split <;> rfl
  have kept : ∀ {c : Fin 3} {x : BufferState}, x ≠ .ready →
      (q.onBuffer b (fun f => { f with state := .ready })).buffers[c].state = x → q.buffers[c].state = x := by
    intro c x hx h
    rw [st] at h
    split at h
    · exact absurd h.symm hx
    · exact h
  refine ⟨?_, ?_, fun h => by simp [hl] at h, fun h c hc => h c (kept (by decide) hc)⟩
  · intro h
    cases hs : q.state <;> simp [hs, PortState.watches, Port.PowerOk] at hw h ⊢ <;> exact h
  · rintro ⟨nodup, mem, filling, inUse, _⟩
    have fresh : b ∉ q.ready := fun h => absurd ((mem b).1 h) (by rw [hb]; decide)
    refine ⟨?_, fun c => ?_, fun a c ha hc => filling a c (kept (by decide) ha) (kept (by decide) hc),
      fun a c ha hc => inUse a c (kept (by decide) ha) (kept (by decide) hc), nofun⟩
    · show (q.ready ++ [b]).Nodup
      simp [List.nodup_append, nodup]
      rintro a ha rfl
      exact fresh ha
    · show c ∈ q.ready ++ [b] ↔ (q.onBuffer b (fun f => { f with state := .ready })).buffers[c].state = .ready
      rw [st, List.mem_append, mem c, List.mem_singleton]
      split
      case isTrue h => simp [h]
      case isFalse h => simp [Ne.symm h]

theorem FrameBuffer.takeLine_state (samples : List Byte) (f : FrameBuffer) : (f.takeLine samples).state = f.state := by
  unfold FrameBuffer.takeLine
  split <;> rfl

/-! ### Reception -/

section
variable (p : Part) (i : Fin 4)

/-- A part whose port `i` alone changes, in nothing that says what state it and its buffers are in. -/
theorem Part.onPort_alike {f : Port → Port} (h : p.ports[i].Alike (f p.ports[i])) :
    Part.Moves .sound p (p.onPort i f) := by
  refine Part.Move.moves (.ports fun j => ?_)
  rw [update_get]
  split
  case isTrue e => exact e ▸ h
  case isFalse => exact ⟨rfl, rfl, rfl, fun _ => rfl⟩

theorem Part.onPort_onPort (f g : Port → Port) : (p.onPort i f).onPort i g = p.onPort i (g ∘ f) := by
  simp [Part.onPort, update]

theorem Part.onPort_move (r : Port) (h : Port.Move p.supply.low p.ports[i] r) : Part.Moves .sound p (p.onPort i fun _ => r) :=
  Part.Move.moves (.port i h)

theorem Part.receiving_iff : p.receiving i = true ↔ p.ports[i].state.watches = true ∧ p.supply.low = false := by
  simp [Part.receiving]

theorem Part.takeFrameStart_moves : Part.Moves .sound p (p.takeFrameStart i) := by
  unfold Part.takeFrameStart
  split
  case isFalse => exact .refl p
  case isTrue h =>
    obtain ⟨watches, low⟩ := (p.receiving_iff i).1 h
    unfold Part.abandonFrame
    split
    case h_1 none =>
      refine Part.Move.moves (.port i ⟨Port.beginFrame_powerOk, fun ok => ?_, fun hl => ?_, Port.beginFrame_unused⟩)
      · exact Port.beginFrame_buffersOk ok (Port.filling?_none none) watches
      · rw [low] at hl; cases hl
    case h_2 b some =>
      have hb := Port.filling?_some some
      have freed := Port.freeBuffer_move (low := p.supply.low) hb
      have eq : ((p.onPort i (Port.freeBuffer b)).raise .frameBroken (brokenDetail i p.ports[i].buffers[b].tag 1)).onPort i
          (Port.beginFrame p.pace.trigger)
          = (p.onPort i (Port.beginFrame p.pace.trigger ∘ Port.freeBuffer b)).raise .frameBroken
            (brokenDetail i p.ports[i].buffers[b].tag 1) := by
        rw [← Part.onPort_onPort]
        rfl
      rw [eq]
      refine Part.Moves.trans (Part.Move.moves (.port i ⟨fun ok => ?_, fun ok => ?_, fun hl => ?_, fun ok => ?_⟩))
        (Part.raise_moves _ _ _)
      · exact Port.beginFrame_powerOk ok
      · refine Port.beginFrame_buffersOk (freed.buffers ok) (fun c hc => ?_) watches
        rw [Port.freeBuffer_state] at hc
        split at hc
        case isTrue => cases hc
        case isFalse hn => exact hn (ok.2.2.1 b c hb hc)
      · rw [low] at hl; cases hl
      · exact Port.beginFrame_unused (freed.unused ok)

theorem Part.takeLine_moves (samples : List Byte) : Part.Moves .sound p (p.takeLine i samples) := by
  unfold Part.takeLine
  split
  · split
    · refine p.onPort_alike i ⟨rfl, rfl, rfl, fun c => ?_⟩
      rw [Port.onBuffer_get]
      split
      · exact FrameBuffer.takeLine_state _ _
      · rfl
    · exact .refl p
  · exact .refl p

theorem Part.takeFrameEnd_moves : Part.Moves .sound p (p.takeFrameEnd i) := by
  unfold Part.takeFrameEnd
  split
  case isFalse => exact .refl p
  case isTrue h =>
    obtain ⟨watches, low⟩ := (p.receiving_iff i).1 h
    split
    case h_2 => exact .refl p
    case h_1 b some =>
      have hb := Port.filling?_some some
      split
      · refine Part.Moves.trans (Part.onPort_move p i _ (Port.goodEnd_move hb watches low
          (if p.ports[i].state = .live then p.ports[i].attempts else 0) (p.watchdogTimer p.ports[i]))) ?_
        simp only [Part.goodFrameEnd]
        split
        · exact Part.gatherTest_moves _
        · exact (Part.raise_moves _ _ _).trans (Part.gatherTest_moves _)
      · exact Part.Moves.trans (Part.Move.moves (.port i (Port.freeBuffer_move hb))) (Part.raise_moves _ _ _)

/-! ### Timers, power and standby -/

/-- A port out of service, whatever its attempt counter and timer. -/
theorem Port.powerDown_move {low : Bool} (q : Port) (st : PortState) (attempts : Nat) (timer : PortTimer)
    (h : st = .off ∨ st = .recovering ∨ st = .failed) :
    Port.Move low q { q.powerDown st with attempts := attempts, timer := timer } := by
  refine .of_clear (fun _ => ?_) rfl rfl
  obtain rfl | rfl | rfl := h <;> rfl

/-- A port that does not watch for frames put to POWERING. -/
theorem Port.powerUp_move {low : Bool} (q : Port) (now attempts : Nat) (h : q.state.watches = false) :
    Port.Move low q { q.powerUp now with attempts := attempts } :=
  .of_kept (fun _ => rfl) rfl rfl fun _ => h

/-- The camera of a port that is POWERING, WAITING, LIVE or STALLED is powered. -/
theorem Port.powered_of_ok {q : Port} (h : q.PowerOk)
    (hs : (q.state == .powering || q.state == .waiting || q.state == .live || q.state == .stalled) = true) :
    q.power = true := by
  unfold Port.PowerOk at h
  split at h <;> simp_all

theorem Part.attemptStep_moves : Part.Moves .sound p (p.attemptStep i) := by
  unfold Part.attemptStep
  split
  · exact p.changePort_moves i _ (Port.powerDown_move _ _ _ _ (.inr (.inl rfl)))
  · exact p.changePort_moves i _ (Port.powerDown_move _ _ _ _ (.inr (.inr rfl)))

theorem Part.settleExpires_moves : Part.Moves .sound p (p.settleExpires i) := by
  unfold Part.settleExpires
  split
  case h_1 t hs _ =>
    exact (p.at_moves t).trans (Part.changePort_moves _ i _ (.of_kept (fun h => (Port.powered_of_ok (q := p.ports[i]) h (by rw [hs]; rfl) :)) rfl rfl nofun))
  case h_2 => exact .refl p

theorem Part.watchdogExpires_moves : Part.Moves .sound p (p.watchdogExpires i) := by
  unfold Part.watchdogExpires
  split
  case h_1 t hs _ =>
    exact (p.at_moves t).trans (Part.changePort_moves _ i _ (.of_kept (fun h => (Port.powered_of_ok (q := p.ports[i]) h (by rw [hs]; rfl) :)) rfl rfl nofun))
  case h_2 t _ _ => exact (p.at_moves t).trans (Part.attemptStep_moves _ i)
  case h_3 t _ _ => exact (p.at_moves t).trans (Part.attemptStep_moves _ i)
  case h_4 => exact .refl p

theorem Part.recoveryExpires_moves : Part.Moves .sound p (p.recoveryExpires i) := by
  unfold Part.recoveryExpires
  split
  case h_1 t hs _ =>
    exact (p.at_moves t).trans (Part.changePort_moves _ i _ (Port.powerUp_move _ _ _ (by rw [Part.at_ports, hs]; rfl)))
  case h_2 => exact .refl p

theorem Part.takePowerFault_moves : Part.Moves .sound p (p.takePowerFault i) :=
  (p.changePort_moves i _ (Port.powerDown_move _ _ _ _ (.inr (.inr rfl)))).trans (Part.raise_moves _ _ _)

theorem Part.takeCsns_moves (level : Bool) : Part.Moves .sound p (p.takeCsns i level) := by
  have read := p.onPort_alike i (f := fun q => { q with csns := level }) ⟨rfl, rfl, rfl, fun _ => rfl⟩
  simp only [Part.takeCsns]
  split
  · split
    · exact read.trans (Part.takePowerFault_moves _ i)
    · exact read.trans (Part.onPort_alike _ i ⟨rfl, rfl, rfl, fun _ => rfl⟩)
  · exact read.trans (Part.onPort_alike _ i ⟨rfl, rfl, rfl, fun _ => rfl⟩)

theorem Part.portParked_moves : Part.Moves .sound p (p.portParked i) := by
  unfold Part.portParked
  split
  · exact .refl p
  · exact p.changePort_moves i _ (Port.powerDown_move _ _ _ _ (.inl rfl))

theorem Part.portPoweredOn_moves : Part.Moves .sound p (p.portPoweredOn i) := by
  unfold Part.portPoweredOn
  split
  case isTrue h => exact p.changePort_moves i _ (Port.powerUp_move _ _ _ (by rw [h]; rfl))
  case isFalse => exact .refl p

theorem Part.switchPort_moves (on : Bool) : Part.Moves .sound p (p.switchPort i on) := by
  unfold Part.switchPort
  split
  · split
    case isTrue h =>
      refine p.changePort_moves i _ (Port.powerUp_move _ _ _ ?_)
      obtain h | h := h <;> rw [h] <;> rfl
    case isFalse => exact .refl p
  · split
    · exact .refl p
    · exact p.changePort_moves i _ (Port.powerDown_move _ _ _ _ (.inl rfl))

theorem Part.enterStandby_moves : Part.Moves .sound p (p.changePort i Port.enterStandby) :=
  p.changePort_moves i _ (.of_clear (fun _ => trivial) rfl rfl)

theorem Part.leaveStandby_moves (timer : PortTimer) (h : p.ports[i].state = .standby) :
    Part.Moves .sound p (p.changePort i (Port.leaveStandby timer)) := by
  refine p.changePort_moves i _ ?_
  unfold Port.leaveStandby
  split
  case isTrue on => exact .of_kept (fun _ => on) rfl rfl nofun
  case isFalse off => exact .of_kept (fun _ => Bool.eq_false_iff.2 off) rfl rfl fun _ => by rw [h]; rfl

/-- An operation on each port is a chain of moves if each is. -/
theorem eachPort_moves {k : MoveKind} (f : Fin 4 → Part → Part) (h : ∀ i q, Part.Moves k q (f i q)) :
    Part.Moves k p (eachPort f p) := (((h 0 _).trans (h 1 _)).trans (h 2 _)).trans (h 3 _)

end

/-! ### The set loader -/

section
variable (p : Part)

theorem Part.dropLoad_moves : Part.Moves .sound p p.dropLoad := Part.Move.moves (.vault .drop)

theorem Part.askLoad_moves (s : Fin 8) (idle : p.loader.state = .idle) (apart : p.store.sessionOn s = false) :
    Part.Moves .sound p (p.askLoad s) := by
  have eq : p.askLoad s = { p with store := (p.askLoad s).store, loader := (p.askLoad s).loader } := by
    unfold Part.askLoad
    split <;> rfl
  rw [eq]
  exact Part.Move.moves (.vault (.ask s idle apart))

theorem Part.setUnusable_moves (s : Fin 8) (reason cause : Byte) (index : Option Nat) :
    Part.Moves .sound p (p.setUnusable s reason cause index) := by
  simp only [Part.setUnusable]
  split
  · exact (p.raise_moves _ _).trans (Part.raise_moves _ _ _)
  · exact p.raise_moves _ _

theorem Part.requestSet_moves (s : Fin 8) : Part.Moves .sound p (p.requestSet s) := by
  unfold Part.requestSet
  split
  · exact p.dropLoad_moves
  · split
    · exact .refl p
    · refine p.dropLoad_moves.trans ?_
      simp only []
      split
      · exact Part.setUnusable_moves _ _ _ _ _
      · split
        case isTrue => exact Part.setUnusable_moves _ _ _ _ _
        case isFalse h => exact Part.askLoad_moves _ s rfl (by simpa using h)

theorem Part.loadStarts_moves : Part.Moves .sound p p.loadStarts := by
  unfold Part.loadStarts
  split
  case h_1 s rest hs hh hl => exact Part.Move.moves (.vault (.loadStart s rest hs hh hl))
  case h_2 => exact .refl p

theorem Part.failLoad_moves (s : Fin 8) (start : Nat) (marks : Bool) (h : p.loader.state = .loading s start marks) :
    Part.Moves .sound p p.failLoad := Part.Move.moves (.vault (.fail s start marks h))

theorem Part.loadMarksRead_moves : Part.Moves .sound p p.loadMarksRead := by
  unfold Part.loadMarksRead
  split
  case h_1 s start h =>
    refine (p.at_moves (start + Config.marksTicks)).trans ?_
    simp only
    split
    · exact Part.Move.moves (.vault (.marksRead s start h))
    · exact (Part.failLoad_moves (p.at _) s start false h).trans (Part.setUnusable_moves _ _ _ _ _)
  case h_2 => exact .refl p

theorem Part.loadDamaged_moves (s : Fin 8) (cause : Byte) (index : Option Nat) (start : Nat) (marks : Bool)
    (h : p.loader.state = .loading s start marks) : Part.Moves .sound p (p.loadDamaged s cause index) :=
  ((p.failLoad_moves s start marks h).trans (Part.Move.moves (.vault (.damaged _)))).trans
    (Part.setUnusable_moves _ _ _ _ _)

theorem Part.loadEnds_moves : Part.Moves .sound p p.loadEnds := by
  unfold Part.loadEnds
  split
  case h_1 s start h =>
    refine (p.at_moves (start + Config.loadTicks)).trans ?_
    simp only
    split
    · exact Part.loadDamaged_moves _ s _ _ start true h
    · split
      · exact Part.Move.moves (.vault (.staged s start true _ h))
      · exact Part.loadDamaged_moves _ s _ _ start true h
  case h_2 => exact .refl p

theorem Part.startUpRequest_moves : Part.Moves .sound p p.startUpRequest := by
  unfold Part.startUpRequest
  split
  · exact p.requestSet_moves _
  · exact p.raise_moves _ _

theorem Part.scanEnds_moves : Part.Moves .sound p p.scanEnds := by
  unfold Part.scanEnds
  split
  case h_1 due h =>
    exact ((p.at_moves due).trans (Part.Move.moves (.vault (.scanEnd due _ h)))).trans (Part.startUpRequest_moves _)
  case h_2 => exact .refl p

/-! ### The height monitor -/

theorem Part.setBand_moves (b : Fin 4) (mean : Nat) : Part.Moves .sound p (p.setBand b mean) := by
  unfold Part.setBand
  split
  · exact .refl p
  · exact Part.Moves.trans (Part.Move.moves (.height (h := { p.height with band := some b }) fun ok => ⟨ok, Iff.rfl⟩))
      (Part.raise_moves _ _ _)

theorem Part.decideBand_moves (b : Fin 4) (mean : Nat) : Part.Moves .sound p (p.decideBand b mean) := by
  unfold Part.decideBand
  split
  · exact p.setBand_moves _ _
  · exact (p.setBand_moves _ _).trans (Part.requestSet_moves _ _)

theorem joinWindow_length (w : List Nat) (d : Nat) (h : w.length ≤ 8) : (joinWindow w d).length = min 8 (w.length + 1) := by
  unfold joinWindow
  split
  · simp; omega
  · simp; omega

theorem mem_joinWindow {w : List Nat} {d e : Nat} (h : e ∈ joinWindow w d) : e ∈ w ∨ e = d := by
  unfold joinWindow at h
  rw [List.mem_append, List.mem_singleton] at h
  refine h.imp_left fun h => ?_
  split at h
  · exact List.mem_of_mem_drop h
  · exact h

/-- A valid reading keeps the monitor sound: it joins the window, and the state is TRACKING once the window is full. -/
theorem Height.takeValid_ok {h : Height} (ok : h.Ok) {d : Nat} (low : 50 ≤ d) (high : d ≤ 950) (r : Option Reading)
    (mean : Option Nat) (st : HeightState) (hst : (joinWindow h.window d).length = 8 → st = .tracking)
    (hst' : (joinWindow h.window d).length ≠ 8 → st = h.state) (run : st ≠ .stopped) :
    Height.Ok { h with lastReading := r, invalid := 0, window := joinWindow h.window d, lastMean := mean, state := st } := by
  obtain ⟨filter, short, duties, _, full, _⟩ := ok
  have length := joinWindow_length h.window d short
  refine ⟨filter, by show (joinWindow h.window d).length ≤ 8; omega, fun e he => ?_, Nat.zero_le _, ⟨fun e => ?_, hst⟩, fun e => absurd e run⟩
  · obtain he | rfl := mem_joinWindow he
    · exact duties e he
    · exact ⟨low, high⟩
  · refine Classical.byContradiction fun hn => ?_
    have hl := full.1 ((hst' hn).symm.trans e)
    exact hn (by show (joinWindow h.window d).length = 8; omega)

theorem Part.takeValid_moves (r : Reading) (low : 50 ≤ r.duty) (high : r.duty ≤ 950)
    (run : p.height.Ok → p.height.state ≠ .stopped) : Part.Moves .sound p (p.takeValid r) := by
  simp only [Part.takeValid]
  split
  case isTrue full =>
    refine Part.Moves.trans (Part.Move.moves (.height fun ok => ⟨?_, ?_⟩)) (Part.decideBand_moves _ _ _)
    · exact Height.takeValid_ok ok low high _ _ .tracking (fun _ => rfl) (fun h => absurd full h) (by decide)
    · exact iff_of_false (by decide : HeightState.tracking ≠ .stopped) (run ok)
  case isFalse short =>
    refine Part.Move.moves (.height fun ok => ⟨?_, Iff.rfl⟩)
    exact Height.takeValid_ok ok low high _ p.height.lastMean p.height.state (fun h => absurd h short) (fun _ => rfl) (run ok)

theorem Part.takeInvalid_moves (r : Reading) (run : p.height.Ok → p.height.state ≠ .stopped) :
    Part.Moves .sound p (p.takeInvalid r) := by
  simp only [Part.takeInvalid]
  split
  case isTrue few =>
    refine Part.Move.moves (.height ?_)
    rintro ⟨filter, short, duties, _, full, still⟩
    exact ⟨⟨filter, short, duties, Nat.lt_succ_iff.1 few, full, still⟩, Iff.rfl⟩
  case isFalse =>
    have faulted : Part.Moves .sound p { p with height := { p.height with
        lastReading := some r, invalid := 0, window := [], state := .fault } } := by
      refine Part.Move.moves (.height fun ok => ⟨?_, iff_of_false (by decide : HeightState.fault ≠ .stopped) (run ok)⟩)
      obtain ⟨filter, _⟩ := ok
      exact ⟨filter, Nat.zero_le _, nofun, Nat.zero_le _, iff_of_false (nofun : HeightState.fault ≠ .tracking) (nofun : ¬ 0 = 8), nofun⟩
    split
    · exact faulted
    · exact faulted.trans (Part.raise_moves _ _ _)

theorem Part.takeReading_moves (r : Reading) (valid : r.verdict = .valid → 50 ≤ r.duty ∧ r.duty ≤ 950)
    (run : p.height.Ok → p.height.state ≠ .stopped) : Part.Moves .sound p (p.takeReading r) := by
  unfold Part.takeReading
  split
  case isTrue h => exact p.takeValid_moves r (valid h).1 (valid h).2 run
  case isFalse => exact p.takeInvalid_moves r run

theorem readingOf_valid (active period : Nat) (h : (readingOf active period).verdict = .valid) :
    50 ≤ (readingOf active period).duty ∧ (readingOf active period).duty ≤ 950 := by
  simp only [readingOf, verdictOf] at h ⊢
  split at h
  · cases h
  · split at h
    · cases h
    · omega

theorem Part.acceptEdge_moves (level : Bool) (t : Nat) (run : p.height.state ≠ .stopped) :
    Part.Moves .sound p (p.acceptEdge level t) := by
  rw [Part.acceptEdge_eq]
  refine (p.at_moves (t * 27)).trans (Part.Move.moves (.height fun ok => ⟨?_, Iff.rfl⟩))
  obtain ⟨_, short, duties, few, full, _⟩ := ok
  exact ⟨rfl, short, duties, few, full, fun h => absurd h run⟩

theorem Part.activeEdge_moves (micros : Nat) : Part.Moves .sound p (p.activeEdge micros) := by
  simp only [Part.activeEdge]
  split
  case isFalse => exact .refl p
  case isTrue h =>
    have run := ((Height.edgeTo_iff _ _ _).1 h).1
    have held : Part.Moves .sound p { p.acceptEdge p.height.config.polarity (p.edgeMicros micros) with
        height := { (p.acceptEdge p.height.config.polarity (p.edgeMicros micros)).height with
          heldEdge := some (p.edgeMicros micros) } } :=
      (p.acceptEdge_moves _ _ run).trans (Part.Move.moves (.height fun ok => ⟨ok, Iff.rfl⟩))
    split
    · exact held
    · refine held.trans (Part.takeReading_moves _ _ (readingOf_valid _ _) fun _ => ?_)
      rw [Part.acceptEdge_eq]
      exact run

theorem Part.inactiveEdge_moves (micros : Nat) : Part.Moves .sound p (p.inactiveEdge micros) := by
  simp only [Part.inactiveEdge]
  split
  case isFalse => exact .refl p
  case isTrue h =>
    have edge := p.acceptEdge_moves (!p.height.config.polarity) (p.edgeMicros micros) ((Height.edgeTo_iff _ _ _).1 h).1
    split
    · exact edge
    · exact edge.trans (Part.Move.moves (.height fun ok => ⟨ok, Iff.rfl⟩))

theorem Part.firstLevel_moves (first : FirstLevel) : Part.Moves .sound p (p.firstLevel first) := by
  simp only [Part.firstLevel]
  split
  case isFalse => exact .refl p
  case isTrue =>
    simp only [Part.acceptLevel, Height.fourSamples_spec]
    refine (p.at_moves _).trans (Part.Move.moves (.height fun ok => ⟨?_, Iff.rfl⟩))
    obtain ⟨_, short, duties, few, full, still⟩ := ok
    exact ⟨rfl, short, duties, few, full, still⟩

theorem Part.silenceExpires_moves : Part.Moves .sound p p.silenceExpires := by
  unfold Part.silenceExpires
  split
  case h_1 => exact .refl p
  case h_2 t h =>
    have run : p.height.Ok → p.height.state ≠ .stopped := by
      rintro ⟨_, _, _, _, _, still⟩ hs
      rw [still hs] at h
      cases h
    refine ((p.at_moves t).trans (Part.Move.moves (.height ?_))).trans (Part.takeReading_moves _ _ nofun ?_)
    · intro ok
      have run := run ok
      obtain ⟨filter, short, duties, few, full, _⟩ := ok
      exact ⟨⟨filter, short, duties, few, full, fun h => absurd h run⟩, Iff.rfl⟩
    · rintro ⟨_, _, _, _, _, still⟩ hs
      exact nomatch still hs

theorem Part.redecide_moves : Part.Moves .sound p p.redecide := by
  unfold Part.redecide
  split
  · exact p.setBand_moves _ _
  · exact .refl p

theorem Part.requestMapped_moves : Part.Moves .sound p p.requestMapped := by
  unfold Part.requestMapped
  split
  · split
    · exact p.requestSet_moves _
    · exact .refl p
  · exact .refl p

theorem Height.changePolarity_ok (now : Nat) {h : Height} (ok : h.Ok) : (h.changePolarity now).Ok := by
  obtain ⟨filter, _, _, _, _, still⟩ := ok
  refine ⟨filter, Nat.zero_le _, nofun, Nat.zero_le _, iff_of_false ?_ (nofun : ¬ 0 = 8), ?_⟩
  · simp only [Height.changePolarity]
    split
    · decide
    · assumption
  · simp only [Height.changePolarity]
    intro hs
    have stopped : h.state = .stopped := by
      split at hs
      · cases hs
      · exact hs
    rw [if_pos stopped]
    exact still stopped

theorem Height.changePolarity_stopped (now : Nat) (h : Height) :
    (h.changePolarity now).state = .stopped ↔ h.state = .stopped := by
  simp only [Height.changePolarity]
  split
  case isTrue e => rw [e]; decide
  case isFalse => exact Iff.rfl

theorem Part.applyHeight_moves (c : HeightConfig) : Part.Moves .sound p (p.applyHeight c) := by
  have configured : Part.Moves .sound p { p with height := { p.height with config := c } } :=
    Part.Move.moves (.height fun ok => ⟨ok, Iff.rfl⟩)
  simp only [Part.applyHeight]
  refine (configured.trans ?_).trans (Part.requestMapped_moves _)
  split
  · exact Part.Move.moves (.height fun ok => ⟨Height.changePolarity_ok _ ok, Height.changePolarity_stopped _ _⟩)
  · split
    · exact .refl _
    · exact Part.redecide_moves _

end

end Sys2Proof.Machine
end

section
/-! PROOF. The operations of the vehicle lines and of the calibration store as chains of acts. -/

namespace Sys2Proof.Machine

/-! ### Vehicle lines -/

section
variable (p : Part)

/-- The part comes to RUN from DOZE; every OFF port is powered without a change of the power state. -/
theorem Part.portPoweredOn_power (i : Fin 4) : (p.portPoweredOn i).power = p.power := by
  unfold Part.portPoweredOn
  split
  · exact Part.changePort_power i _ p
  · rfl

theorem Part.autoStart_acts (h : p.power.state ≠ .parked) : p.Acts p.autoStart := by
  have risen : p.Acts (if p.power.state = .doze then p.setPower .run else p) := by
    split
    case isTrue hd => exact (Part.Move.moves (.rise hd)).acts
    case isFalse => exact .refl p
  refine (risen.trans (eachPort_moves _ _ fun i q => q.portPoweredOn_moves i).acts).trans (Part.autoStartPace_acts _ ?_)
  simp only [eachPort, Part.portPoweredOn_power]
  split
  case isTrue => rfl
  case isFalse hd => revert h hd; cases p.power.state <;> simp

theorem Part.reverseOn_acts (i : Fin 8) : p.Acts (p.reverseOn i) := by
  unfold Part.reverseOn
  split
  · split
    · exact (p.raise_moves _ _).acts
    case isFalse h => exact (p.raise_moves _ _).acts.trans (Part.autoStart_acts _ h)
  · exact (p.raise_moves _ _).acts

theorem Part.reverseChange_acts (before : Bool) (i : Fin 8) : p.Acts (p.reverseChange before i) := by
  unfold Part.reverseChange
  split
  · exact p.reverseOn_acts i
  · exact .refl p

theorem Part.reportLine_moves (i : Fin 8) (what : Byte) : Part.Moves .sound p (p.reportLine i what) := by
  unfold Part.reportLine
  split
  · exact p.raise_moves _ _
  · exact .refl p

/-- An input line whose input state changes is sound if it was. -/
theorem Line.input_ok {l : Line} (hout : l.config.out = false) (h : l.Ok) (prev debounced : Option Bool) (raw : Bool)
    (snapshot : Option Bool) :
    Line.Ok { l with prev := prev, debounced := debounced, raw := raw, snapshot := snapshot } := by
  obtain ⟨few, flag, still, _⟩ := h
  exact ⟨few, flag, still, fun g => by rw [show l.config.out = true from g] at hout; cases hout⟩

theorem Part.acceptChange_acts (i : Fin 8) (level : Bool) (hout : p.lines.line[i].config.out = false) :
    p.Acts (p.acceptChange i level) := by
  have accepted : Part.Moves .sound p (p.onLine i fun l => { l with debounced := some level }) :=
    p.onLine_moves i (Line.input_ok hout · _ _ _ _) rfl
  simp only [Part.acceptChange]
  refine Part.Acts.trans (Part.Moves.acts (Part.Moves.trans ?_ (Part.reportLine_moves _ i (bit level))))
    (Part.reverseChange_acts _ _ i)
  split
  case isTrue h =>
    have parked : p.power.state = .parked := by
      simp only [Part.wakesBy, Bool.and_eq_true, beq_iff_eq] at h
      exact h.1
    refine accepted.trans (Part.wake_moves _ _ _ _ parked ?_)
    split <;> decide
  case isFalse => exact accepted

theorem Part.takeFirstSample_acts (i : Fin 8) (level : Bool) (hout : p.lines.line[i].config.out = false) :
    p.Acts (p.takeFirstSample i level) := by
  refine Part.Acts.trans (Part.Moves.acts (Part.Move.moves (.line i (Line.input_ok hout · _ _ _ _) fun hp hs => ?_)))
    (Part.reverseChange_acts _ _ i)
  simp only [Line.firstSample, beq_eq_false_iff_ne.2 hp, Bool.false_and]
  exact hs

theorem Part.sampleIn_acts (i : Fin 8) (level : Bool) : p.Acts (p.sampleIn i level) := by
  simp only [Part.sampleIn]
  split
  case isTrue => exact .refl p
  case isFalse h =>
    have hout := Bool.eq_false_iff.2 h
    have read : p.Acts (p.onLine i fun l => { l with prev := some level, raw := level }) :=
      (p.onLine_moves i (Line.input_ok hout · _ _ _ _) rfl).acts
    have still : (p.onLine i fun l => { l with prev := some level, raw := level }).lines.line[i].config.out = false := by
      simp only [Part.onLine, update_get, if_true]
      exact hout
    split
    · exact read.trans (Part.takeFirstSample_acts _ i level still)
    · split
      · exact read.trans (Part.acceptChange_acts _ i level still)
      · exact read

/-- A differing sample of an output counts up to 2 and sets the flag there. -/
theorem Line.differing_ok {l : Line} (hout : l.config.out = true) (h : l.Ok) :
    Line.Ok { l with mismatch := min 2 (l.mismatch + 1), flag := l.flag || decide (1 ≤ l.mismatch) } := by
  obtain ⟨few, flag, _, out⟩ := h
  refine ⟨Nat.min_le_left _ _, ?_, fun g => (by rw [show l.config.out = false from g] at hout; cases hout), out⟩
  rw [Bool.or_eq_true, decide_eq_true_iff, flag]
  show l.mismatch = 2 ∨ 1 ≤ l.mismatch ↔ min 2 (l.mismatch + 1) = 2
  omega

theorem Part.sampleOut_moves (i : Fin 8) (level : Bool) : Part.Moves .sound p (p.sampleOut i level) := by
  simp only [Part.sampleOut]
  split
  case isFalse => exact .refl p
  case isTrue hout =>
    have read : Part.Moves .sound p (p.onLine i fun l => { l with raw := level }) := p.onLine_moves i id rfl
    have counted := read.trans (Part.onLine_moves _ i
      (f := fun l => { l with mismatch := min 2 (l.mismatch + 1), flag := l.flag || decide (1 ≤ l.mismatch) })
      (Line.differing_ok (by simp only [Part.onLine, update_get, if_true]; exact hout)) rfl)
    split
    · exact read.trans (Part.clearMismatch_moves _ i)
    · split
      · exact counted.trans (Part.reportLine_moves _ i 2)
      · exact counted

theorem Part.sampleLines_acts (levels : BitVec 8) : p.Acts (p.sampleLines levels) :=
  (eachLine_acts p _ fun i q => (q.sampleOut_moves i _).acts).trans (eachLine_acts _ _ fun i q => q.sampleIn_acts i _)

/-- A line that takes a record without wake enable on an output is sound if it was. -/
theorem Line.configure_ok {l : Line} (parked : Bool) {c : LineConfig} (hc : c.out = true → c.wake = false) (h : l.Ok) :
    (l.configure parked c).Ok := by
  obtain ⟨few, flag, still, out⟩ := h
  simp only [Line.configure, Line.Ok]
  split
  case isTrue kept =>
    rw [beq_iff_eq] at kept
    rw [kept, beq_self_eq_true, Bool.true_and]
    rw [kept] at still out
    exact ⟨few, flag, still, fun g => ⟨(out g).2.1 ▸ (out g).1, (out g).2.1, hc g⟩⟩
  case isFalse changed =>
    rw [Bool.eq_false_iff.2 changed]
    exact ⟨Nat.zero_le _, by simp, fun _ => rfl, fun g => ⟨rfl, rfl, hc g⟩⟩

/-- An accepted entry of LINE_CONFIGURE has no wake enable on an output. -/
theorem entry?_wake {e : LineEntry} {x : Fin 8 × LineConfig} (h : entry? e = some x) : x.2.out = true → x.2.wake = false := by
  unfold entry? at h
  split at h
  · split at h
    case isTrue fits =>
      cases h
      rw [Bool.and_eq_true, Bool.not_eq_true', ← Bool.not_eq_true] at fits
      intro hout
      refine Classical.byContradiction fun wakes => ?_
      exact fits.2 (Bool.and_eq_true _ _ ▸ ⟨hout, by rwa [Bool.not_eq_false] at wakes⟩)
    case isFalse => cases h
  · cases h

theorem entries?_wake : ∀ {es : List LineEntry} {xs : List (Fin 8 × LineConfig)}, entries? es = some xs →
    ∀ x ∈ xs, x.2.out = true → x.2.wake = false
  | [], xs, h => by
    cases h
    exact nofun
  | e :: rest, xs, h => by
    unfold entries? at h
    split at h
    case h_1 y ys hy hys =>
      cases h
      intro x hx
      obtain rfl | hx := List.mem_cons.1 hx
      · exact entry?_wake hy
      · exact entries?_wake hys x hx
    case h_2 => cases h

theorem Part.configureLines_moves (xs : List (Fin 8 × LineConfig)) (h : ∀ x ∈ xs, x.2.out = true → x.2.wake = false) :
    Part.Moves .sound p (p.configureLines xs) := by
  induction xs generalizing p with
  | nil => exact .refl p
  | cons x xs ih =>
    refine Part.Moves.trans (Part.Move.moves (.line x.1 (Line.configure_ok _ (h x List.mem_cons_self)) fun hp _ => ?_))
      (ih _ fun y hy => h y (List.mem_cons_of_mem _ hy))
    simp only [Line.configure, Line.newSnapshot, beq_eq_false_iff_ne.2 hp, Bool.not_false, Bool.or_true, if_true]

theorem Part.applyLines_acts (auto : Bool) (xs : List (Fin 8 × LineConfig))
    (h : ∀ x ∈ xs, x.2.out = true → x.2.wake = false) : p.Acts (p.applyLines auto xs) := by
  refine Part.Acts.trans (Part.Moves.acts (Part.Moves.trans (Part.Moves.trans ?_
    (Part.configureLines_moves _ xs h)) (Part.follow_moves _ p))) (Part.reverseChange_acts _ _ _)
  exact Part.Move.moves (.lineUnit auto p.lines.filled p.lines.awaiting)

theorem Part.writeLevels_moves (xs : List (Fin 8 × Bool)) : Part.Moves .sound p (p.writeLevels xs) := by
  have written : ∀ (xs : List (Fin 8 × Bool)) (q : Part),
      Part.Moves .sound q (xs.foldl (fun p x => p.onLine x.1 (Line.withLevel x.2)) q) := by
    intro xs
    induction xs with
    | nil => exact Part.Moves.refl
    | cons x xs ih => exact fun q => Part.Moves.trans (q.onLine_moves x.1 (f := Line.withLevel x.2) id rfl) (ih _)
  exact (written xs p).trans (Part.follow_moves _ p)

end

/-! ### The calibration store -/

section
variable (p : Part)

theorem Part.issueStep_moves (k : StepKind) (free : p.store.step = none) (may : p.store.MayIssue k) :
    Part.Moves .sound p (p.issueStep k) := by
  have eq : p.issueStep k = { p with store := (p.issueStep k).store, loader := p.loader } := by
    unfold Part.issueStep
    split
    · split <;> rfl
    · rfl
  rw [eq]
  exact Part.Move.moves (.vault (.issue k free may))

theorem Part.stepStarts_moves : Part.Moves .sound p p.stepStarts := by
  unfold Part.stepStarts
  split
  case h_1 k rest hs hh hl => exact Part.Move.moves (.vault (.stepStart k rest hs hh hl))
  case h_2 => exact .refl p

theorem Part.advance_moves : Part.Moves .sound p p.advance := by
  unfold Part.advance
  split
  case h_1 x free h =>
    split
    · exact .refl p
    case h_2 hp =>
      split
      case isTrue full =>
        refine p.issueStep_moves _ free (.recordRow x h (fun e => ?_) (by rw [hp]; decide) fun _ => full)
        rw [e] at full
        cases full
      case isFalse => exact .refl p
    case h_3 hp =>
      split
      · exact p.issueStep_moves _ free (.completeMark x h)
      case isFalse hs =>
        exact p.issueStep_moves _ free (.recordRow x h hs (by rw [hp]; decide) (by rw [hp]; nofun))
  case h_2 => exact .refl p

theorem Part.raiseAborted_moves (a : Abort) : Part.Moves .sound p (p.raiseAborted a) := p.raise_moves _ _

theorem Part.abortSession_moves (cause : AbortCause) : Part.Moves .sound p (p.abortSession cause) := by
  unfold Part.abortSession
  split
  · exact .refl p
  case h_2 x h =>
    have short : (if p.store.rowRunning then p.store.staging.take 256 else []).length ≤ p.store.staging.length := by
      split
      · exact List.length_take_le' _ _
      · exact Nat.zero_le _
    simp only
    split
    · exact Part.Move.moves (.vault (.abort _ _ short))
    · exact Part.Moves.trans (Part.Move.moves (.vault (.abort _ p.store.withdrawStep.trailing short)))
        (Part.raiseAborted_moves _ _)

theorem Part.takeCalWe_moves (level : Bool) : Part.Moves .sound p (p.takeCalWe level) := by
  simp only [Part.takeCalWe]
  split
  · have changed : Part.Moves .sound p
        { p with store := { p.store with calSampled := some level, calDebounced := level } } :=
      Part.Move.moves (.vault (.calWe (some level) level))
    split
    · exact changed
    · exact changed.trans (Part.abortSession_moves _ _)
  · exact Part.Move.moves (.vault (.calWe (some level) p.store.calDebounced))

theorem Part.openSession_moves (s : Fin 8) (hs : p.store.session = none) (ht : p.store.step = none)
    (hn : p.store.scanning = false) (hd : p.store.directory[s].locked = false) (hu : p.loader.inUse s = false) :
    Part.Moves .sound p (p.openSession s) :=
  Part.Moves.trans (Part.Move.moves (.vault (.openSession s _ hs ht hn hd hu)))
    (Part.issueStep_moves _ _ ht (.erase (.start s) 0 rfl (Nat.zero_le _)))

theorem length_recordsToBytes (records : List TileRecord) : (recordsToBytes records).length = 40 * records.length := by
  induction records with
  | nil => rfl
  | cons r rs ih =>
    rw [recordsToBytes, List.flatMap_cons, List.length_append, List.length_cons, ← recordsToBytes, ih]
    have : r.toBytes.length = 40 := rfl
    omega

theorem Part.stage_moves (x : Session) (records : List TileRecord) (h : p.store.session = some x)
    (hp : x.phase = .receiving) (hi : x.nextIndex + records.length ≤ 560)
    (room : p.store.staging.length + 40 * records.length ≤ 512) : Part.Moves .sound p (p.stage x records) :=
  Part.Move.moves (.vault (.stage x _ records.length _ h hp (length_recordsToBytes records) hi room))

/-! ### The ends of store steps -/

/-- What follows the end of a step: the report of an abort, or the step's own continuation. -/
theorem Part.afterStep_acts (go : Part → Part) (h : p.store.trailing = none → p.Acts (go p)) : p.Acts (p.afterStep go) := by
  unfold Part.afterStep
  split
  · exact (Part.Moves.trans (Part.Move.moves (.vault (.trailing none))) (Part.raiseAborted_moves _ _)).acts
  case h_2 none => exact h none

theorem Part.afterErase_moves (free : p.store.step = none) : Part.Moves .sound p p.afterErase := by
  unfold Part.afterErase
  split
  case h_1 x h =>
    split
    case h_1 hp =>
      split
      case isTrue he =>
        exact Part.Moves.trans (Part.Move.moves (.vault (.nextSector x h he)))
          (Part.issueStep_moves _ _ free (.erase { x with eraseSector := x.eraseSector + 1 } _ rfl he))
      case isFalse => exact p.issueStep_moves _ free (.openMark x h hp)
    case h_2 => exact .refl p
  case h_2 => exact .refl p

/-- A command that may end a store step: nothing, or the end of the step and then acts. -/
def Part.Ends (q : Part) : Prop := q = p ∨ ∃ r, p.StepEnd r ∧ r.Acts q

theorem Part.eraseEnds_ends : p.Ends p.eraseEnds := by
  unfold Part.eraseEnds
  split
  case h_1 q due h =>
    refine .inr ⟨_, .erase q due _ h, Part.afterStep_acts _ _ fun _ => (Part.afterErase_moves _ ?_).acts⟩
    simp only
    split <;> rfl
  case h_2 => exact .inl rfl

/-- After an open mark program the session is as it was if an abort is to be reported, and else RECEIVING. -/
theorem Part.afterOpenMark_acts (s : Fin 8) (t : Store) :
    ∃ f : Session → Session, (∀ x, f x = x ∨ f x = { x with phase := .receiving }) ∧
      Part.Acts { p with store := { t with session := t.session.map f } }
        ({ p with store := t }.afterStep (Part.afterOpenMark s)) := by
  unfold Part.afterStep
  split
  case h_1 a _ =>
    refine ⟨id, fun _ => .inl rfl, ?_⟩
    rw [Option.map_id]
    exact (Part.Moves.trans (Part.Move.moves (.vault (.trailing none))) (Part.raiseAborted_moves _ a)).acts
  case h_2 => exact ⟨_, fun _ => .inr rfl, (Part.raise_moves _ .storeDone [byte s.val, 1]).acts⟩

theorem Part.openMarkEnds_ends : p.Ends p.openMarkEnds := by
  unfold Part.openMarkEnds
  split
  case h_1 s due h =>
    have ended := fun f hf => Part.StepEnd.openMark s due (p.at due).now f hf h
    generalize plainMarkRow = row at ended ⊢
    obtain ⟨f, hf, acts⟩ := (p.at due).afterOpenMark_acts s ((p.store.endStep
      (programRow p.store.flash s 0 row)).onEntry s fun e => { e with openMark := .set })
    exact .inr ⟨_, ended f hf, acts⟩
  case h_2 => exact .inl rfl

theorem Part.rowProgramEnds_ends : p.Ends p.rowProgramEnds := by
  unfold Part.rowProgramEnds
  split
  case h_1 s r due h =>
    exact .inr ⟨_, .recordRow s r due _ h, Part.afterStep_acts _ _ fun _ => (Part.advance_moves _).acts⟩
  case h_2 => exact .inl rfl

theorem Part.completeMarkEnds_ends : p.Ends p.completeMarkEnds := by
  unfold Part.completeMarkEnds
  split
  case h_1 s sum due h =>
    exact .inr ⟨_, .completeMark s sum due _ h, Part.afterStep_acts _ _ fun _ =>
      (Part.Moves.trans (Part.Move.moves (.vault .endSession)) (Part.raise_moves _ _ _)).acts⟩
  case h_2 => exact .inl rfl

theorem Part.lockMarkEnds_ends : p.Ends p.lockMarkEnds := by
  unfold Part.lockMarkEnds
  split
  case h_1 s due h => exact .inr ⟨_, .lockMark s due _ h, (Part.raise_moves _ _ _).acts⟩
  case h_2 => exact .inl rfl

theorem Part.retireMarkEnds_ends : p.Ends p.retireMarkEnds := by
  unfold Part.retireMarkEnds
  split
  case h_1 s due h => exact .inr ⟨_, .retireMark s due _ h, (Part.raise_moves _ _ _).acts⟩
  case h_2 => exact .inl rfl

end

end Sys2Proof.Machine
end

section
/-! PROOF. The acts that are several moves at once; what each request does, as acts; and what any command can do to the
part. -/

namespace Sys2Proof.Machine

/-! ### Acts as chains of moves -/

section
variable (p : Part)

theorem Part.enterParked_pieces (h : p.power.state ≠ .parked) : Part.Moves .sleep p p.enterParked := by
  refine Part.Moves.trans (Part.Move.piece (.sleep .parked h (by decide))) ?_
  refine Part.Moves.trans (Part.Moves.lift ((Part.forceStop_moves _).trans (Part.Moves.trans (Part.Move.moves .scrap)
    (eachPort_moves _ Part.portParked fun i q => q.portParked_moves i)))) ?_
  refine Part.Moves.trans (Part.Move.piece .heightStops) ?_
  refine Part.Moves.trans (Part.Move.piece (.snapshots ?_)) (Part.Moves.lift (Part.displayLeavesRun_moves _))
  have parked : ∀ (i : Fin 4) (q : Part), (q.portParked i).power = q.power := by
    intro i q
    unfold Part.portParked
    split
    · rfl
    · exact Part.changePort_power _ _ _
  simp only [eachPort, parked, Part.setSlot_power, Part.abandon_power, Part.forceStop_power]
  rfl

theorem Part.launch_pieces (h : p.power.state = .run) :
    Part.Moves .launch p (p.setRunState .running).boundary := by
  refine Part.Moves.trans (Part.Moves.trans (Part.Move.piece (.paceStarts h)) (p.setRunState_tail .running).lift) ?_
  refine Part.Moves.trans (Part.Move.piece (.paceStarts ?_)) (Part.boundary_tail _ ?_).lift
  · rw [Part.setRunState_power]
    exact h
  · rw [Part.setRunState_pace]
    exact nofun

theorem Part.takeFilled_moves (filled : Nat) : Part.Moves .sound p (p.takeFilled filled) :=
  Part.Moves.trans (Part.Move.moves (.lineUnit p.lines.autoStart (some filled) false)) (Part.follow_moves _ p)

/-- A completion is the commit of its composition and then the start of the next. -/
theorem Part.completeComposition_eq {c : Composition} (h : p.engine.inflight = some c) :
    ∃ q, Part.Moves .sound { p.at c.completion with
        engine := p.engine.commit c
        balancer := p.balancer.takeCompletion c.trigger c.latched.gains p.engine.stats
        ports := mapAll p.ports Port.release } q ∧ p.completeComposition = q.tryStart := by
  unfold Part.completeComposition
  rw [h]
  refine ⟨_, ?_, rfl⟩
  refine Part.Moves.trans (Part.Moves.trans ?_ (Part.takeFilled_moves _ _)) (Part.displayCompletion_moves _)
  split
  · exact Part.raise_moves _ .tilesFilled (le16 c.trigger.toNat ++ le16 c.counts.filled)
  · exact .refl _

theorem Part.completeComposition_pieces {c : Composition} (h : p.engine.inflight = some c) :
    Part.Moves .commit p p.completeComposition := by
  obtain ⟨q, moves, eq⟩ := p.completeComposition_eq h
  rw [eq]
  exact ((((p.at_moves c.completion).lift.trans (Part.Move.piece (.commit c h))).trans moves.lift).trans
    (Part.Move.piece .start))

/-- The part at the entry into LOW, before its ports take it. -/
def Part.supplyGone (p : Part) : Part :=
  { p with
    supply := { p.supply with
      low := true, lowCount := 0, restoreCount := 0, holdStart := some p.supply.readings } }.raise .supplyLow
    (le16OrNone p.supply.last ++ [byte p.supply.threshold])

/-- The engine and the display port at the entry into LOW. -/
def Part.freeze (p : Part) : Part :=
  { p.abandon.setSlot .empty with display := { (p.abandon.setSlot .empty).display with frozen := true } }

theorem Part.enterLow_eq : p.enterLow = p.follow p.supplyGone.portsGoLow.freeze := rfl

theorem Part.supplyGone_pieces : Part.Moves .supply p p.supplyGone :=
  Part.Moves.trans (Part.Move.piece (.supplyState (s := { p.supply with
      low := true, lowCount := 0, restoreCount := 0, holdStart := some p.supply.readings }) fun ok =>
      ⟨ok.1, fun _ => ⟨rfl, Nat.zero_le _⟩, fun h => Bool.noConfusion h⟩))
    (Part.raise_moves _ _ _).lift

theorem Part.portsGoLow_pieces : Part.Moves .supply p p.portsGoLow := by
  refine Part.Moves.trans (Part.Move.piece (.portsSupplied fun i ok => ?_)) (Part.syncWatchdogs_moves _).lift
  rw [mapAll_get]
  exact ok

theorem Part.freeze_moves : Part.Moves .sound p p.freeze :=
  (Part.Move.moves .scrap).trans (Part.Move.moves (.display .inl))

theorem Part.enterLow_pieces : Part.Moves .supply p p.enterLow :=
  (p.supplyGone_pieces.trans (Part.portsGoLow_pieces _)).trans
    ((Part.freeze_moves _).trans (Part.follow_moves _ p)).lift

theorem Port.powerUp_powerOk (q : Port) (now : Nat) : (q.powerUp now).PowerOk := rfl

/-- A port that settles again, and what the gatherer makes of it. -/
theorem Part.portRestored_pieces (i : Fin 4) : Part.Moves .supply p (p.portRestored i) := by
  unfold Part.portRestored
  split
  · refine Part.Moves.trans (Part.Move.piece (.portsSupplied fun j ok => ?_)) (p.changePort_tail i _).lift
    rw [update_get]
    split
    · exact Port.powerUp_powerOk _ _
    · exact ok
  · exact .refl p

/-- The part at the return to NORMAL, before its ports take it. -/
def Part.supplyBack (p : Part) : Part :=
  { p with
    supply := { p.supply with low := false, lowCount := 0, restoreCount := 0 }
    lines := { p.lines with awaiting := true } }.raise .supplyRestored (le16 p.supply.holdLength)

theorem Part.leaveLow_eq : p.leaveLow = p.follow (eachPort Part.portRestored p.supplyBack).syncWatchdogs := rfl

theorem Part.supplyBack_pieces : Part.Moves .supply p p.supplyBack := by
  refine Part.Moves.trans (Part.Move.piece (.supplyState
      (s := { p.supply with low := false, lowCount := 0, restoreCount := 0 }) fun ok =>
      ⟨ok.1, fun h => Bool.noConfusion h, fun _ => ⟨rfl, Nat.zero_le _⟩⟩))
    (Part.Moves.lift (Part.Moves.trans ?_ (Part.raise_moves _ _ _)))
  exact Part.Move.moves (.lineUnit p.lines.autoStart p.lines.filled true)

theorem Part.leaveLow_pieces : Part.Moves .supply p p.leaveLow :=
  (p.supplyBack_pieces.trans (eachPort_moves _ _ fun i q => q.portRestored_pieces i)).trans
    ((Part.syncWatchdogs_moves _).trans (Part.follow_moves _ p)).lift

end

/-- Every act is a chain of moves, sound ones or of the act's own kind. -/
theorem Part.Act.chain {p q : Part} {k : MoveKind} (h : p.Act k q) : Part.Moves k p q := by
  cases h with
  | move h => exact h.moves
  | doze h => exact p.enterDoze_pieces h
  | park h => exact p.enterParked_pieces h
  | launch h _ => exact p.launch_pieces h
  | complete c h => exact p.completeComposition_pieces h
  | goLow _ => exact p.enterLow_pieces
  | restore _ => exact p.leaveLow_pieces

theorem Part.completeComposition_acts (p : Part) : p.Acts p.completeComposition := by
  cases h : p.engine.inflight with
  | none =>
    unfold Part.completeComposition
    rw [h]
    exact .refl p
  | some c => exact (Part.Act.complete c h).acts

theorem Supply.Ok.read {s : Supply} (h : s.Ok) (reading : Nat) : (s.read reading).Ok := h

theorem Part.takeSupply_acts (p : Part) (reading : Nat) : p.Acts (p.takeSupply reading) := by
  have counted : ∀ s : Supply, (p.supply.Ok → s.Ok) → s.low = p.supply.low → p.Acts { p with supply := s } :=
    fun s ok low => (Part.Move.moves (.supply ok low)).acts
  have read := counted (p.supply.read reading) (fun ok => ok.read reading) rfl
  simp only [Part.takeSupply]
  split
  case isTrue low =>
    split
    · split
      · exact read.trans (Part.Act.restore (p := { p with supply := p.supply.read reading }) low).acts
      case isFalse few =>
        refine counted _ (fun ⟨threshold, counts, _⟩ => ⟨threshold, fun h => ⟨(counts h).1, Nat.lt_succ_iff.1 (Nat.lt_of_not_le few)⟩, fun h => ?_⟩) rfl
        rw [show (p.supply.read reading).low = false from h] at low
        cases low
    · refine counted _ (fun ⟨threshold, counts, _⟩ => ⟨threshold, fun h => ⟨(counts h).1, Nat.zero_le _⟩, fun h => ?_⟩) rfl
      rw [show (p.supply.read reading).low = false from h] at low
      cases low
  case isFalse normal =>
    split
    · split
      · exact read.trans (Part.Act.goLow (p := { p with supply := p.supply.read reading })
          (Bool.eq_false_iff.2 normal)).acts
      case isFalse few =>
        exact counted _ (fun ⟨threshold, _, counts⟩ => ⟨threshold, fun h => absurd h normal,
          fun h => ⟨(counts h).1, Nat.lt_succ_iff.1 (Nat.lt_of_not_le few)⟩⟩) rfl
    · exact counted _ (fun ⟨threshold, _, counts⟩ => ⟨threshold, fun h => absurd h normal,
        fun h => ⟨(counts h).1, Nat.zero_le _⟩⟩) rfl

/-! ### What the requests do -/

/-- An effect that does acts. -/
def Effect.Acts (act : Effect) : Prop := ∀ p : Part, p.Acts (act p).2

theorem refuse_acts (status : Byte) : Effect.Acts (refuse status) := Part.Acts.refl

theorem withPower_acts (status : Byte) : Effect.Acts (withPower status) := Part.Acts.refl

theorem withNext_acts (status : Byte) : Effect.Acts (withNext status) := Part.Acts.refl

theorem doIdentify_acts : Effect.Acts doIdentify := Part.Acts.refl

theorem doStatus_acts : Effect.Acts doStatus := fun _ => (Part.Move.moves (.draws _)).acts

theorem doReset_acts : Effect.Acts doReset := by
  intro p
  simp only [doReset]
  split
  · exact (Part.Moves.trans (Part.Move.moves (.link (.wait _))) (Part.Move.moves (.vault .withdraw))).acts
  · exact .refl p

theorem doEventConfigure_acts (pairs : List (Byte × Byte)) : Effect.Acts (doEventConfigure pairs) := by
  intro p
  unfold doEventConfigure
  split
  · exact .refl p
  · split
    · exact .refl p
    · exact (Part.Move.moves (.link (.prioritise pairs))).acts

theorem doEventClear_acts (kinds : BitVec 24) : Effect.Acts (doEventClear kinds) := by
  intro p
  unfold doEventClear
  split
  · exact .refl p
  · exact (Part.Move.moves (.link (.clear kinds))).acts

theorem doPortConfigure_acts (port : Byte) (settle watchdog : Half) (limit : Byte) :
    Effect.Acts (doPortConfigure port settle watchdog limit) := by
  intro p
  unfold doPortConfigure
  split
  · exact .refl p
  · split
    · exact .refl p
    · exact (p.onPort_alike _ ⟨rfl, rfl, rfl, fun _ => rfl⟩).acts

theorem doPortPower_acts (port action : Byte) : Effect.Acts (doPortPower port action) := by
  intro p
  unfold doPortPower
  split
  · split
    · exact .refl p
    · split
      · exact .refl p
      · exact (p.switchPort_moves _ _).acts
  · exact .refl p

theorem doStandbyEnter_acts (port : Byte) : Effect.Acts (doStandbyEnter port) := by
  intro p
  unfold doStandbyEnter
  split
  · exact .refl p
  · split
    · exact .refl p
    · split
      · exact .refl p
      · exact (p.enterStandby_moves _).acts

theorem doStandbyLeave_acts (port : Byte) : Effect.Acts (doStandbyLeave port) := by
  intro p
  unfold doStandbyLeave
  split
  · exact .refl p
  · split
    case isTrue h => exact (p.leaveStandby_moves _ _ h).acts
    case isFalse => exact .refl p

/-- The reload that the floor leaves is in range, and the period at least 25.0 ms (R42). -/
theorem floorReload_ok {prescaler reload : Nat} (hp : prescaler = 16 ∨ prescaler = 64) (low : 1 ≤ reload)
    (high : reload ≤ 65535) :
    1 ≤ floorReload prescaler reload ∧ floorReload prescaler reload ≤ 65535
      ∧ 675000 ≤ prescaler * (floorReload prescaler reload + 1) := by
  have hfloor : Config.periodFloor = 675000 := rfl
  unfold floorReload
  rw [hfloor]
  obtain rfl | rfl := hp <;> split <;> omega

theorem paceInRange_ok {prescaler reload : Nat} (mode : PaceMode) (percent stale : Nat)
    (hp : prescaler = 16 ∨ prescaler = 64) (high : reload ≤ 65535) : (paceInRange prescaler reload mode percent stale).Ok := by
  obtain ⟨low, high, floor⟩ := floorReload_ok hp (Nat.le_max_left 1 reload) (by omega)
  refine ⟨hp, low, high, floor, ?_, ?_, Nat.min_le_left _ _⟩ <;> simp only [paceInRange, clamp] <;> omega

theorem doPaceConfigure_acts (prescaler : Byte) (reload : Half) (mode percent stale : Byte) :
    Effect.Acts (doPaceConfigure prescaler reload mode percent stale) := by
  intro p
  unfold doPaceConfigure
  split
  · exact .refl p
  case h_2 m _ =>
    split
    · exact .refl p
    case isFalse hp =>
      have hp' : prescaler.toNat = 16 ∨ prescaler.toNat = 64 := by
        refine Classical.byContradiction fun hn => ?_
        refine hp ⟨fun h => hn (.inl (by rw [h]; rfl)), fun h => hn (.inr (by rw [h]; rfl))⟩
      have ok : (paceInRange prescaler.toNat reload.toNat m percent.toNat stale.toNat).Ok :=
        paceInRange_ok m _ _ hp' (Nat.lt_succ_iff.1 reload.isLt)
      refine Part.Moves.acts (Part.Move.moves (.pace ⟨?_, .inr fun hs hd => ⟨hs, hd⟩⟩))
      rintro ⟨_, inForce, counts⟩
      refine ⟨ok, ?_, counts⟩
      simp only [Pace.configure]
      split
      · exact ok
      · exact inForce

theorem doPaceStart_acts : Effect.Acts doPaceStart := by
  intro p
  unfold doPaceStart
  split
  case isTrue h => exact p.startPace_acts h
  case isFalse => exact .refl p

theorem doPaceStop_acts : Effect.Acts doPaceStop := by
  intro p
  simp only [doPaceStop]
  split
  case isTrue h => exact (p.setRunState_moves .stopping (by rw [h]; decide) (by decide)).acts
  case isFalse => exact .refl p

theorem doPacePreset_acts : Effect.Acts doPacePreset := by
  intro p
  unfold doPacePreset
  split
  · exact .refl p
  case isFalse hs =>
    refine (Part.Move.moves (.pace ⟨?_, .inr fun h => absurd h hs⟩)).acts
    rintro ⟨⟨prescaler, low, high, floor, _⟩, ⟨_, _, _, _, others⟩, _⟩
    exact ⟨⟨prescaler, low, high, floor, by assumption⟩, ⟨prescaler, low, high, floor, others⟩, iff_of_false hs nofun⟩

theorem doComposeConfigure_acts (hold y cb cr divider : Byte) :
    Effect.Acts (doComposeConfigure hold y cb cr divider) := by
  intro p
  unfold doComposeConfigure
  split
  · exact (Part.Move.moves (.composeConfigure _ _ _)).acts
  · exact .refl p

theorem clamp_bounds {low high : Nat} (h : low ≤ high) (n : Nat) : low ≤ clamp low high n ∧ clamp low high n ≤ high := by
  unfold clamp
  omega

theorem doBalanceConfigure_acts (enable k : Byte) : Effect.Acts (doBalanceConfigure enable k) := by
  intro p
  unfold doBalanceConfigure
  split
  · exact .refl p
  · exact (Part.Move.moves (.balancer fun ⟨gains, _⟩ => ⟨gains, clamp_bounds (by decide) _⟩)).acts

theorem doBalanceSetGain_acts (camera : Byte) (gain : Half) : Effect.Acts (doBalanceSetGain camera gain) := by
  intro p
  unfold doBalanceSetGain
  split
  · exact .refl p
  · refine (Part.Move.moves (.balancer fun ⟨gains, k⟩ => ⟨fun c => ?_, k⟩)).acts
    rw [update_get]
    split
    · exact clamp_bounds (by decide) _
    · exact gains c

theorem doBalanceReset_acts : Effect.Acts doBalanceReset := by
  refine fun p => (Part.Move.moves (.balancer fun ⟨_, k⟩ => ⟨fun c => ?_, k⟩)).acts
  match c with
  | 0 | 1 | 2 | 3 => exact ⟨(by decide : 512 ≤ 1024), (by decide : 1024 ≤ 2048)⟩

theorem doHeightConfigure_acts (a : HeightArgs) : Effect.Acts (doHeightConfigure a) := by
  intro p
  unfold doHeightConfigure
  split
  · exact .refl p
  · split
    · exact (p.applyHeight_moves _).acts
    · exact .refl p

theorem doSelectSet_acts (set : Byte) : Effect.Acts (doSelectSet set) := by
  intro p
  unfold doSelectSet
  split
  · exact .refl p
  · split
    · exact .refl p
    · split
      · exact .refl p
      · split
        · exact .refl p
        · exact (p.requestSet_moves _).acts

/-- The checks of STORE_OPEN, STORE_LOCK and STORE_RETIRE pass. -/
theorem Part.writeCheck_none_iff (p : Part) (s : Fin 8) :
    p.writeCheck s = none ↔ p.store.scanning = false ∧ p.power.state ≠ .parked ∧ p.store.calDebounced = true
      ∧ p.store.session = none ∧ p.store.step = none ∧ p.store.directory[s].locked = false := by
  have open' : p.store.engaged = false ↔ p.store.session = none ∧ p.store.step = none := by
    simp [Store.engaged]
  unfold Part.writeCheck
  rw [← and_assoc (b := p.store.step = none), ← open', ← Bool.not_eq_true p.store.scanning, ← Bool.not_eq_true p.store.engaged,
    ← Bool.not_eq_true p.store.directory[s].locked]
  split
  case isTrue h => exact iff_of_false nofun fun g => g.1 h
  case isFalse h1 =>
    split
    case isTrue h => exact iff_of_false nofun fun g => g.2.1 h
    case isFalse h2 =>
      split
      case isTrue h => exact iff_of_false nofun fun g => absurd (h.symm.trans g.2.2.1) (by decide)
      case isFalse h3 =>
        split
        case isTrue h => exact iff_of_false nofun fun g => g.2.2.2.1 h
        case isFalse h4 =>
          split
          case isTrue h => exact iff_of_false nofun fun g => g.2.2.2.2 h
          case isFalse h5 => exact iff_of_true rfl ⟨h1, h2, by rwa [Bool.not_eq_false] at h3, h4, h5⟩

theorem doStoreOpen_acts (set : Byte) : Effect.Acts (doStoreOpen set) := by
  intro p
  unfold doStoreOpen
  split
  · exact .refl p
  case h_2 s _ =>
    split
    · exact .refl p
    case h_2 h =>
      obtain ⟨scanning, _, _, session, step, unlocked⟩ := (p.writeCheck_none_iff s).1 h
      split
      · exact .refl p
      case isFalse hu =>
        exact (p.openSession_moves s session step scanning unlocked (Bool.eq_false_iff.2 hu)).acts

theorem doStoreLock_acts (set : Byte) : Effect.Acts (doStoreLock set) := by
  intro p
  unfold doStoreLock
  split
  · exact .refl p
  case h_2 s _ =>
    split
    · exact .refl p
    case h_2 h =>
      obtain ⟨scanning, _, _, session, step, unlocked⟩ := (p.writeCheck_none_iff s).1 h
      split
      · exact (p.issueStep_moves _ step (.lockMark s unlocked session scanning)).acts
      · exact .refl p

theorem doStoreRetire_acts (set : Byte) : Effect.Acts (doStoreRetire set) := by
  intro p
  unfold doStoreRetire
  split
  · exact .refl p
  case h_2 s _ =>
    split
    · exact .refl p
    case h_2 h =>
      obtain ⟨scanning, _, _, _, step, unlocked⟩ := (p.writeCheck_none_iff s).1 h
      split
      · exact .refl p
      · split
        · exact (p.issueStep_moves _ step (.retireMark s unlocked scanning)).acts
        · exact .refl p
        · exact .refl p

theorem doStoreData_acts (first : Half) (records : List TileRecord) : Effect.Acts (doStoreData first records) := by
  intro p
  unfold doStoreData
  split
  · exact .refl p
  case isFalse range =>
    split
    · exact .refl p
    · split
      · exact .refl p
      case h_2 x h =>
        split
        · exact .refl p
        case isFalse hp =>
          split
          · exact .refl p
          case isFalse hi =>
            split
            · exact .refl p
            · split
              · exact .refl p
              case isFalse room =>
                refine ((p.stage_moves x records h (Classical.not_not.1 hp) ?_ (by omega)).trans (Part.advance_moves _)).acts
                omega

theorem doStoreClose_acts : Effect.Acts doStoreClose := by
  intro p
  unfold doStoreClose
  split
  · exact .refl p
  · split
    · exact .refl p
    case h_2 x h =>
      split
      · exact .refl p
      case isFalse hp =>
        split
        · exact .refl p
        · exact (Part.Moves.trans (Part.Move.moves (.vault (.closing x h (Classical.not_not.1 hp)))) (Part.advance_moves _)).acts

theorem doStoreAbort_acts : Effect.Acts doStoreAbort := fun p => (p.abortSession_moves _).acts

theorem doStoreQuery_acts : Effect.Acts doStoreQuery := by
  intro p
  unfold doStoreQuery
  split <;> exact .refl p

theorem doStoreRead_acts (set : Byte) (index : Half) : Effect.Acts (doStoreRead set index) := by
  intro p
  unfold doStoreRead
  split
  · exact .refl p
  · split
    · exact .refl p
    · split <;> exact .refl p

theorem doLineConfigure_acts (auto : Byte) (entries : List LineEntry) : Effect.Acts (doLineConfigure auto entries) := by
  intro p
  unfold doLineConfigure
  split
  case h_1 hxs =>
    split
    · exact p.applyLines_acts _ _ (entries?_wake hxs)
    · exact .refl p
  case h_2 => exact .refl p

theorem doLineRead_acts : Effect.Acts doLineRead := Part.Acts.refl

theorem doLineWrite_acts (pairs : List (Byte × Byte)) : Effect.Acts (doLineWrite pairs) := by
  intro p
  unfold doLineWrite
  split
  · exact .refl p
  · split
    · exact .refl p
    · split
      · exact (p.writeLevels_moves _).acts
      · exact .refl p

theorem Part.powerRun_acts (p : Part) : p.Acts p.powerRun := by
  unfold Part.powerRun
  split
  · exact .refl p
  case h_2 h => exact (Part.Move.moves (.rise h)).acts
  case h_3 h => exact (Part.Move.moves (.wake _ h (by decide))).acts

theorem Part.powerDoze_acts (p : Part) : p.Acts p.powerDoze := by
  unfold Part.powerDoze
  split
  case h_1 h => exact (Part.Act.doze h).acts
  case h_2 => exact .refl p
  case h_3 h => exact (Part.Move.moves (.wake _ h (by decide))).acts

theorem doPowerState_acts (target : Byte) : Effect.Acts (doPowerState target) := by
  intro p
  unfold doPowerState
  split
  · exact p.powerRun_acts
  · exact p.powerDoze_acts
  · split
    · exact .refl p
    case isFalse h =>
      split
      · exact .refl p
      · exact (Part.Act.park h).acts
  · exact .refl p

theorem doWakeConfigure_acts (value : Byte) : Effect.Acts (doWakeConfigure value) := by
  intro p
  unfold doWakeConfigure
  split
  · exact .refl p
  case h_2 on _ => exact (Part.Move.moves (.linkWake on)).acts

theorem doSupplyConfigure_acts (threshold : Byte) : Effect.Acts (doSupplyConfigure threshold) := by
  intro p
  refine Part.Moves.acts (Part.Move.moves (.supply
    (fun _ => ⟨?_, fun _ => ⟨rfl, Nat.zero_le _⟩, fun _ => ⟨rfl, Nat.zero_le _⟩⟩) rfl))
  show thresholdInForce _ = 65 ∨ thresholdInForce _ = 70 ∨ thresholdInForce _ = 75 ∨ thresholdInForce _ = 80
  unfold thresholdInForce clamp
  omega

/-! ### Requests off the link -/

theorem noBody_acts {act : Effect} (h : act.Acts) (body : List Byte) : Effect.Acts (noBody act body) := by
  unfold noBody
  split
  · exact h
  · exact refuse_acts _

theorem oneByte_acts {act : Byte → Effect} (h : ∀ a, (act a).Acts) (body : List Byte) : Effect.Acts (oneByte act body) := by
  unfold oneByte
  split
  · exact h _
  · exact refuse_acts _

theorem serveLink_acts (kind : Nat) (body : List Byte) : Effect.Acts (serveLink kind body) := by
  unfold serveLink
  split
  · exact noBody_acts doIdentify_acts body
  · exact noBody_acts doStatus_acts body
  · exact noBody_acts doReset_acts body
  · split
    · exact doEventConfigure_acts _
    · exact refuse_acts _
  · split
    · exact doEventClear_acts _
    · exact refuse_acts _
  · exact refuse_acts _

theorem servePorts_acts (kind : Nat) (body : List Byte) : Effect.Acts (servePorts kind body) := by
  unfold servePorts
  split
  · exact doPortConfigure_acts _ _ _ _
  · exact doPortPower_acts _ _
  · split
    · exact doStandbyEnter_acts _
    · split
      · exact doStandbyLeave_acts _
      · exact refuse_acts _
  all_goals exact refuse_acts _

theorem servePace_acts (kind : Nat) (body : List Byte) : Effect.Acts (servePace kind body) := by
  unfold servePace
  split
  · split
    · exact doPaceConfigure_acts _ _ _ _ _
    · exact refuse_acts _
  · exact noBody_acts doPaceStart_acts body
  · exact noBody_acts doPaceStop_acts body
  · exact noBody_acts doPacePreset_acts body
  · exact refuse_acts _

theorem servePicture_acts (kind : Nat) (body : List Byte) : Effect.Acts (servePicture kind body) := by
  unfold servePicture
  split
  · split
    · exact doComposeConfigure_acts _ _ _ _ _
    · exact refuse_acts _
  · split
    · exact doBalanceConfigure_acts _ _
    · exact refuse_acts _
  · split
    · exact doBalanceSetGain_acts _ _
    · exact refuse_acts _
  · exact noBody_acts doBalanceReset_acts body
  · split
    · exact doHeightConfigure_acts _
    · exact refuse_acts _
  · exact oneByte_acts doSelectSet_acts body
  · exact refuse_acts _

theorem serveStoreData_acts (body : List Byte) : Effect.Acts (serveStoreData body) := by
  unfold serveStoreData
  split
  · split
    · exact doStoreData_acts _ _
    · exact withNext_acts _
  · exact withNext_acts _

theorem serveStore_acts (kind : Nat) (body : List Byte) : Effect.Acts (serveStore kind body) := by
  unfold serveStore
  split
  · exact oneByte_acts doStoreOpen_acts body
  · exact serveStoreData_acts body
  · split
    · exact doStoreClose_acts
    · exact withNext_acts _
  · exact noBody_acts doStoreAbort_acts body
  · exact oneByte_acts doStoreLock_acts body
  · exact oneByte_acts doStoreRetire_acts body
  · exact noBody_acts doStoreQuery_acts body
  · split
    · exact doStoreRead_acts _ _
    · exact refuse_acts _
  · exact refuse_acts _

theorem serveLines_acts (kind : Nat) (body : List Byte) : Effect.Acts (serveLines kind body) := by
  unfold serveLines
  split
  · split
    · split
      · exact doLineConfigure_acts _ _
      · exact refuse_acts _
    · exact refuse_acts _
  · exact noBody_acts doLineRead_acts body
  · split
    · exact doLineWrite_acts _
    · exact refuse_acts _
  · split
    · exact doPowerState_acts _
    · exact withPower_acts _
  · exact oneByte_acts doWakeConfigure_acts body
  · exact oneByte_acts doSupplyConfigure_acts body
  · exact refuse_acts _

theorem serve_acts (kind : Nat) (body : List Byte) : Effect.Acts (serve kind body) := by
  unfold serve
  split
  · exact serveLink_acts kind body
  split
  · exact servePorts_acts kind body
  split
  · exact servePace_acts kind body
  split
  · exact servePicture_acts kind body
  split
  · exact serveStore_acts kind body
  · exact serveLines_acts kind body

end Sys2Proof.Machine
end

section
/-! PROOF. What any command can do to the part: turns, the end of a store step followed by acts, or a reset. -/

namespace Sys2Proof.Machine

/-! ### The reply queue -/

theorem Link.raise_queue (l : Link) (k : EventKind) (d : List Byte) : (l.raise k d).queue.length ≤ l.queue.length :=
  Link.fill_queue_length _

/-- Setting priorities leaves everything of the link but its records. -/
theorem Link.setPriorities_frame (pairs : List (Byte × Byte)) (l : Link) :
    (l.setPriorities pairs).queue = l.queue ∧ (l.setPriorities pairs).slot = l.slot
      ∧ (l.setPriorities pairs).attn = l.attn := by
  induction pairs generalizing l with
  | nil => exact ⟨rfl, rfl, rfl⟩
  | cons x xs ih =>
    rw [Link.setPriorities, List.foldl_cons]
    split <;> exact ih _

/-- A record that leaves the slot leaves the queue as it is and the slot empty. -/
theorem Link.leave_frame (l : Link) (o : Outgoing) :
    (l.leave o).queue = l.queue ∧ (l.leave o).attn = (l.leave o).slot.isSome := by
  cases o <;> exact ⟨rfl, rfl⟩

theorem Link.leaveAfter_queue (l : Link) (n : Nat) : (l.leaveAfter n).queue = l.queue := by
  unfold Link.leaveAfter
  split
  · split
    · exact (l.leave_frame _).1
    · rfl
  · rfl

/-- Of its own the link never lengthens its queue. -/
theorem Link.Move.queue {l m : Link} (h : l.Move m) : m.queue.length ≤ l.queue.length := by
  cases h with
  | raise k d => exact l.raise_queue k d
  | prioritise pairs => exact Nat.le_trans (Link.fill_queue_length _) (Nat.le_of_eq (congrArg List.length (l.setPriorities_frame pairs).1))
  | clear kinds => exact Nat.le_refl _
  | wait w => exact Nat.le_refl _
  | shift r m => exact Nat.le_refl _
  | leave n => exact Nat.le_trans (Link.fill_queue_length _) (Nat.le_of_eq (congrArg List.length (l.leaveAfter_queue n)))
  | fill => exact Link.fill_queue_length _

/-- The link as a composition start leaves it: as it was, or with SET_SWITCHED raised. -/
theorem Part.tryStart_link (p : Part) : p.tryStart.link = p.link ∨ ∃ d, p.tryStart.link = p.link.raise .setSwitched d := by
  unfold Part.tryStart
  split
  · rw [Part.compose_link]
    unfold Part.swapTables
    split
    · exact .inr ⟨_, rfl⟩
    · exact .inl rfl
  · exact .inl rfl

/-- What a move does to the link is a move of the link, or nothing. -/
theorem Part.Move.link_move {p q : Part} {k : MoveKind} (h : p.Move k q) : q.link = p.link ∨ p.link.Move q.link := by
  have started : ∀ r : Part, r.tryStart.link = r.link ∨ r.link.Move r.tryStart.link := fun r =>
    r.tryStart_link.imp_right fun ⟨d, e⟩ => e ▸ .raise _ d
  cases h
  case link h => exact .inr h
  case closeGather n stale _ => exact started (p.setSlot (.ready n stale))
  case start => exact started p
  case scrap => exact .inl p.abandon_link
  all_goals exact .inl rfl

theorem Part.Move.queue {p q : Part} {k : MoveKind} (h : p.Move k q) : q.link.queue.length ≤ p.link.queue.length :=
  h.link_move.elim (fun e => e ▸ Nat.le_refl _) Link.Move.queue

theorem Part.Acts.queue {p q : Part} (h : p.Acts q) : q.link.queue.length ≤ p.link.queue.length :=
  h.keep (I := fun r => r.link.queue.length ≤ p.link.queue.length)
    (fun _ _ _ g le => g.chain.keep (I := fun r => r.link.queue.length ≤ p.link.queue.length)
      (fun _ _ m le => Nat.le_trans m.queue le) (fun _ _ m le => Nat.le_trans m.queue le) le) (Nat.le_refl _)

/-! ### Requests and transactions -/

section
variable (p : Part)

theorem Part.answer_turns (kind tag : Byte) {act : Effect} (h : act.Acts) : p.Turns (p.answer kind tag act) := by
  have woken := p.wakeByRequest_moves kind
  simp only [Part.answer]
  split
  case isTrue => exact (woken.trans (Part.raise_moves _ _ _)).acts.turns
  case isFalse room =>
    have acts := h (p.wakeByRequest kind)
    refine (woken.acts.trans acts).turns.trans (Chain.single (.join _ ?_))
    refine Nat.le_trans acts.queue ?_
    simpa [Part.queueFull, Nat.lt_succ_iff] using room

theorem Part.rejectFrame_turns (reason kind tag : Byte) : p.Turns (p.rejectFrame reason kind tag) := by
  unfold Part.rejectFrame
  split
  case isTrue => exact (p.raise_moves _ _).acts.turns
  case isFalse room =>
    refine Chain.single (.join _ ?_)
    simpa [Part.queueFull, Nat.lt_succ_iff] using room

theorem Part.takeBytes_turns (bytes : List Byte) : p.Turns (p.takeBytes bytes) := by
  unfold Part.takeBytes
  split
  · exact .refl
  · split
    · exact .refl
    · split
      · exact p.rejectFrame_turns _ _ _
      · exact p.answer_turns _ _ (serve_acts _ _)

theorem Part.endTransaction_turns (mosi : List Byte) (start : TransactionStart) : p.Turns (p.endTransaction mosi start) := by
  have shifted := fun n => (Part.Move.moves (k := .sound) (p := p) (.link (.shift [] (p.link.shiftOut n start)))).acts.turns
  simp only [Part.endTransaction]
  split
  · exact shifted _
  · exact ((shifted _).trans (Part.takeBytes_turns _ _)).trans (Part.Move.moves (.link .fill)).acts.turns
  · exact ((shifted _).trans (Part.takeBytes_turns _ _)).trans (Part.Move.moves (.link (.leave _))).acts.turns

end

/-! ### Every command -/

/-- What a command or a tick can do: turns, the end of a store step with what follows, or a reset. -/
def Part.Does (p q : Part) : Prop := p.Turns q ∨ (∃ r, p.StepEnd r ∧ r.Acts q) ∨ p.Reset q

section
variable {p q : Part}

theorem Part.Moves.does (h : Part.Moves .sound p q) : p.Does q := .inl h.acts.turns

theorem Part.Acts.does (h : p.Acts q) : p.Does q := .inl h.turns

theorem Part.Ends.does (h : p.Ends q) : p.Does q := h.elim (fun e => e ▸ .inl .refl) fun g => .inr (.inl g)

end

/-- The change of a command that acts by `f`: none while the part is held in reset. -/
theorem Instr.change_act {c : Instr} {f : Part → Part} (h : ∀ s, exec c s = s.act f) (p : Part) (g : p.Does (f p)) :
    p.Does (Instr.change c p) := by
  have e : Instr.change c p = if p.power.inReset then p else f p := by
    simp only [Instr.change, h]
    rfl
  rw [e]
  split
  · exact .inl .refl
  · exact g

/-- What a request can do. -/
theorem Instr.change_request {c : Instr} {kind tag : Byte} {act : Effect}
    (h : ∀ s, exec c s = s.act (Part.answer kind tag act)) (acts : act.Acts) (p : Part) : p.Does (Instr.change c p) :=
  Instr.change_act h p (.inl (p.answer_turns kind tag acts))

/-- What an event that may lack its cause can do. -/
theorem Part.Does.when {p q : Part} {c : Prop} [Decidable c] (h : p.Does q) : p.Does (if c then q else p) := by
  split
  · exact h
  · exact .inl .refl

theorem Part.endReset_does (p : Part) : p.Does p.endReset := by
  unfold Part.endReset
  split
  · exact .inr (.inr .finish)
  · exact .inl .refl

/-- What each command can do. -/
theorem Instr.change_does (c : Instr) (p : Part) : p.Does (Instr.change c p) := by
  cases c
  case identify => exact Instr.change_request (fun _ => rfl) doIdentify_acts p
  case status => exact Instr.change_request (fun _ => rfl) doStatus_acts p
  case reset => exact Instr.change_request (fun _ => rfl) doReset_acts p
  case eventConfigure => exact Instr.change_request (fun _ => rfl) (doEventConfigure_acts _) p
  case eventClear => exact Instr.change_request (fun _ => rfl) (doEventClear_acts _) p
  case portConfigure => exact Instr.change_request (fun _ => rfl) (doPortConfigure_acts _ _ _ _) p
  case portPower => exact Instr.change_request (fun _ => rfl) (doPortPower_acts _ _) p
  case portStandbyEnter => exact Instr.change_request (fun _ => rfl) (doStandbyEnter_acts _) p
  case portStandbyLeave => exact Instr.change_request (fun _ => rfl) (doStandbyLeave_acts _) p
  case paceConfigure => exact Instr.change_request (fun _ => rfl) (doPaceConfigure_acts _ _ _ _ _) p
  case paceStart => exact Instr.change_request (fun _ => rfl) doPaceStart_acts p
  case paceStop => exact Instr.change_request (fun _ => rfl) doPaceStop_acts p
  case pacePreset => exact Instr.change_request (fun _ => rfl) doPacePreset_acts p
  case composeConfigure => exact Instr.change_request (fun _ => rfl) (doComposeConfigure_acts _ _ _ _ _) p
  case balanceConfigure => exact Instr.change_request (fun _ => rfl) (doBalanceConfigure_acts _ _) p
  case balanceSetGain => exact Instr.change_request (fun _ => rfl) (doBalanceSetGain_acts _ _) p
  case balanceReset => exact Instr.change_request (fun _ => rfl) doBalanceReset_acts p
  case heightConfigure => exact Instr.change_request (fun _ => rfl) (doHeightConfigure_acts _) p
  case selectSet => exact Instr.change_request (fun _ => rfl) (doSelectSet_acts _) p
  case storeOpen => exact Instr.change_request (fun _ => rfl) (doStoreOpen_acts _) p
  case storeData => exact Instr.change_request (fun _ => rfl) (doStoreData_acts _ _) p
  case storeClose => exact Instr.change_request (fun _ => rfl) doStoreClose_acts p
  case storeAbort => exact Instr.change_request (fun _ => rfl) doStoreAbort_acts p
  case storeLock => exact Instr.change_request (fun _ => rfl) (doStoreLock_acts _) p
  case storeRetire => exact Instr.change_request (fun _ => rfl) (doStoreRetire_acts _) p
  case storeQuery => exact Instr.change_request (fun _ => rfl) doStoreQuery_acts p
  case storeRead => exact Instr.change_request (fun _ => rfl) (doStoreRead_acts _ _) p
  case lineConfigure => exact Instr.change_request (fun _ => rfl) (doLineConfigure_acts _ _) p
  case lineRead => exact Instr.change_request (fun _ => rfl) doLineRead_acts p
  case lineWrite => exact Instr.change_request (fun _ => rfl) (doLineWrite_acts _) p
  case powerState => exact Instr.change_request (fun _ => rfl) (doPowerState_acts _) p
  case wakeConfigure => exact Instr.change_request (fun _ => rfl) (doWakeConfigure_acts _) p
  case supplyConfigure => exact Instr.change_request (fun _ => rfl) (doSupplyConfigure_acts _) p
  case transactionEnd => exact Instr.change_act (fun _ => rfl) p (.inl (p.endTransaction_turns _ _))
  case softReset =>
    refine Instr.change_act (f := fun p => if p.softResetDue then p.softReset else p) (fun _ => rfl) p ?_
    exact Part.Does.when (.inr (.inr .soft))
  case powerOnReset => exact .inr (.inr (.begin _))
  case supplyReset => exact .inr (.inr (.begin _))
  case pinReset => exact .inr (.inr (.begin _))
  case fullResetEnd => exact p.endReset_does
  case frameStart i => exact Instr.change_act (fun _ => rfl) p (p.takeFrameStart_moves i).does
  case linePacket i samples => exact Instr.change_act (fun _ => rfl) p (p.takeLine_moves i samples).does
  case frameEnd i => exact Instr.change_act (fun _ => rfl) p (p.takeFrameEnd_moves i).does
  case settleExpiry i => exact Instr.change_act (fun _ => rfl) p (p.settleExpires_moves i).does
  case watchdogExpiry i => exact Instr.change_act (fun _ => rfl) p (p.watchdogExpires_moves i).does
  case recoveryExpiry i => exact Instr.change_act (fun _ => rfl) p (p.recoveryExpires_moves i).does
  case powerFault i =>
    refine Instr.change_act (f := fun p => if 19 ≤ p.ports[i].faultCount then p.takeCsns i false else p) (fun _ => rfl) p ?_
    exact Part.Does.when (p.takeCsns_moves i false).does
  case periodEnd => exact Instr.change_act (fun _ => rfl) p p.periodEnds_moves.does
  case capturePulseEnd => exact Instr.change_act (fun _ => rfl) p p.capturePulseEnds_moves.does
  case deadlineExpiry => exact Instr.change_act (fun _ => rfl) p p.deadlineExpires_moves.does
  case compositionComplete => exact Instr.change_act (fun _ => rfl) p p.completeComposition_acts.does
  case hgtActiveEdge micros => exact Instr.change_act (fun _ => rfl) p (p.activeEdge_moves micros).does
  case hgtInactiveEdge micros => exact Instr.change_act (fun _ => rfl) p (p.inactiveEdge_moves micros).does
  case silenceExpiry => exact Instr.change_act (fun _ => rfl) p p.silenceExpires_moves.does
  case loadStart => exact Instr.change_act (fun _ => rfl) p p.loadStarts_moves.does
  case loadMarksRead => exact Instr.change_act (fun _ => rfl) p p.loadMarksRead_moves.does
  case loadEnd => exact Instr.change_act (fun _ => rfl) p p.loadEnds_moves.does
  case scanEnd => exact Instr.change_act (fun _ => rfl) p p.scanEnds_moves.does
  case storeStepStart => exact Instr.change_act (fun _ => rfl) p p.stepStarts_moves.does
  case sectorEraseEnd => exact Instr.change_act (fun _ => rfl) p p.eraseEnds_ends.does
  case openMarkEnd => exact Instr.change_act (fun _ => rfl) p p.openMarkEnds_ends.does
  case rowProgramEnd => exact Instr.change_act (fun _ => rfl) p p.rowProgramEnds_ends.does
  case completeMarkEnd => exact Instr.change_act (fun _ => rfl) p p.completeMarkEnds_ends.does
  case lockMarkEnd => exact Instr.change_act (fun _ => rfl) p p.lockMarkEnds_ends.does
  case retireMarkEnd => exact Instr.change_act (fun _ => rfl) p p.retireMarkEnds_ends.does
  case calWeChange level =>
    refine Instr.change_act (f := fun p =>
      if p.store.calSampled = some level ∧ level ≠ p.store.calDebounced then p.takeCalWe level else p) (fun _ => rfl) p ?_
    exact Part.Does.when (p.takeCalWe_moves level).does
  case lineAcceptedChange i level =>
    refine Instr.change_act (f := fun p =>
      if p.lines.line[i].debounced = some (!level) ∧ p.lines.line[i].prev = some level then p.sampleIn i level else p) (fun _ => rfl) p ?_
    exact Part.Does.when (p.sampleIn_acts i level).does
  case lineFirstSample i level =>
    refine Instr.change_act (f := fun p => if p.lines.line[i].debounced = none then p.sampleIn i level else p) (fun _ => rfl) p ?_
    exact Part.Does.when (p.sampleIn_acts i level).does
  case outputMismatch i =>
    refine Instr.change_act (f := fun p =>
      if 1 ≤ p.lines.line[i].mismatch ∧ p.lines.line[i].flag = false then p.sampleOut i (!p.intended i) else p) (fun _ => rfl) p ?_
    exact Part.Does.when (p.sampleOut_moves i _).does
  case mismatchCleared i =>
    refine Instr.change_act (f := fun p => p.sampleOut i (p.intended i)) (fun _ => rfl) p ?_
    exact (p.sampleOut_moves i _).does
  case supplyLow reading =>
    refine Instr.change_act (f := fun p =>
      if p.supply.low = false ∧ 1 ≤ p.supply.lowCount ∧ p.supply.below reading = true then p.takeSupply reading else p) (fun _ => rfl) p ?_
    exact Part.Does.when (p.takeSupply_acts reading).does
  case supplyRestored reading =>
    refine Instr.change_act (f := fun p =>
      if p.supply.low = true ∧ 19 ≤ p.supply.restoreCount ∧ p.supply.restores reading = true then p.takeSupply reading
      else p) (fun _ => rfl) p ?_
    exact Part.Does.when (p.takeSupply_acts reading).does
  case transferEnd => exact Instr.change_act (fun _ => rfl) p p.endTransfer_moves.does
  case hgtFirstLevelAccepted first => exact Instr.change_act (fun _ => rfl) p (p.firstLevel_moves first).does
  case vsenseReading reading => exact Instr.change_act (fun _ => rfl) p (p.takeSupply_acts reading).does
  case csnsSample i level => exact Instr.change_act (fun _ => rfl) p (p.takeCsns_moves i level).does
  case calWeSample level => exact Instr.change_act (fun _ => rfl) p (p.takeCalWe_moves level).does
  case vehicleLineSample levels => exact Instr.change_act (fun _ => rfl) p (p.sampleLines_acts levels).does

/-- What a step of the machine can do to the part. -/
theorem step_does {s t : State} (h : step s = .next t) : s.toPart.Does t.toPart := by
  obtain ⟨c, e⟩ | e := step_cases h
  · rw [e]
    exact Instr.change_does c s.toPart
  · rw [e]
    exact (Part.Move.moves (.clock (s.now + 1))).does

/-- What acts, joins, step ends and resets keep, a step keeps. -/
theorem step_keeps {I : Part → Prop} {s t : State} (h : step s = .next t)
    (act : ∀ (k : MoveKind) (p q : Part), p.Act k q → I p → I q)
    (join : ∀ (f : Frame) (p : Part), p.link.queue.length ≤ 3 → I p → I { p with link := p.link.join f })
    (stepEnd : ∀ p q : Part, p.StepEnd q → I p → I q) (reset : ∀ p q : Part, p.Reset q → I p → I q) (hs : I s.toPart) :
    I t.toPart := by
  obtain turns | ⟨r, ended, acts⟩ | wasReset := step_does h
  · exact turns.keep act join hs
  · exact acts.keep act (stepEnd _ _ ended hs)
  · exact reset _ _ wasReset hs

/-- An act keeps what every move keeps. -/
theorem Part.Act.keeps {I : Part → Prop} (move : ∀ (k : MoveKind) (p q : Part), p.Move k q → I p → I q) (k : MoveKind)
    (p q : Part) (h : p.Act k q) (hp : I p) : I q :=
  h.chain.keep (move .sound) (move k) hp

/-- An act keeps what moves of every kind but `bad` keep, if the acts of that kind keep it. -/
theorem Part.Act.keeps_but {I : Part → Prop} (bad : MoveKind) (hbad : bad ≠ .sound)
    (move : ∀ (k : MoveKind) (p q : Part), p.Move k q → k ≠ bad → I p → I q)
    (acts : ∀ p q : Part, p.Act bad q → I p → I q) (k : MoveKind) (p q : Part) (h : p.Act k q) (hp : I p) : I q := by
  by_cases e : k = bad
  · subst e
    exact acts p q h hp
  · exact h.chain.keep (fun p q m => move _ p q m hbad.symm) (fun p q m => move _ p q m e) hp

end Sys2Proof.Machine
end

section
/-! PROOF. The invariants of the command link, the vehicle lines, the settings, the height monitor and of the units that
are quiet outside RUN. -/

namespace Sys2Proof.Machine

/-! ### The command link -/

theorem PendingRecord.raised_ok {r : PendingRecord} (h : r.Ok) (d : List Byte) (inSlot : Bool) : (r.raised d inSlot).Ok := by
  obtain ⟨priority, repeats, again, _, _⟩ := h
  refine ⟨priority, ?_, ?_, fun _ => ?_, fun g => Bool.noConfusion g⟩ <;> simp only [PendingRecord.raised, bump255]
  all_goals
    split
    all_goals omega

theorem PendingRecord.sent_ok {r : PendingRecord} (h : r.Ok) : r.sent.Ok := by
  obtain ⟨priority, repeats, again, _, idle⟩ := h
  unfold PendingRecord.sent
  split
  · exact PendingRecord.clear_ok priority
  case isFalse ne => exact ⟨priority, again, Nat.zero_le _, fun _ => Nat.one_le_iff_ne_zero.2 ne, fun g => absurd (idle g).2.2 ne⟩

theorem PendingRecord.withPriority_ok {r : PendingRecord} (h : r.Ok) {n : Nat} (hn : n ≤ 3) : (r.withPriority n).Ok := by
  obtain ⟨_, others⟩ := h
  exact ⟨hn, others⟩

/-- One record of a link changed. -/
theorem Link.RecordsOk.update {l : Link} (h : l.RecordsOk) (k : Fin 18) {f : PendingRecord → PendingRecord}
    (hf : (f l.records[k]).Ok) : Link.RecordsOk { l with records := update l.records k f } := by
  intro j
  rw [update_get]
  split
  case isTrue e => exact e ▸ hf
  case isFalse => exact h j

theorem Link.RecordsOk.fill {l : Link} (h : l.RecordsOk) : l.fill.RecordsOk := by
  unfold Link.RecordsOk
  rw [Link.fill_records]
  exact h

theorem Link.setPriorities_ok (pairs : List (Byte × Byte)) {l : Link} (h : l.RecordsOk) :
    (l.setPriorities pairs).RecordsOk := by
  induction pairs generalizing l with
  | nil => exact h
  | cons x xs ih =>
    rw [Link.setPriorities, List.foldl_cons]
    refine ih ?_
    split
    · exact h.update _ (PendingRecord.withPriority_ok (h _) (Nat.min_le_left _ _))
    · exact h

theorem Link.clearKinds_record (l : Link) (kinds : BitVec 24) (k : Fin 18) :
    (l.clearKinds kinds).records[k] = if kinds.getLsbD k.val then .clear l.records[k].priority else l.records[k] := by
  simp [Link.clearKinds]

theorem Link.clearKinds_frame (l : Link) (kinds : BitVec 24) :
    (l.clearKinds kinds).queue = l.queue ∧ (l.clearKinds kinds).slot = l.slot ∧ (l.clearKinds kinds).attn = l.attn := by
  simp only [Link.clearKinds, and_self]

theorem Link.clearKinds_settled {l : Link} (h : l.Settled) (kinds : BitVec 24) : (l.clearKinds kinds).Settled := by
  obtain ⟨queue, attn, waits⟩ := h
  obtain ⟨hq, hs, ha⟩ := l.clearKinds_frame kinds
  rw [Link.Settled, hq, hs, ha]
  refine ⟨queue, attn, fun hs => ⟨(waits hs).1, fun k => ?_⟩⟩
  rw [Link.clearKinds_record]
  split
  · rfl
  · exact (waits hs).2 k

theorem Link.leaveAfter_attn {l : Link} (h : l.attn = l.slot.isSome) (n : Nat) :
    (l.leaveAfter n).attn = (l.leaveAfter n).slot.isSome := by
  unfold Link.leaveAfter
  split
  · split
    · exact (l.leave_frame _).2
    · exact h
  · exact h

theorem Link.leaveAfter_ok {l : Link} (h : l.RecordsOk) (n : Nat) : (l.leaveAfter n).RecordsOk := by
  unfold Link.leaveAfter
  split
  · split
    · unfold Link.leave
      split
      · exact h
      · exact h.update _ (PendingRecord.sent_ok (h _))
    · exact h
  · exact h

theorem Link.Move.settled {l m : Link} (h : l.Move m) (hl : l.Settled) : m.Settled := by
  have ⟨queue, attn, _⟩ := hl
  cases h with
  | raise k d => exact l.raise_settled k d hl
  | prioritise pairs =>
    obtain ⟨hq, hs, ha⟩ := l.setPriorities_frame pairs
    exact Link.fill_settled _ (by rw [hq]; exact queue) (by rw [ha, hs]; exact attn)
  | clear kinds => exact Link.clearKinds_settled hl kinds
  | wait w => exact hl
  | shift r m => exact hl
  | leave n => exact Link.fill_settled _ (by rw [l.leaveAfter_queue n]; exact queue) (Link.leaveAfter_attn attn n)
  | fill => exact Link.fill_settled _ queue attn

theorem Link.Move.recordsOk {l m : Link} (h : l.Move m) (hl : l.RecordsOk) : m.RecordsOk := by
  cases h with
  | raise k d => exact (hl.update k.index (PendingRecord.raised_ok (hl _) d (l.noticeInSlot k))).fill
  | prioritise pairs => exact (Link.setPriorities_ok pairs hl).fill
  | clear kinds =>
    intro k
    rw [Link.clearKinds_record]
    split
    · exact PendingRecord.clear_ok (hl k).1
    · exact hl k
  | wait w => exact hl
  | shift r m => exact hl
  | leave n => exact (Link.leaveAfter_ok hl n).fill
  | fill => exact hl.fill

theorem Link.join_recordsOk {l : Link} (h : l.RecordsOk) (f : Frame) : (l.join f).RecordsOk :=
  Link.RecordsOk.fill h

/-- What the link keeps of its own and at a join, a step keeps, if it holds after a reset. -/
theorem step_keeps_link {I : Link → Prop} {s t : State} (h : step s = .next t) (move : ∀ l m : Link, l.Move m → I l → I m)
    (join : ∀ (l : Link) (f : Frame), l.queue.length ≤ 3 → I l → I (l.join f)) (reset : I .atReset) (hs : I s.link) :
    I t.link := by
  refine step_keeps (I := fun p => I p.link) h (Part.Act.keeps fun k p q m hp => ?_) (fun f p hq hp => join _ f hq hp)
    (fun p q e hp => ?_) (fun p q r _ => ?_) hs
  · exact m.link_move.elim (fun e => e ▸ hp) fun m => move _ _ m hp
  · cases e <;> exact hp
  · cases r <;> exact reset

/-- Settles O4: each change of the link ends with a fill, which leaves nothing waiting. -/
theorem stepKeepsLink : Obligations.StepKeepsLink := by
  unfold Obligations.StepKeepsLink
  exact fun s t h => ⟨step_keeps_link h (fun _ _ m => m.settled) (fun l f hq hl => l.join_settled f hl hq) Link.atReset_settled,
    step_keeps_link h (fun _ _ m => m.recordsOk) (fun _ f _ hl => Link.join_recordsOk hl f) Link.atReset_recordsOk⟩

/-- A store step that ends changes the clock and the store alone. -/
theorem Part.StepEnd.frame {p q : Part} (h : p.StepEnd q) : ∃ t store, q = { p with now := t, store := store } := by
  cases h <;> exact ⟨_, _, rfl⟩

/-! ### The vehicle lines -/

/-- Lines that change each by itself. -/
theorem Part.LinesOk.map {p q : Part} {f : Line → Line} (h : p.LinesOk)
    (hq : q.lines.line = mapAll p.lines.line f) (ok : ∀ l : Line, l.Ok → (f l).Ok)
    (snapshot : ∀ l : Line, q.power.state ≠ .parked → (f l).snapshot = none) : q.LinesOk := by
  intro i
  rw [hq, mapAll_get]
  exact ⟨ok _ (h i).1, snapshot _⟩

theorem Part.LinesOk.of_eq {p q : Part} (h : p.LinesOk) (lines : q.lines.line = p.lines.line)
    (power : q.power.state ≠ .parked → p.power.state ≠ .parked) : q.LinesOk := by
  intro i
  rw [lines]
  exact ⟨(h i).1, fun hp => (h i).2 (power hp)⟩

theorem Part.LinesOk.atReset {q : Part} (h : q.lines = .atReset) : q.LinesOk := by
  intro i
  rw [h, Lines.atReset_line]
  exact ⟨Line.atReset_ok, fun _ => rfl⟩

theorem Part.Move.linesOk {k : MoveKind} {p q : Part} (m : p.Move k q) (h : p.LinesOk) : q.LinesOk := by
  cases m
  case line i f ok snapshot =>
    intro j
    rw [show (p.onLine i f).lines.line[j] = _ from update_get _ _ _ _]
    split
    case isTrue e =>
      subst e
      exact ⟨ok (h i).1, fun hp => snapshot hp ((h i).2 hp)⟩
    case isFalse => exact h j
  case snapshots parked => exact h.map rfl (fun _ => id) fun _ hp => absurd parked hp
  case wake st _ _ => exact h.map rfl (fun _ => id) fun _ _ => rfl
  case sleep st awake _ => exact h.of_eq rfl fun _ => awake
  case rise doze => exact h.of_eq rfl fun _ => by rw [doze]; decide
  case closeGather =>
    exact h.of_eq (by rw [Part.tryStart_lines]; rfl) fun hp => by rw [Part.tryStart_power] at hp; exact hp
  case start => exact h.of_eq (by rw [Part.tryStart_lines]) fun hp => by rw [Part.tryStart_power] at hp; exact hp
  case frame => exact h.of_eq (by rw [Part.startFrame_lines]) fun hp => by rw [Part.startFrame_power] at hp; exact hp
  case scrap =>
    exact h.of_eq (by rw [Part.setSlot_lines, Part.abandon_lines]) fun hp => by
      rw [Part.setSlot_power, Part.abandon_power] at hp; exact hp
  all_goals exact h.of_eq rfl id

theorem Line.afterSoftReset_ok {l : Line} (h : l.Ok) : l.afterSoftReset.Ok := l.restarted_ok h

/-- Settles O13: every change of a line keeps its state to its direction, and a snapshot is taken only while PARKED. -/
theorem stepKeepsLines : Obligations.StepKeepsLines := by
  unfold Obligations.StepKeepsLines
  refine fun s t hs h => step_keeps (I := Part.LinesOk) h (Part.Act.keeps fun _ _ _ => Part.Move.linesOk) (fun _ _ _ => id)
    (fun p q e hp => ?_) (fun p q r hp => ?_) hs
  · obtain ⟨_, _, rfl⟩ := e.frame
    exact hp.of_eq rfl id
  · cases r
    case soft => exact hp.map rfl (fun _ => Line.afterSoftReset_ok) fun _ _ => rfl
    all_goals exact .atReset rfl

/-! ### The settings -/

theorem Part.Move.paceOk {k : MoveKind} {p q : Part} (m : p.Move k q) (hk : k ≠ .launch) (h : p.pace.Ok) : q.pace.Ok := by
  cases m
  case pace m => exact m.ok h
  case paceStarts => exact absurd rfl hk
  case closeGather => rw [Part.tryStart_pace]; exact h
  case start => rw [Part.tryStart_pace]; exact h
  case frame => rw [Part.startFrame_pace]; exact h
  case scrap => rw [Part.setSlot_pace, Part.abandon_pace]; exact h
  all_goals exact h

/-- A pace timer that has taken a boundary while not STOPPED is in range. -/
theorem Pace.boundary_ok {t : Pace} (h : t.configured.Ok) (hr : t.runState ≠ .stopped) (now : Nat) : (t.boundary now).Ok :=
  ⟨h, h, iff_of_false hr nofun⟩

theorem Part.launch_paceOk {p : Part} (h : p.pace.Ok) : (p.setRunState .running).boundary.pace.Ok := by
  rw [Part.boundary_pace, Part.setRunState_pace]
  exact Pace.boundary_ok (t := { p.pace with runState := .running }) h.1 (by decide : RunState.running ≠ .stopped) _

theorem steppedGain_bounds (desired gain k : Nat) : 512 ≤ steppedGain desired gain k ∧ steppedGain desired gain k ≤ 2048 := by
  unfold steppedGain
  omega

theorem Balancer.takeCompletion_ok {b : Balancer} (h : b.Ok) (trigger : Half) (latched : Vector Nat 4)
    (stats : Vector ZoneStats 4) : (b.takeCompletion trigger latched stats).Ok := by
  unfold Balancer.takeCompletion
  split
  case isFalse => exact h
  case isTrue =>
    refine ⟨fun c => ?_, h.2⟩
    obtain ⟨d, hd⟩ : ∃ d, (b.update trigger latched stats).gains[c] = updatedGain d b.written[c] b.gains[c] b.k :=
      ⟨_, by simp [Balancer.update]; rfl⟩
    rw [hd]
    unfold updatedGain
    split
    · exact h.1 c
    · split
      · exact h.1 c
      · exact steppedGain_bounds _ _ _

theorem Balancer.Ok.of_eq {b d : Balancer} (h : b.Ok) (gains : d.gains = b.gains) (k : d.k = b.k) : d.Ok := by
  unfold Balancer.Ok
  rw [gains, k]
  exact h

theorem Part.Move.balancerOk {k : MoveKind} {p q : Part} (m : p.Move k q) (h : p.balancer.Ok) : q.balancer.Ok := by
  cases m
  case balancer ok => exact ok h
  case commit => exact Balancer.takeCompletion_ok h _ _ _
  case closeGather => exact h.of_eq (by rw [Part.tryStart_balancer_gains]; rfl) (by rw [Part.tryStart_balancer_k]; rfl)
  case start => exact h.of_eq (by rw [Part.tryStart_balancer_gains]) (by rw [Part.tryStart_balancer_k])
  case frame => rw [Part.startFrame_balancer]; exact h
  case scrap => rw [Part.setSlot_balancer, Part.abandon_balancer]; exact h
  all_goals exact h

theorem Part.Move.supplyOk {k : MoveKind} {p q : Part} (m : p.Move k q) (h : p.supply.Ok) : q.supply.Ok := by
  cases m
  case supply ok _ => exact ok h
  case supplyState ok => exact ok h
  case closeGather => rw [Part.tryStart_supply]; exact h
  case start => rw [Part.tryStart_supply]; exact h
  case frame => rw [Part.startFrame_supply]; exact h
  case scrap => rw [Part.setSlot_supply, Part.abandon_supply]; exact h
  all_goals exact h

theorem Supply.atReset_ok : Supply.atReset.Ok :=
  ⟨.inr (.inl rfl), fun h => Bool.noConfusion h, fun _ => ⟨rfl, Nat.zero_le _⟩⟩

theorem step_keeps_pace {s t : State} (h : step s = .next t) (hs : s.pace.Ok) : t.pace.Ok := by
  refine step_keeps (I := fun p => p.pace.Ok) h (Part.Act.keeps_but .launch nofun (fun _ _ _ m hk => m.paceOk hk) ?_)
    (fun _ _ _ => id) (fun p q e hp => ?_) (fun p q r _ => ?_) hs
  · intro p q a hp
    cases a with
    | launch _ _ => exact Part.launch_paceOk hp
  · cases e <;> exact hp
  · cases r <;> exact Pace.atReset_ok

theorem step_keeps_balancer {s t : State} (h : step s = .next t) (hs : s.balancer.Ok) : t.balancer.Ok := by
  refine step_keeps (I := fun p => p.balancer.Ok) h (Part.Act.keeps fun _ _ _ => Part.Move.balancerOk) (fun _ _ _ => id)
    (fun p q e hp => ?_) (fun p q r _ => ?_) hs
  · cases e <;> exact hp
  · cases r <;> exact Balancer.atReset_ok

theorem step_keeps_supply {s t : State} (h : step s = .next t) (hs : s.supply.Ok) : t.supply.Ok := by
  refine step_keeps (I := fun p => p.supply.Ok) h (Part.Act.keeps fun _ _ _ => Part.Move.supplyOk) (fun _ _ _ => id)
    (fun p q e hp => ?_) (fun p q r hp => ?_) hs
  · cases e <;> exact hp
  · cases r
    case soft => exact hp
    all_goals exact Supply.atReset_ok

/-- Settles O8: PACE_CONFIGURE, the balancer's update and the supply monitor each bring their values into range. -/
theorem stepKeepsSettings : Obligations.StepKeepsSettings := by
  unfold Obligations.StepKeepsSettings
  exact fun s t h => ⟨step_keeps_pace h, step_keeps_balancer h, step_keeps_supply h⟩

/-! ### The height monitor -/

/-- The height monitor sound, and STOPPED exactly while the part is PARKED. -/
def Part.HeightSound (p : Part) : Prop := p.height.Ok ∧ p.HeightFollowsPower

theorem Part.HeightSound.of_eq {p q : Part} (h : p.HeightSound) (height : q.height = p.height)
    (power : q.power.state = .parked ↔ p.power.state = .parked) : q.HeightSound := by
  refine ⟨height ▸ h.1, ?_⟩
  unfold Part.HeightFollowsPower
  rw [height, power]
  exact h.2

theorem Height.restart_ok {h : Height} (ok : h.Ok) (hs : h.state = .stopped) (now : Nat) : (h.restart now).Ok := by
  obtain ⟨_, short, duties, few, full, _⟩ := ok
  refine ⟨rfl, short, duties, few, iff_of_false nofun fun e => ?_, nofun⟩
  rw [full.2 e] at hs
  cases hs

theorem Height.stop_ok {h : Height} (ok : h.Ok) : h.stop.Ok :=
  ⟨ok.1, Nat.zero_le _, nofun, Nat.zero_le _, iff_of_false nofun (nofun : ¬ 0 = 8), fun _ => rfl⟩

theorem Part.Move.heightSound {k : MoveKind} {p q : Part} (m : p.Move k q) (hk : k ≠ .sleep) (h : p.HeightSound) :
    q.HeightSound := by
  cases m
  case height ok =>
    obtain ⟨sound, same⟩ := ok h.1
    exact ⟨sound, same.trans h.2⟩
  case heightStops => exact absurd rfl hk
  case sleep => exact absurd rfl hk
  case snapshots => exact absurd rfl hk
  case wake st parked hst => exact ⟨Height.restart_ok h.1 (h.2.2 parked) _, iff_of_false nofun hst⟩
  case rise doze => exact h.of_eq rfl (iff_of_false nofun (by rw [doze]; decide))
  case closeGather => exact h.of_eq (by rw [Part.tryStart_height]; rfl) (by rw [Part.tryStart_power]; rfl)
  case start => exact h.of_eq (by rw [Part.tryStart_height]) (by rw [Part.tryStart_power])
  case frame => exact h.of_eq (by rw [Part.startFrame_height]) (by rw [Part.startFrame_power])
  case scrap =>
    exact h.of_eq (by rw [Part.setSlot_height, Part.abandon_height]) (by rw [Part.setSlot_power, Part.abandon_power])
  all_goals exact h.of_eq rfl Iff.rfl

theorem Part.portParked_height (i : Fin 4) (p : Part) : (p.portParked i).height = p.height := by
  unfold Part.portParked
  split
  · rfl
  · exact Part.changePort_height _ _ _

theorem Part.portParked_power (i : Fin 4) (p : Part) : (p.portParked i).power = p.power := by
  unfold Part.portParked
  split
  · rfl
  · exact Part.changePort_power _ _ _

theorem Part.enterParked_height (p : Part) : p.enterParked.height = p.height.stop := by
  simp [Part.enterParked, eachPort, Part.portParked_height]

theorem Part.enterParked_power (p : Part) : p.enterParked.power = { p.power with state := .parked } := by
  simp [Part.enterParked, eachPort, Part.portParked_power]

theorem Part.enterDoze_height (p : Part) : p.enterDoze.height = p.height := by simp [Part.enterDoze]

theorem Part.enterDoze_power (p : Part) : p.enterDoze.power = { p.power with state := .doze } := by simp [Part.enterDoze]

theorem Part.HeightSound.afterReset {q : Part} {since : Nat} {silence : Option Nat} (height : q.height = .atReset since silence)
    (power : q.power.state = .doze) : q.HeightSound := by
  refine ⟨height ▸ Height.atReset_ok _ _, ?_⟩
  unfold Part.HeightFollowsPower
  rw [height, power]
  exact iff_of_false nofun nofun

/-- Settles O9: the readings keep window, count and state in accord, and the monitor stops and starts with PARKED. -/
theorem stepKeepsHeight : Obligations.StepKeepsHeight := by
  unfold Obligations.StepKeepsHeight
  intro s t hs hp h
  refine step_keeps (I := Part.HeightSound) h (Part.Act.keeps_but .sleep nofun (fun _ _ _ m hk => m.heightSound hk) ?_)
    (fun _ _ _ => id) (fun p q e hp => ?_) (fun p q r _ => ?_) ⟨hs, hp⟩
  · intro p q a hp
    cases a with
    | doze run =>
      refine hp.of_eq p.enterDoze_height ?_
      rw [p.enterDoze_power, run]
      exact iff_of_false nofun nofun
    | park _ =>
      refine ⟨p.enterParked_height ▸ Height.stop_ok hp.1, ?_⟩
      unfold Part.HeightFollowsPower
      rw [p.enterParked_height, p.enterParked_power]
      exact iff_of_true rfl rfl
  · obtain ⟨_, _, rfl⟩ := e.frame
    exact hp.of_eq rfl Iff.rfl
  · cases r <;> exact .afterReset rfl rfl

/-! ### What is quiet outside RUN -/

theorem Part.QuietOutsideRun.of_eq {p q : Part} (h : p.QuietOutsideRun) (power : q.power.state = p.power.state)
    (pace : q.pace = p.pace) (slot : q.engine.slot = p.engine.slot) (held : q.display.held = p.display.held) :
    q.QuietOutsideRun := by
  unfold Part.QuietOutsideRun
  rw [power, pace, slot, held]
  exact h

/-- With the slot empty no composition starts. -/
theorem Part.tryStart_of_empty {p : Part} (h : p.engine.slot = .empty) : p.tryStart = p := by
  unfold Part.tryStart
  split
  case h_1 e _ _ => rw [h] at e; cases e
  case h_2 => rfl

theorem Part.Move.quiet {k : MoveKind} {p q : Part} (m : p.Move k q) (hk : k ≠ .sleep) (h : p.QuietOutsideRun) :
    q.QuietOutsideRun := by
  cases m
  case pace m =>
    intro hp
    obtain ⟨stopped, deadline, slot, held⟩ := h hp
    obtain ⟨stopped', deadline'⟩ := m.quiet.resolve_left hp stopped deadline
    exact ⟨stopped', deadline', slot, held⟩
  case paceStarts run => exact fun hp => absurd run hp
  case dropGather =>
    intro hp
    obtain ⟨stopped, deadline, _, held⟩ := h hp
    exact ⟨stopped, deadline, rfl, held⟩
  case openGather hs => exact fun hp => absurd (h hp).1 hs
  case closeGather n stale slot =>
    intro hp
    rw [Part.tryStart_power] at hp
    rw [(h hp).2.2.1] at slot
    cases slot
  case scrap =>
    rw [Part.QuietOutsideRun, Part.setSlot_power, Part.abandon_power]
    intro hp
    obtain ⟨stopped, deadline, _, held⟩ := h hp
    exact ⟨by rw [Part.setSlot_pace, Part.abandon_pace]; exact stopped,
      by rw [Part.setSlot_pace, Part.abandon_pace]; exact deadline, rfl,
      by rw [Part.setSlot_display, Part.abandon_display]; exact held⟩
  case start =>
    intro hp
    rw [Part.tryStart_power] at hp
    rw [Part.tryStart_of_empty (h hp).2.2.1]
    exact h hp
  case frame =>
    exact h.of_eq (by rw [Part.startFrame_power]) p.startFrame_pace p.startFrame_engine_slot p.startFrame_display_held
  case display d hd =>
    intro hp
    obtain ⟨stopped, deadline, slot, held⟩ := h hp
    refine ⟨stopped, deadline, slot, Bool.eq_false_iff.2 fun e => ?_⟩
    obtain e | e := hd e
    · rw [held] at e
      cases e
    · exact hp e
  case wake st parked _ => exact fun _ => h (by rw [parked]; decide)
  case rise => exact fun hp => absurd rfl hp
  case heightStops => exact absurd rfl hk
  case sleep => exact absurd rfl hk
  case snapshots => exact absurd rfl hk
  all_goals exact h

theorem Part.forceStop_quiet (p : Part) : p.forceStop.pace.runState = .stopped ∧ p.forceStop.pace.deadline = none := by
  refine ⟨?_, rfl⟩
  unfold Part.forceStop
  split
  case isTrue h => exact h
  case isFalse =>
    show p.enterStopped.pace.runState = .stopped
    unfold Part.enterStopped
    rw [Part.setRunState_pace]

theorem Part.enterDoze_quiet (p : Part) : p.enterDoze.QuietOutsideRun := by
  intro _
  obtain ⟨stopped, deadline⟩ := (p.setPower .doze).forceStop_quiet
  exact ⟨stopped, deadline, rfl, rfl⟩

/-- What an operation keeps at each port it keeps at all four. -/
theorem eachPort_keeps {I : Part → Prop} (f : Fin 4 → Part → Part) (h : ∀ i q, I q → I (f i q)) (p : Part) (hp : I p) :
    I (eachPort f p) := h 3 _ (h 2 _ (h 1 _ (h 0 _ hp)))

theorem Part.gatherTest_of_empty {p : Part} (h : p.engine.slot = .empty) : p.gatherTest = p := by
  unfold Part.gatherTest
  rw [h]

/-- With the gather slot empty, a change of port state reaches neither pace nor slot. -/
theorem Part.portParked_quiet (i : Fin 4) {p : Part} (h : p.engine.slot = .empty) :
    (p.portParked i).pace = p.pace ∧ (p.portParked i).engine.slot = .empty ∧ (p.portParked i).display = p.display := by
  unfold Part.portParked
  split
  · exact ⟨rfl, h, rfl⟩
  · simp only [Part.changePort]
    split
    · exact ⟨rfl, h, rfl⟩
    · rw [Part.gatherTest_of_empty (by exact h)]
      exact ⟨rfl, h, rfl⟩

theorem Part.enterParked_quiet (p : Part) : p.enterParked.QuietOutsideRun := by
  intro _
  obtain ⟨stopped, deadline⟩ := (p.setPower .parked).forceStop_quiet
  have parked := fun q (h : q.engine.slot = .empty) => eachPort_keeps
    (I := fun r => r.pace = q.pace ∧ r.engine.slot = .empty) Part.portParked
    (fun i r ⟨pace, slot⟩ => by
      obtain ⟨pace', slot', _⟩ := Part.portParked_quiet i slot
      exact ⟨pace'.trans pace, slot'⟩) q ⟨rfl, h⟩
  unfold Part.enterParked
  generalize (p.setPower .parked).forceStop = r at stopped deadline ⊢
  obtain ⟨pace, slot⟩ := parked (r.abandon.setSlot .empty) rfl
  rw [Part.setSlot_pace, Part.abandon_pace] at pace
  generalize eachPort Part.portParked (r.abandon.setSlot .empty) = q at pace slot ⊢
  exact ⟨(congrArg Pace.runState pace).trans stopped, (congrArg Pace.deadline pace).trans deadline, slot, rfl⟩

theorem Part.QuietOutsideRun.atReset {q : Part} (pace : q.pace = .atReset) (engine : q.engine = .atReset)
    (display : q.display = .atReset) : q.QuietOutsideRun := by
  unfold Part.QuietOutsideRun
  rw [pace, engine, display]
  exact fun _ => ⟨rfl, rfl, rfl, rfl⟩

/-- Settles O6: pace, slot and frame request change only in RUN, and the entries into DOZE and PARKED quiet them. -/
theorem stepKeepsQuietOutsideRun : Obligations.StepKeepsQuietOutsideRun := by
  unfold Obligations.StepKeepsQuietOutsideRun
  intro s t hs h
  refine step_keeps (I := Part.QuietOutsideRun) h (Part.Act.keeps_but .sleep nofun (fun _ _ _ m hk => m.quiet hk) ?_)
    (fun _ _ _ => id) (fun p q e hp => ?_) (fun p q r _ => ?_) hs
  · intro p q a _
    cases a with
    | doze _ => exact p.enterDoze_quiet
    | park _ => exact p.enterParked_quiet
  · obtain ⟨_, _, rfl⟩ := e.frame
    exact hp.of_eq rfl rfl rfl rfl
  · cases r <;> exact .atReset rfl rfl rfl

end Sys2Proof.Machine
end

section
/-! PROOF. The invariants of the camera ports, the frame buffers and the composite buffers. -/

namespace Sys2Proof.Machine

/-! ### What a composition start does to the frame buffers -/

/-- A port that selects: some READY buffers become FREE, at most one IN_USE, and the others stay READY. -/
structure Port.Shrinks (q r : Port) (used : Option (Fin 3)) : Prop where
  same : r.state = q.state
  ready : r.ready.Sublist q.ready
  apart : ∀ c, used = some c → c ∉ r.ready
  buffers : ∀ c : Fin 3, r.buffers[c].state
    = if c ∈ r.ready then .ready else if used = some c then .inUse else if c ∈ q.ready then .free
      else q.buffers[c].state

section
variable {q r : Port} {used : Option (Fin 3)}

theorem Port.Shrinks.filling (h : q.Shrinks r used) {c : Fin 3} (hc : r.buffers[c].state = .filling) :
    q.buffers[c].state = .filling := by
  rw [h.buffers] at hc
  split at hc
  · cases hc
  · split at hc
    · cases hc
    · split at hc
      · cases hc
      · exact hc

theorem Port.Shrinks.readied (h : q.Shrinks r used) (ok : q.BuffersOk) {c : Fin 3} :
    c ∈ r.ready ↔ r.buffers[c].state = .ready := by
  rw [h.buffers]
  split
  case isTrue hc => exact iff_of_true hc rfl
  case isFalse hc =>
    refine iff_of_false hc ?_
    split
    · decide
    · split
      · decide
      case isFalse hq => exact fun e => hq ((ok.2.1 c).2 e)

theorem Port.Shrinks.inUse (h : q.Shrinks r used) (unused : q.Unused) {c : Fin 3}
    (hc : r.buffers[c].state = .inUse) : used = some c := by
  rw [h.buffers] at hc
  split at hc
  · cases hc
  · split at hc
    · assumption
    · split at hc
      · cases hc
      · exact absurd hc (unused c)

theorem Port.Shrinks.buffersOk (h : q.Shrinks r used) (ok : q.BuffersOk) (unused : q.Unused) : r.BuffersOk := by
  have readied := fun c => h.readied ok (c := c)
  obtain ⟨nodup, _, filling, _, idle⟩ := ok
  refine ⟨nodup.sublist h.ready, readied, fun a b ha hb => filling a b (h.filling ha) (h.filling hb), fun a b ha hb => ?_,
    fun hw b hb => idle (h.same ▸ hw) b (h.filling hb)⟩
  exact Option.some.inj ((h.inUse unused ha).symm.trans (h.inUse unused hb))

theorem Port.Shrinks.cleared (h : q.Shrinks r used) (ok : q.BuffersOk) (clear : q.Cleared) : r.Cleared := fun c =>
  ⟨fun e => (clear c).1 (h.filling e), fun e => (clear c).2 ((ok.2.1 c).1 (h.ready.subset ((h.readied ok).2 e)))⟩

end

theorem Port.freeAll_state (drop : List (Fin 3)) (q : Port) (c : Fin 3) :
    (q.freeAll drop).buffers[c].state = if c ∈ drop then .free else q.buffers[c].state := by
  simp only [Port.freeAll, Fin.getElem_fin, Vector.getElem_ofFn, List.contains_iff_mem]
  split <;> rfl

/-- A list that holds `b` is what stands before the first `b`, then `b`, then the rest. -/
theorem takeWhile_ne_append {b : Fin 3} : ∀ {l : List (Fin 3)}, b ∈ l →
    l = l.takeWhile (· != b) ++ b :: (l.dropWhile (· != b)).drop 1
  | a :: rest, h => by
    by_cases e : a = b
    · subst e
      simp
    · have : b ∈ rest := (List.mem_cons.1 h).resolve_left (Ne.symm e)
      have ne : (a != b) = true := by simpa using e
      rw [List.takeWhile_cons_of_pos (p := (· != b)) ne, List.dropWhile_cons_of_pos (p := (· != b)) ne, List.cons_append, ← takeWhile_ne_append this]

theorem Port.select_shrinks (n : Half) (stale : Nat) {q : Port} (nodup : q.ready.Nodup)
    (ready : ∀ b : Fin 3, b ∈ q.ready → q.buffers[b].state = .ready) : ∃ used, q.Shrinks (q.select n stale) used := by
  unfold Port.select
  split
  case h_1 b hb =>
    have mem : b ∈ q.ready := (List.mem_filter.1 (List.mem_of_getLast? hb)).1
    have split := takeWhile_ne_append mem
    generalize hpre : q.ready.takeWhile (· != b) = pre at split ⊢
    generalize hpost : (q.ready.dropWhile (· != b)).drop 1 = post at split ⊢
    rw [split] at nodup
    obtain ⟨_, later, apart⟩ := List.nodup_append.1 nodup
    obtain ⟨fresh, _⟩ := List.nodup_cons.1 later
    refine ⟨some b, rfl, ?_, ?_, fun c => ?_⟩
    · rw [split]
      exact (List.sublist_cons_self b post).trans (List.sublist_append_right pre _)
    · rintro c ⟨⟩
      exact fresh
    · show (update (q.freeAll pre).buffers b fun f => { f with state := .inUse })[c].state = if c ∈ post then _ else _
      rw [update_get]
      by_cases hcb : b = c
      · subst hcb
        rw [if_pos rfl, if_neg fresh, if_pos rfl]
      · rw [if_neg hcb, Port.freeAll_state, if_neg (c := some b = some c) fun e => hcb (Option.some.inj e)]
        by_cases hpr : c ∈ pre
        · rw [if_pos hpr, if_neg fun hpo => apart c hpr c (List.mem_cons_of_mem _ hpo) rfl, if_pos]
          rw [split]
          exact List.mem_append_left _ hpr
        · rw [if_neg hpr]
          by_cases hpo : c ∈ post
          · rw [if_pos hpo]
            refine ready c ?_
            rw [split]
            exact List.mem_append_right _ (List.mem_cons_of_mem _ hpo)
          · rw [if_neg hpo, if_neg]
            rw [split]
            simp [hpr, hpo, Ne.symm hcb]
  case h_2 =>
    refine ⟨none, rfl, List.filter_sublist, nofun, fun c => ?_⟩
    show ((q.freeAll _).buffers[c]).state = if c ∈ q.ready.filter _ then _ else _
    rw [Port.freeAll_state, if_neg (c := none = some c) nofun]
    simp only [List.mem_filter]
    by_cases hc : c ∈ q.ready
    · cases hl : tagLater n q.buffers[c].tag
      · simp [hc]
      · simp only [hc, Bool.not_true, Bool.false_eq_true, and_false, and_true, if_false, if_true]
        exact ready c hc
    · simp [hc]

theorem Port.atStart_shrinks (n : Half) (stale : Nat) {q : Port} (ok : q.BuffersOk) :
    ∃ used, q.Shrinks (q.atStart n stale) used := by
  unfold Port.atStart
  split
  · exact Port.select_shrinks n stale ok.1 fun b => (ok.2.1 b).1
  · refine ⟨none, rfl, List.Sublist.refl _, nofun, fun c => ?_⟩
    split
    case isTrue h => exact (ok.2.1 c).1 h
    case isFalse h => simp

/-! ### Camera power -/

theorem Port.PowerOk.of_eq {q r : Port} (h : q.PowerOk) (state : r.state = q.state) (power : r.power = q.power) :
    r.PowerOk := by
  unfold Port.PowerOk
  rw [state, power]
  exact h

theorem Part.PortsPowered.map {p q : Part} (h : p.PortsPowered) {f : Port → Port} (hq : q.ports = mapAll p.ports f)
    (state : ∀ r, (f r).state = r.state) (power : ∀ r, (f r).power = r.power) : q.PortsPowered := by
  intro i
  rw [hq, mapAll_get]
  exact (h i).of_eq (state _) (power _)

theorem Part.tryStart_powered {p : Part} (h : p.PortsPowered) : p.tryStart.PortsPowered := by
  intro i
  obtain ⟨_, _, e⟩ := p.tryStart_port i
  rw [e]
  exact (h i).of_eq rfl rfl

/-- An abandonment leaves the ports as they are, or releases their frames. -/
theorem Part.abandon_ports (p : Part) :
    (p.engine.inflight = none ∧ p.abandon.ports = p.ports) ∨ p.abandon.ports = mapAll p.ports Port.release := by
  unfold Part.abandon
  split
  case h_1 h => exact .inl ⟨h, rfl⟩
  case h_2 => exact .inr rfl

theorem Part.Move.portsPowered {k : MoveKind} {p q : Part} (m : p.Move k q) (h : p.PortsPowered) : q.PortsPowered := by
  cases m
  case ports alike => exact fun i => (h i).of_eq (alike i).state (alike i).power
  case port i f m =>
    intro j
    rw [show (p.onPort i f).ports[j] = _ from update_get _ _ _ _]
    split
    case isTrue e => exact e ▸ m.power (h i)
    case isFalse => exact h j
  case portsSupplied ok => exact fun i => ok i (h i)
  case commit => exact h.map rfl (fun _ => rfl) fun _ => rfl
  case closeGather => exact Part.tryStart_powered h
  case start => exact Part.tryStart_powered h
  case frame => unfold Part.PortsPowered; rw [Part.startFrame_ports]; exact h
  case scrap =>
    unfold Part.PortsPowered
    rw [Part.setSlot_ports]
    obtain ⟨_, e⟩ | e := p.abandon_ports
    · rw [e]; exact h
    · exact h.map e (fun _ => rfl) fun _ => rfl
  all_goals exact h

theorem Port.afterSoftReset_powerOk (q : Port) : q.afterSoftReset.PowerOk := by
  unfold Port.PowerOk Port.afterSoftReset
  cases q.power <;> rfl

/-! ### The frame buffers -/

theorem Port.Alike.buffersOk {q r : Port} (h : q.Alike r) (ok : q.BuffersOk) : r.BuffersOk := by
  unfold Port.BuffersOk
  simp only [h.buffers, h.ready, h.state]
  exact ok

theorem Port.release_state (q : Port) (c : Fin 3) :
    q.release.buffers[c].state = if q.buffers[c].state = .inUse then .free else q.buffers[c].state := by
  rw [show q.release.buffers[c] = _ from mapAll_get _ _ _]
  split <;> rfl

theorem Port.release_unused (q : Port) : q.release.Unused := by
  intro c hc
  rw [Port.release_state] at hc
  split at hc
  case isTrue => cases hc
  case isFalse h => exact h hc

/-- A release changes no state but IN_USE. -/
theorem Port.release_state_iff (q : Port) (c : Fin 3) {st : BufferState} (hf : st ≠ .free) (hu : st ≠ .inUse) :
    q.release.buffers[c].state = st ↔ q.buffers[c].state = st := by
  rw [Port.release_state]
  split
  case isTrue h => rw [h]; exact iff_of_false hf.symm hu.symm
  case isFalse => exact Iff.rfl

theorem Port.release_buffersOk {q : Port} (ok : q.BuffersOk) : q.release.BuffersOk := by
  obtain ⟨nodup, mem, filling, _, idle⟩ := ok
  have fill := fun c => q.release_state_iff c (st := .filling) nofun nofun
  refine ⟨nodup, fun c => (mem c).trans (q.release_state_iff c (st := .ready) nofun nofun).symm, fun a b ha hb => ?_,
    fun a b ha => absurd ha (q.release_unused a), fun hw c hc => idle hw c ((fill c).1 hc)⟩
  exact filling a b ((fill a).1 ha) ((fill b).1 hb)

theorem Port.release_cleared {q : Port} (h : q.Cleared) : q.release.Cleared := fun c =>
  ⟨fun e => (h c).1 ((q.release_state_iff c (st := .filling) nofun nofun).1 e), fun e => (h c).2 ((q.release_state_iff c (st := .ready) nofun nofun).1 e)⟩

/-- The frame buffers of one port, with the supply LOW or not and the engine IDLE or not. -/
def Port.FramesOk (low : Bool) (idle : Prop) (q : Port) : Prop :=
  q.BuffersOk ∧ (low = true → q.Cleared) ∧ (idle → q.Unused)

theorem Part.framesOk_iff (p : Part) : p.FramesOk ↔ ∀ i : Fin 4, p.ports[i].FramesOk p.supply.low (p.engine.inflight = none) :=
  Iff.rfl

theorem Port.Move.framesOk {low : Bool} {idle : Prop} {q r : Port} (m : q.Move low r) (h : q.FramesOk low idle) :
    r.FramesOk low idle := ⟨m.buffers h.1, fun hl => m.cleared hl (h.2.1 hl), fun hi => m.unused (h.2.2 hi)⟩

theorem Port.Alike.framesOk {low : Bool} {idle : Prop} {q r : Port} (a : q.Alike r) (h : q.FramesOk low idle) :
    r.FramesOk low idle := by
  refine ⟨a.buffersOk h.1, fun hl c => ?_, fun hi c => ?_⟩
  · rw [a.buffers c]; exact h.2.1 hl c
  · rw [a.buffers c]; exact h.2.2 hi c

theorem Port.release_framesOk {low : Bool} {idle idle' : Prop} {q : Port} (h : q.FramesOk low idle) :
    q.release.FramesOk low idle' :=
  ⟨Port.release_buffersOk h.1, fun hl => Port.release_cleared (h.2.1 hl), fun _ => q.release_unused⟩

theorem Port.atStart_framesOk {low : Bool} {idle idle' : Prop} {q : Port} (h : q.FramesOk low idle) (hi : idle)
    (hi' : ¬ idle') (n : Half) (stale : Nat) : (q.atStart n stale).FramesOk low idle' := by
  obtain ⟨_, shrinks⟩ := Port.atStart_shrinks n stale h.1
  exact ⟨shrinks.buffersOk h.1 (h.2.2 hi), fun hl => shrinks.cleared h.1 (h.2.1 hl), fun g => absurd g hi'⟩

/-- A composition start: nothing, or the ports selected and a FREE composite buffer WRITING with the engine BUSY. -/
theorem Part.tryStart_cases (p : Part) :
    (p.tryStart = p ∧ (p.engine.inflight = none → (∃ n stale, p.engine.slot = .ready n stale) → p.engine.find? .free = none))
      ∨ (p.engine.inflight = none ∧ p.tryStart.engine.inflight ≠ none ∧ p.tryStart.engine.slot = .empty
        ∧ (∃ n stale, p.tryStart.ports = mapAll p.ports (Port.atStart n stale))
        ∧ ∃ b, p.engine.find? .free = some b ∧ ∀ c : Fin 3, p.tryStart.engine.buffers[c].state
          = if b = c then .writing else p.engine.buffers[c].state) := by
  unfold Part.tryStart
  split
  case h_1 n stale b slot idle free =>
    refine .inr ⟨idle, ?_, ?_, ⟨n, stale, ?_⟩, b, free, fun c => ?_⟩
    · simp [Part.compose]
    · simp only [Part.compose]
    · simp only [Part.compose, Part.swapTables_ports]
    · simp only [Part.compose, Part.swapTables_engine_buffers]
      rw [update_get]
      split <;> rfl
  case h_2 other =>
    refine .inl ⟨rfl, fun idle ⟨n, stale, slot⟩ => ?_⟩
    refine Classical.byContradiction fun found => ?_
    obtain ⟨b, hb⟩ := Option.ne_none_iff_exists'.1 found
    exact other n stale b slot idle hb

theorem Part.tryStart_framesOk {p : Part} (h : p.FramesOk) : p.tryStart.FramesOk := by
  obtain ⟨e, _⟩ | ⟨idle, busy, _, ⟨n, stale, ports⟩, _⟩ := p.tryStart_cases
  · rwa [e]
  · rw [Part.framesOk_iff, ports, Part.tryStart_supply]
    intro i
    rw [mapAll_get]
    exact Port.atStart_framesOk (h i) idle busy n stale

theorem Part.FramesOk.of_eq {p q : Part} (h : p.FramesOk) (ports : q.ports = p.ports)
    (low : q.supply.low = p.supply.low) (inflight : q.engine.inflight = none → p.engine.inflight = none) : q.FramesOk := by
  intro i
  rw [ports, low]
  exact ⟨(h i).1, (h i).2.1, fun e => (h i).2.2 (inflight e)⟩

theorem Part.FramesOk.released {p q : Part} (h : p.FramesOk) (ports : q.ports = mapAll p.ports Port.release)
    (low : q.supply.low = p.supply.low) : q.FramesOk := by
  intro i
  rw [ports, low, mapAll_get]
  exact Port.release_framesOk (h i)

theorem Part.Move.framesOk {k : MoveKind} {p q : Part} (m : p.Move k q) (hk : k ≠ .supply) (h : p.FramesOk) :
    q.FramesOk := by
  cases m
  case ports alike => exact fun i => (alike i).framesOk (h i)
  case port i f m =>
    intro j
    rw [show (p.onPort i f).ports[j] = _ from update_get _ _ _ _]
    split
    case isTrue e => exact e ▸ m.framesOk (h i)
    case isFalse => exact h j
  case portsSupplied => exact absurd rfl hk
  case supplyState => exact absurd rfl hk
  case supply low => exact h.of_eq rfl low id
  case commit => exact h.released rfl rfl
  case closeGather => exact Part.tryStart_framesOk h
  case start => exact Part.tryStart_framesOk h
  case frame =>
    exact h.of_eq p.startFrame_ports (by rw [Part.startFrame_supply]) fun e => by rwa [Part.startFrame_engine_inflight] at e
  case scrap =>
    have low : (p.abandon.setSlot .empty).supply.low = p.supply.low := by rw [Part.setSlot_supply, Part.abandon_supply]
    obtain ⟨idle, e⟩ | e := p.abandon_ports
    · exact h.of_eq e low fun _ => idle
    · exact h.released e low
  all_goals exact h.of_eq rfl rfl id

theorem Port.clearBuffers_framesOk {low : Bool} {idle : Prop} {q : Port} (h : q.FramesOk low idle) (n : Nat) :
    Port.FramesOk true idle { q.clearBuffers with faultCount := n } := by
  have drop := fun c : Fin 3 => q.clearBuffers_get c
  have state := fun c : Fin 3 => (q.buffers[c]).dropped_state
  simp only [← drop] at state
  have m : Port.Move true q { q.clearBuffers with faultCount := n } := .of_clear id rfl rfl
  exact ⟨m.buffers h.1, fun _ c => ⟨(state c).1, (state c).2.1⟩, fun hi => m.unused (h.2.2 hi)⟩

/-- The entry into LOW clears the frame buffers; what follows moves on sound ports. -/
theorem Part.enterLow_framesOk {p : Part} (h : p.FramesOk) : p.enterLow.FramesOk := by
  rw [Part.enterLow_eq]
  have cleared : Part.FramesOk { p.supplyGone with
      ports := mapAll p.supplyGone.ports fun q => { q.clearBuffers with faultCount := 0 } } := by
    intro i
    rw [mapAll_get]
    exact Port.clearBuffers_framesOk (h i) 0
  exact Part.Moves.keep (k := .sound) (((Part.syncWatchdogs_moves _).trans (Part.freeze_moves _)).trans (Part.follow_moves _ p))
    (fun _ _ m => m.framesOk nofun) (fun _ _ m => m.framesOk nofun) cleared

/-- The frame buffers sound with none FILLING, as they are at the return to NORMAL. -/
def Part.FramesSettled (p : Part) : Prop := p.FramesOk ∧ ∀ i : Fin 4, ∀ b : Fin 3, p.ports[i].buffers[b].state ≠ .filling

theorem Part.gatherTest_settled {p : Part} (h : p.FramesSettled) : p.gatherTest.FramesSettled := by
  refine ⟨Part.Moves.keep (k := .sound) p.gatherTest_moves (fun _ _ m => m.framesOk nofun) (fun _ _ m => m.framesOk nofun) h.1,
    fun i b hb => ?_⟩
  obtain e | ⟨n, stale, e⟩ := p.gatherTest_ports
  · rw [e] at hb
    exact h.2 i b hb
  · rw [e, mapAll_get] at hb
    obtain ⟨_, shrinks⟩ := Port.atStart_shrinks n stale (h.1 i).1
    exact h.2 i b (shrinks.filling hb)

theorem Part.portRestored_settled (i : Fin 4) {p : Part} (h : p.FramesSettled) : (p.portRestored i).FramesSettled := by
  have powered : (p.onPort i (Port.powerUp p.now)).FramesSettled := by
    have get : ∀ j : Fin 4, ((p.onPort i (Port.powerUp p.now)).ports[j]).buffers = p.ports[j].buffers
        ∧ ((p.onPort i (Port.powerUp p.now)).ports[j]).ready = p.ports[j].ready := by
      intro j
      rw [show (p.onPort i (Port.powerUp p.now)).ports[j] = _ from update_get _ _ _ _]
      split <;> exact ⟨rfl, rfl⟩
    refine ⟨fun j => ?_, fun j b => by rw [(get j).1]; exact h.2 j b⟩
    obtain ⟨⟨nodup, mem, filling, inUse, _⟩, low, unused⟩ := h.1 j
    unfold Port.BuffersOk
    rw [(get j).1, (get j).2]
    exact ⟨⟨nodup, mem, filling, inUse, fun _ => h.2 j⟩, low, unused⟩
  unfold Part.portRestored
  split
  case isFalse => exact h
  case isTrue =>
    simp only [Part.changePort]
    split
    · exact powered
    · exact Part.gatherTest_settled powered

theorem Part.leaveLow_framesOk {p : Part} (low : p.supply.low = true) (h : p.FramesOk) : p.leaveLow.FramesOk := by
  rw [Part.leaveLow_eq]
  have back : p.supplyBack.FramesSettled :=
    ⟨fun i => ⟨(h i).1, fun e => Bool.noConfusion e, (h i).2.2⟩, fun i b => ((h i).2.1 low b).1⟩
  have restored := eachPort_keeps Part.portRestored (fun i _ => Part.portRestored_settled i) _ back
  exact Part.Moves.keep (k := .sound) ((Part.syncWatchdogs_moves _).trans (Part.follow_moves _ p))
    (fun _ _ m => m.framesOk nofun) (fun _ _ m => m.framesOk nofun) restored.1

theorem Port.afterSoftReset_framesOk (q : Port) (low : Bool) (idle : Prop) : q.afterSoftReset.FramesOk low idle := by
  have free : ∀ (b : Fin 3) (st : BufferState), st ≠ .free → q.afterSoftReset.buffers[b].state ≠ st := by
    intro b st hst
    rw [show q.afterSoftReset.buffers[b] = FrameBuffer.atReset from Port.atReset_buffer b]
    exact hst.symm
  exact ⟨⟨List.nodup_nil, fun b => iff_of_false List.not_mem_nil (free b _ nofun), fun a _ ha => absurd ha (free a _ nofun),
    fun a _ ha => absurd ha (free a _ nofun), fun _ b => free b _ nofun⟩,
    fun _ b => ⟨free b _ nofun, free b _ nofun⟩, fun _ b => free b _ nofun⟩

theorem Part.FramesOk.atReset {q : Part} (h : ∀ i : Fin 4, q.ports[i] = .atReset) : q.FramesOk := by
  intro i
  rw [h]
  refine ⟨Port.atReset_buffersOk, fun _ b => ?_, fun _ b => ?_⟩
  all_goals
    rw [Port.atReset_buffer]
    decide

theorem Part.beginReset_port (p : Part) (cause : ResetCause) (i : Fin 4) : (p.beginReset cause).ports[i] = .atReset :=
  Part.afterFullReset_port cause p.flashAfterCut p.now (p.draws + 1) i

theorem step_keeps_power {s t : State} (h : step s = .next t) (hs : s.PortsPowered) : t.PortsPowered := by
  refine step_keeps (I := Part.PortsPowered) h (Part.Act.keeps fun _ _ _ => Part.Move.portsPowered) (fun _ _ _ => id)
    (fun p q e hp => ?_) (fun p q r hp => ?_) hs
  · obtain ⟨_, _, rfl⟩ := e.frame
    exact hp
  · intro i
    cases r
    case soft =>
      rw [show p.softReset.ports[i] = _ from mapAll_get _ _ _]
      exact Port.afterSoftReset_powerOk _
    case begin cause =>
      rw [Part.beginReset_port]
      exact Port.atReset_powerOk
    case finish =>
      rw [Part.afterFullReset_port]
      exact Port.atReset_powerOk

theorem step_keeps_frames {s t : State} (h : step s = .next t) (hs : s.FramesOk) : t.FramesOk := by
  refine step_keeps (I := Part.FramesOk) h (Part.Act.keeps_but .supply nofun (fun _ _ _ m hk => m.framesOk hk) ?_)
    (fun _ _ _ => id) (fun p q e hp => ?_) (fun p q r hp => ?_) hs
  · intro p q a hp
    cases a with
    | goLow _ => exact Part.enterLow_framesOk hp
    | restore low => exact Part.leaveLow_framesOk low hp
  · obtain ⟨_, _, rfl⟩ := e.frame
    exact hp.of_eq rfl rfl id
  · cases r
    case soft =>
      intro i
      rw [show p.softReset.ports[i] = _ from mapAll_get _ _ _]
      exact Port.afterSoftReset_framesOk _ _ _
    case begin => exact .atReset fun i => p.beginReset_port _ i
    case finish => exact .atReset fun i => Part.afterFullReset_port _ _ _ _ i

/-- Settles O5: a port changes its state and its buffers together, and LOW clears the buffers as it is entered. -/
theorem stepKeepsPorts : Obligations.StepKeepsPorts := by
  unfold Obligations.StepKeepsPorts
  exact fun s t h => ⟨step_keeps_power h, step_keeps_frames h⟩

/-! ### The composite buffers -/

theorem Engine.find?_state {e : Engine} {st : CompositeState} {b : Fin 3} (h : e.find? st = some b) :
    e.buffers[b].state = st := by
  have := List.find?_some h
  simpa using this

/-- Composite buffers that change each by itself, with one claimed or none. -/
theorem Engine.BuffersOk.of_eq {e f : Engine} (h : e.BuffersOk) (buffers : ∀ b : Fin 3, f.buffers[b].state = e.buffers[b].state)
    (inflight : f.inflight = none ↔ e.inflight = none) (previous : f.previous = e.previous) : f.BuffersOk := by
  unfold Engine.BuffersOk
  simp only [buffers, inflight, previous]
  exact h

theorem Part.tryStart_buffersOk {p : Part} (h : p.engine.BuffersOk) : p.tryStart.engine.BuffersOk := by
  obtain ⟨e, _⟩ | ⟨idle, busy, _, _, b, free, state⟩ := p.tryStart_cases
  · rwa [e]
  have hb := Engine.find?_state free
  obtain ⟨apart, writing, done, previous⟩ := h
  have quiet := writing.1 idle
  have kept : ∀ {c : Fin 3}, p.tryStart.engine.buffers[c].state ≠ .writing →
      p.tryStart.engine.buffers[c].state = p.engine.buffers[c].state := by
    intro c hc
    rw [state] at hc ⊢
    split at hc
    · exact absurd rfl hc
    · rw [if_neg (by assumption)]
  have claimed : ∀ {c : Fin 3}, p.tryStart.engine.buffers[c].state = .writing → b = c := by
    intro c hc
    rw [state] at hc
    split at hc
    · assumption
    · exact absurd hc (quiet c)
  refine ⟨fun a c ha hac => ?_, iff_of_false busy fun none => ?_, fun c hc => ?_, fun c hc => ?_⟩
  · by_cases ew : p.tryStart.engine.buffers[a].state = .writing
    · exact (claimed ew).symm.trans (claimed (hac ▸ ew))
    · have ec : p.tryStart.engine.buffers[c].state ≠ .writing := hac ▸ ew
      rw [kept ew] at ha
      exact apart a c ha ((kept ew).symm.trans (hac.trans (kept ec)))
  · exact none b (by rw [state, if_pos rfl])
  · rw [Part.tryStart_engine_previous]
    refine done c ((kept ?_).symm.trans hc)
    rw [hc]
    decide
  · rw [Part.tryStart_engine_previous] at hc
    rw [state]
    split
    case isTrue e =>
      subst e
      obtain g | g := previous _ hc <;> rw [hb] at g <;> cases g
    case isFalse => exact previous c hc

/-- With the composite buffers sound, a composition start leaves no closed gather waiting for an idle engine. -/
theorem Part.tryStart_noIdleWait {p : Part} (h : p.engine.BuffersOk) : p.tryStart.engine.NoIdleWait := by
  intro n stale hs hi
  obtain ⟨e, none⟩ | ⟨_, busy, _⟩ := p.tryStart_cases
  · rw [e] at hs hi
    obtain ⟨b, found, _⟩ := Engine.free_found p.engine (h.2.1.1 hi) h.1
    rw [none hi ⟨n, stale, hs⟩] at found
    cases found
  · exact busy hi

/-- A commit: the WRITING buffer becomes DONE, and a former DONE one FREE. -/
theorem CompositeBuffer.complete_iff (r : CompositeRecord) (b : CompositeBuffer) :
    ((b.complete r).state = .done ↔ b.state = .writing) ∧ ((b.complete r).state = .shown ↔ b.state = .shown)
      ∧ (b.complete r).state ≠ .writing := by
  unfold CompositeBuffer.complete
  cases h : b.state <;> simp [h]

/-- The DONE buffer is taken: it becomes SHOWN, and the SHOWN one FREE. -/
theorem CompositeBuffer.show_iff (b : CompositeBuffer) :
    (b.show.state = .shown ↔ b.state = .done) ∧ (b.show.state = .writing ↔ b.state = .writing) ∧ b.show.state ≠ .done := by
  unfold CompositeBuffer.show
  cases h : b.state <;> simp [h]

/-- An abandonment: the WRITING buffer becomes FREE. -/
theorem CompositeBuffer.abandon_iff (b : CompositeBuffer) :
    b.abandon.state ≠ .writing ∧ (b.abandon.state = .done ↔ b.state = .done)
      ∧ (b.abandon.state = .shown ↔ b.state = .shown) := by
  unfold CompositeBuffer.abandon
  cases h : b.state <;> simp [h]

/-- The states of composite buffers but FREE. -/
theorem CompositeState.cases_of_ne_free {st : CompositeState} (h : st ≠ .free) : st = .writing ∨ st = .done ∨ st = .shown := by
  cases st
  case free => exact absurd rfl h
  case writing => exact .inl rfl
  case done => exact .inr (.inl rfl)
  case shown => exact .inr (.inr rfl)

theorem Engine.find?_of_state {e : Engine} {st : CompositeState} {b : Fin 3} (h : e.buffers[b].state = st) :
    ∃ c, e.find? st = some c := by
  cases hf : e.find? st with
  | some c => exact ⟨c, rfl⟩
  | none =>
    have absent := List.find?_eq_none.1 hf b (List.mem_finRange b)
    exact absurd h (by simpa using absent)

theorem Engine.commit_buffersOk {e : Engine} (h : e.BuffersOk) {c : Composition} (hc : e.inflight = some c) :
    (e.commit c).BuffersOk := by
  obtain ⟨apart, writing, _, _⟩ := h
  have busy : ∃ b : Fin 3, e.buffers[b].state = .writing := by
    refine Classical.byContradiction fun none => ?_
    rw [writing.2 fun b hb => none ⟨b, hb⟩] at hc
    cases hc
  obtain ⟨b, hb⟩ := busy
  obtain ⟨w, hw⟩ := Engine.find?_of_state hb
  have hws := Engine.find?_state hw
  have only : ∀ a : Fin 3, e.buffers[a].state = .writing → w = a := fun a ha =>
    apart w a (by rw [hws]; decide) (hws.trans ha.symm)
  have previous : (e.commit c).previous = some w := by
    simp only [Engine.commit, hw]
  have get : ∀ a : Fin 3, (e.commit c).buffers[a] = (e.buffers[a]).complete c.record := fun a => mapAll_get _ _ _
  have state := fun a : Fin 3 => (e.buffers[a]).complete_iff c.record
  simp only [← get] at state
  refine ⟨fun a d ha hd => ?_, iff_of_true rfl fun a => (state a).2.2, fun a ha => ?_, fun a ha => ?_⟩
  · obtain s | s | s := CompositeState.cases_of_ne_free ha
    · exact absurd s (state a).2.2
    · rw [s] at hd
      exact (only a ((state a).1.1 s)).symm.trans (only d ((state d).1.1 hd.symm))
    · rw [s] at hd
      have ha' := (state a).2.1.1 s
      exact apart a d (by rw [ha']; decide) (ha'.trans ((state d).2.1.1 hd.symm).symm)
  · rw [previous, only a ((state a).1.1 ha)]
  · rw [previous] at ha
    cases ha
    exact .inl ((state w).1.2 hws)

theorem Part.abandon_buffersOk {p : Part} (h : p.engine.BuffersOk) : p.abandon.engine.BuffersOk := by
  unfold Part.abandon
  split
  case h_1 => exact h
  case h_2 =>
    obtain ⟨apart, _, done, previous⟩ := h
    have get : ∀ a : Fin 3, (mapAll p.engine.buffers CompositeBuffer.abandon)[a] = (p.engine.buffers[a]).abandon :=
      fun a => mapAll_get _ _ _
    have state := fun a : Fin 3 => (p.engine.buffers[a]).abandon_iff
    simp only [← get] at state
    refine ⟨fun a d ha hd => ?_, iff_of_true rfl fun a => (state a).1, fun a ha => done a ((state a).2.1.1 ha), fun a ha => ?_⟩
    · obtain s | s | s := CompositeState.cases_of_ne_free ha
      · exact absurd s (state a).1
      · have ha' := (state a).2.1.1 s
        exact apart a d (by rw [ha']; decide) (ha'.trans ((state d).2.1.1 (hd.symm.trans s)).symm)
      · have ha' := (state a).2.2.1 s
        exact apart a d (by rw [ha']; decide) (ha'.trans ((state d).2.2.1 (hd.symm.trans s)).symm)
    · exact (previous a ha).imp (state a).2.1.2 (state a).2.2.2

theorem Part.startFrame_buffersOk {p : Part} (h : p.engine.BuffersOk) : p.startFrame.engine.BuffersOk := by
  rw [Part.startFrame_engine]
  split
  case isFalse => exact h
  case isTrue takes =>
    obtain ⟨apart, writing, done, previous⟩ := h
    obtain ⟨d, hd⟩ : ∃ d, p.engine.find? .done = some d := by
      simp only [Part.takesDone, Bool.and_eq_true] at takes
      exact Option.isSome_iff_exists.1 takes.2
    have named := done d (Engine.find?_state hd)
    have get : ∀ a : Fin 3, (mapAll p.engine.buffers CompositeBuffer.show)[a] = (p.engine.buffers[a]).show :=
      fun a => mapAll_get _ _ _
    have state := fun a : Fin 3 => (p.engine.buffers[a]).show_iff
    simp only [← get] at state
    refine ⟨fun a b ha hb => ?_, writing.trans (forall_congr' fun a => not_congr (state a).2.1.symm),
      fun a ha => absurd ha (state a).2.2, fun a ha => ?_⟩
    · obtain s | s | s := CompositeState.cases_of_ne_free ha
      · have ha' := (state a).2.1.1 s
        exact apart a b (by rw [ha']; decide) (ha'.trans ((state b).2.1.1 (hb.symm.trans s)).symm)
      · exact absurd s (state a).2.2
      · have ha' := (state a).1.1 s
        exact apart a b (by rw [ha']; decide) (ha'.trans ((state b).1.1 (hb.symm.trans s)).symm)
    · obtain rfl : d = a := Option.some.inj (named.symm.trans ha)
      exact .inr ((state d).1.2 (Engine.find?_state hd))

theorem Part.Move.buffersOk {k : MoveKind} {p q : Part} (m : p.Move k q) (h : p.engine.BuffersOk) : q.engine.BuffersOk := by
  cases m
  case closeGather n stale _ => exact Part.tryStart_buffersOk (p := p.setSlot (.ready n stale)) h
  case start => exact Part.tryStart_buffersOk h
  case commit hc => exact Engine.commit_buffersOk h hc
  case scrap => exact Part.abandon_buffersOk h
  case frame => exact Part.startFrame_buffersOk h
  all_goals exact h

/-- The composite buffers sound, and no closed gather behind an idle engine. -/
def Engine.Sound (e : Engine) : Prop := e.BuffersOk ∧ e.NoIdleWait

theorem Part.Move.engineSound {k : MoveKind} {p q : Part} (m : p.Move k q) (hk : k ≠ .commit) (h : p.engine.Sound) :
    q.engine.Sound := by
  refine ⟨m.buffersOk h.1, ?_⟩
  cases m
  case closeGather n stale _ => exact Part.tryStart_noIdleWait (p := p.setSlot (.ready n stale)) h.1
  case start => exact absurd rfl hk
  case commit => exact absurd rfl hk
  case frame =>
    intro n stale hs
    rw [Part.startFrame_engine_slot] at hs
    rw [Part.startFrame_engine_inflight]
    exact h.2 n stale hs
  case scrap => exact nofun
  case dropGather => exact nofun
  case openGather => exact nofun
  all_goals exact h.2

theorem Part.completeComposition_sound {p : Part} {c : Composition} (hc : p.engine.inflight = some c)
    (h : p.engine.BuffersOk) : p.completeComposition.engine.Sound := by
  obtain ⟨q, moves, e⟩ := p.completeComposition_eq hc
  have ok : q.engine.BuffersOk := moves.keep (I := fun r => r.engine.BuffersOk) (fun _ _ m => m.buffersOk)
    (fun _ _ m => m.buffersOk) (Engine.commit_buffersOk h hc)
  rw [e]
  exact ⟨Part.tryStart_buffersOk ok, Part.tryStart_noIdleWait ok⟩

/-- Settles O7: every change of a composite buffer moves one buffer on, and a completion starts what waits. -/
theorem stepKeepsCompositeBuffers : Obligations.StepKeepsCompositeBuffers := by
  unfold Obligations.StepKeepsCompositeBuffers
  intro s t hb hn h
  refine step_keeps (I := fun p => p.engine.Sound) h
    (Part.Act.keeps_but .commit nofun (fun _ _ _ m hk => m.engineSound hk) ?_)
    (fun _ _ _ => id) (fun p q e hp => ?_) (fun p q r _ => ?_) ⟨hb, hn⟩
  · intro p q a hp
    cases a with
    | complete c hc => exact Part.completeComposition_sound hc hp.1
  · obtain ⟨_, _, rfl⟩ := e.frame
    exact hp
  · cases r <;> exact ⟨Engine.atReset_buffersOk, nofun⟩

end Sys2Proof.Machine
end

section
/-! PROOF. The invariants of the flash, its arbiter and the set loader. -/

namespace Sys2Proof.Machine

/-! ### What a move does to the store and the loader -/

/-- A staged table becomes the active one. -/
def Loader.Swapped (l m : Loader) : Prop :=
  ∃ s, l.state = .staged s ∧ m = { l with state := .idle, active := l.standby, standby := .empty }

theorem Part.tryStart_loader (p : Part) : p.tryStart.loader = p.loader ∨ p.loader.Swapped p.tryStart.loader := by
  unfold Part.tryStart
  split
  · rw [Part.compose_loader]
    unfold Part.swapTables
    split
    case h_1 s h => exact .inr ⟨s, h, rfl⟩
    case h_2 => exact .inl rfl
  · exact .inl rfl

theorem Part.Move.vault_cases {k : MoveKind} {p q : Part} (m : p.Move k q) :
    (q.store = p.store ∧ (q.loader = p.loader ∨ p.loader.Swapped q.loader)) ∨ p.VaultMove q.store q.loader := by
  cases m
  case vault m => exact .inr m
  case closeGather n stale _ => exact .inl ⟨Part.tryStart_store _, (p.setSlot (.ready n stale)).tryStart_loader⟩
  case start => exact .inl ⟨Part.tryStart_store _, p.tryStart_loader⟩
  case frame => exact .inl ⟨p.startFrame_store, .inl p.startFrame_loader⟩
  case scrap => exact .inl ⟨p.abandon_store, .inl p.abandon_loader⟩
  all_goals exact .inl ⟨rfl, .inl rfl⟩

/-- The step in hand withdrawn if it is pending, and with it the store from the arbiter's line. -/
theorem Store.withdrawStep_cases (t : Store) :
    (t.withdrawStep = t ∧ ∀ k, t.step ≠ some { kind := k, phase := .pending })
      ∨ ((∃ k, t.step = some { kind := k, phase := .pending })
        ∧ t.withdrawStep = { t with step := none, line := t.line.filter (· != .store) }) := by
  unfold Store.withdrawStep
  split
  case h_1 k h => exact .inr ⟨⟨k, h⟩, rfl⟩
  case h_2 h => exact .inl ⟨rfl, fun k e => h k e⟩

/-- Whatever the loader holds is dropped: a place in the line, the flash, or a table. -/
theorem Part.dropLoad_cases (p : Part) :
    ((∃ s, p.loader.state = .waitingStore s)
        ∧ p.dropLoad.store = { p.store with line := p.store.line.filter (· != .loader) })
      ∨ ((∃ s start marks, p.loader.state = .loading s start marks) ∧ p.dropLoad.store = p.store.releaseLoader)
      ∨ ((∀ s, p.loader.state ≠ .waitingStore s) ∧ (∀ s start marks, p.loader.state ≠ .loading s start marks)
        ∧ p.dropLoad.store = p.store) := by
  unfold Part.dropLoad
  cases p.loader.state with
  | waitingStore s => exact .inl ⟨⟨s, rfl⟩, rfl⟩
  | loading s start marks => exact .inr (.inl ⟨⟨s, start, marks, rfl⟩, rfl⟩)
  | idle => exact .inr (.inr ⟨nofun, nofun, rfl⟩)
  | staged s => exact .inr (.inr ⟨nofun, nofun, rfl⟩)

theorem Store.flashFree_iff (t : Store) : t.flashFree = true ↔ t.holder = .nobody ∧ t.line = [] := by
  simp [Store.flashFree]

theorem Part.askLoad_cases (p : Part) (s : Fin 8) :
    (p.store.holder = .nobody ∧ p.store.line = [] ∧ p.askLoad s = p.beginLoad s)
      ∨ ((p.askLoad s).store = { p.store with line := p.store.line ++ [.loader] }
        ∧ (p.askLoad s).loader = { p.loader with state := .waitingStore s }) := by
  unfold Part.askLoad
  split
  case isTrue free =>
    obtain ⟨holder, line⟩ := p.store.flashFree_iff.1 free
    exact .inl ⟨holder, line, rfl⟩
  case isFalse => exact .inr ⟨rfl, rfl⟩

theorem Part.issueStep_cases (p : Part) (k : StepKind) :
    (p.issueStep k).store = p.store
      ∨ (p.store.holder = .nobody ∧ p.store.line = []
        ∧ (p.issueStep k).store
          = { p.store with holder := .store, step := some { kind := k, phase := .running (p.now + k.ticks) } })
      ∨ (p.issueStep k).store
          = { p.store with line := p.store.line ++ [.store], step := some { kind := k, phase := .pending } } := by
  unfold Part.issueStep
  split
  · split
    case isTrue free =>
      obtain ⟨holder, line⟩ := p.store.flashFree_iff.1 free
      exact .inr (.inl ⟨holder, line, rfl⟩)
    case isFalse => exact .inr (.inr rfl)
  · exact .inl rfl

theorem Store.releaseLoader_cases (t : Store) :
    (t.holder = .loader ∧ t.releaseLoader = { t with holder := .nobody }) ∨ (t.holder ≠ .loader ∧ t.releaseLoader = t) := by
  unfold Store.releaseLoader
  split
  case isTrue h => exact .inl ⟨h, rfl⟩
  case isFalse h => exact .inr ⟨h, rfl⟩

/-! ### The flash -/

/-- The flash once a step of this kind has ended (R123). -/
def StepKind.flashAfter (t : Store) : StepKind → Memory
  | .erase q => eraseSector t.flash q
  | .openMark s => programRow t.flash s 0 plainMarkRow
  | .recordRow s r => programRow t.flash s r (paddedRow (t.staging.take 256))
  | .completeMark s sum => programRow t.flash s 1 (completeMarkRow sum)
  | .lockMark s => programRow t.flash s 2 plainMarkRow
  | .retireMark s => programRow t.flash s 3 plainMarkRow

/-- What every end of a store step does: the flash, the step and the arbiter; the session stays on its set. -/
structure Part.StepDone (p q : Part) (k : StepKind) : Prop where
  running : ∃ due, p.store.step = some { kind := k, phase := .running due }
  flash : q.store.flash = k.flashAfter p.store
  step : q.store.step = none
  holder : q.store.holder = .nobody
  line : q.store.line = p.store.line
  session : ∀ x, q.store.session = some x → ∃ y, p.store.session = some y ∧ x.set = y.set
  loader : q.loader = p.loader

theorem Part.StepEnd.done {p q : Part} (e : p.StepEnd q) : ∃ k, p.StepDone q k := by
  cases e with
  | erase sector due t h =>
    have fields : ∀ r : Store, (if sector.val % 6 = 0 then r.onEntry (setOfSector sector) (fun _ => .blank) else r).flash
        = r.flash ∧ (if sector.val % 6 = 0 then r.onEntry (setOfSector sector) (fun _ => .blank) else r).step = r.step
        ∧ (if sector.val % 6 = 0 then r.onEntry (setOfSector sector) (fun _ => .blank) else r).holder = r.holder
        ∧ (if sector.val % 6 = 0 then r.onEntry (setOfSector sector) (fun _ => .blank) else r).line = r.line
        ∧ (if sector.val % 6 = 0 then r.onEntry (setOfSector sector) (fun _ => .blank) else r).session = r.session := by
      intro r
      split <;> exact ⟨rfl, rfl, rfl, rfl, rfl⟩
    obtain ⟨flash, step, holder, line, session⟩ := fields (p.store.endStep (eraseSector p.store.flash sector))
    exact ⟨.erase sector, ⟨due, h⟩, flash, step, holder, line, fun x hx => ⟨x, session ▸ hx, rfl⟩, rfl⟩
  | openMark s due t f hf h =>
    refine ⟨.openMark s, ⟨due, h⟩, by simp only [StepKind.flashAfter, Store.onEntry, Store.endStep],
      by simp only [Store.onEntry, Store.endStep], by simp only [Store.onEntry, Store.endStep],
      by simp only [Store.onEntry, Store.endStep], fun x hx => ?_, rfl⟩
    obtain ⟨y, hy, rfl⟩ := Option.map_eq_some_iff.1 hx
    refine ⟨y, hy, ?_⟩
    obtain e | e := hf y <;> rw [e]
  | recordRow s r due t h =>
    refine ⟨.recordRow s r, ⟨due, h⟩, rfl, rfl, rfl, rfl, fun x hx => ?_, rfl⟩
    obtain ⟨y, hy, rfl⟩ := Option.map_eq_some_iff.1 hx
    exact ⟨y, hy, rfl⟩
  | completeMark s sum due t h =>
    exact ⟨.completeMark s sum, ⟨due, h⟩, by simp only [StepKind.flashAfter, Store.onEntry, Store.endStep],
      by simp only [Store.onEntry, Store.endStep], by simp only [Store.onEntry, Store.endStep],
      by simp only [Store.onEntry, Store.endStep],
      fun x hx => ⟨x, by simpa only [Store.onEntry, Store.endStep] using hx, rfl⟩, rfl⟩
  | lockMark s due t h =>
    exact ⟨.lockMark s, ⟨due, h⟩, by simp only [StepKind.flashAfter, Store.onEntry, Store.endStep],
      by simp only [Store.onEntry, Store.endStep], by simp only [Store.onEntry, Store.endStep],
      by simp only [Store.onEntry, Store.endStep],
      fun x hx => ⟨x, by simpa only [Store.onEntry, Store.endStep] using hx, rfl⟩, rfl⟩
  | retireMark s due t h =>
    exact ⟨.retireMark s, ⟨due, h⟩, by simp only [StepKind.flashAfter, Store.onEntry, Store.endStep],
      by simp only [Store.onEntry, Store.endStep], by simp only [Store.onEntry, Store.endStep],
      by simp only [Store.onEntry, Store.endStep],
      fun x hx => ⟨x, by simpa only [Store.onEntry, Store.endStep] using hx, rfl⟩, rfl⟩

theorem Part.VaultMove.flash {p : Part} {t : Store} {l : Loader} (m : p.VaultMove t l) : t.flash = p.store.flash := by
  have released : ∀ r : Store, r.releaseLoader.flash = r.flash := fun r => by
    obtain ⟨_, e⟩ | ⟨_, e⟩ := r.releaseLoader_cases <;> rw [e]
  have withdrawn : ∀ r : Store, r.withdrawStep.flash = r.flash := fun r => by
    obtain ⟨e, _⟩ | ⟨_, e⟩ := r.withdrawStep_cases <;> rw [e]
  cases m
  case drop =>
    obtain ⟨_, e⟩ | ⟨_, e⟩ | ⟨_, _, e⟩ := p.dropLoad_cases <;> rw [e]
    exact released _
  case ask s _ _ =>
    obtain ⟨_, _, e⟩ | ⟨e, _⟩ := p.askLoad_cases s <;> rw [e]
    rfl
  case fail => exact released _
  case staged => exact released _
  case issue k _ _ => obtain e | ⟨_, _, e⟩ | e := p.issueStep_cases k <;> rw [e]
  case withdraw => exact withdrawn _
  case abort => exact withdrawn _
  all_goals rfl

theorem Part.Move.flash {k : MoveKind} {p q : Part} (m : p.Move k q) : q.store.flash = p.store.flash :=
  m.vault_cases.elim (fun ⟨e, _⟩ => by rw [e]) fun m => m.flash

theorem Part.Acts.flash {p q : Part} (h : p.Acts q) : q.store.flash = p.store.flash :=
  h.keep (I := fun r => r.store.flash = p.store.flash) (Part.Act.keeps fun _ _ _ m e => m.flash.trans e) rfl

theorem Part.Turns.flash {p q : Part} (h : p.Turns q) : q.store.flash = p.store.flash :=
  h.keep (I := fun r => r.store.flash = p.store.flash) (Part.Act.keeps fun _ _ _ m e => m.flash.trans e)
    (fun _ _ _ e => e) rfl

theorem programRow_wf {flash : Memory} (h : Memory.wf 0xFF flash) (s : Fin 8) (r : Nat) (bytes : List Byte) :
    Memory.wf 0xFF (programRow flash s r bytes) := Memory.writeAll_wf _ _ _ _ h

theorem StepKind.flashAfter_wf {t : Store} (h : Memory.wf 0xFF t.flash) (k : StepKind) : Memory.wf 0xFF (k.flashAfter t) := by
  cases k
  case erase => exact Memory.clear_wf _ _ _ _ h
  all_goals exact programRow_wf h _ _ _

theorem cutErasedRow_wf {flash : Memory} (h : Memory.wf 0xFF flash) (n base : Nat) :
    Memory.wf 0xFF (cutErasedRow n flash base) := by
  unfold cutErasedRow
  split
  · exact h
  · exact Memory.writeAll_wf _ _ _ _ h

theorem foldl_cutErasedRow_wf (n : Nat) (base : Nat → Nat) (rows : List Nat) {flash : Memory} (h : Memory.wf 0xFF flash) :
    Memory.wf 0xFF (rows.foldl (fun m r => cutErasedRow n m (base r)) flash) := by
  induction rows generalizing flash with
  | nil => exact h
  | cons r rows ih => exact ih (cutErasedRow_wf h n (base r))

theorem cutStep_wf {flash : Memory} (h : Memory.wf 0xFF flash) (n : Nat) (k : StepKind) :
    Memory.wf 0xFF (cutStep n flash k) := by
  cases k
  case erase q => exact foldl_cutErasedRow_wf n _ _ h
  all_goals exact programRow_wf h _ _ _

theorem Part.flashAfterCut_wf {p : Part} (h : Memory.wf 0xFF p.store.flash) : Memory.wf 0xFF p.flashAfterCut := by
  unfold Part.flashAfterCut
  split
  · exact cutStep_wf h _ _
  · exact h

/-- Settles O10: the flash changes only by writes and clears of whole rows and sectors, which keep its form. -/
theorem stepKeepsFlashForm : Obligations.StepKeepsFlashForm := by
  unfold Obligations.StepKeepsFlashForm
  intro s t hs h
  refine step_keeps (I := fun p => Memory.wf 0xFF p.store.flash) h
    (Part.Act.keeps fun _ p q m hp => by rw [m.flash]; exact hp) (fun _ _ _ => id) (fun p q e hp => ?_) (fun p q r hp => ?_) hs
  · obtain ⟨k, done⟩ := e.done
    rw [done.flash]
    exact StepKind.flashAfter_wf hp k
  · cases r
    case soft => exact hp
    case begin => exact Part.flashAfterCut_wf hp
    case finish => exact hp

/-! ### The arbiter and the loader -/

theorem Store.stepRunning_iff (t : Store) :
    t.stepRunning = true ↔ ∃ k due, t.step = some { kind := k, phase := .running due } := by
  unfold Store.stepRunning
  split
  case h_1 k due h => exact iff_of_true rfl ⟨k, due, h⟩
  case h_2 h => exact iff_of_false nofun fun ⟨k, due, e⟩ => h k due e

/-- The arbiter in terms of what its two users do: the loader loads or waits, the store's step runs or is pending. -/
structure FlashOrder (holder : FlashHolder) (line : List FlashUser) (loads waits runs pends : Prop) : Prop where
  loader : holder = .loader ↔ loads
  store : holder = .store ↔ runs
  loaderWaits : FlashUser.loader ∈ line ↔ waits
  storeWaits : FlashUser.store ∈ line ↔ pends
  once : line.Nodup

/-- The loader reads a set. -/
def LoaderState.Loads (l : LoaderState) : Prop := ∃ s start marks, l = .loading s start marks

/-- The loader waits for the flash. -/
def LoaderState.Waits (l : LoaderState) : Prop := ∃ s, l = .waitingStore s

/-- A step is running. -/
def StepRuns (x : Option StoreStep) : Prop := ∃ k due, x = some { kind := k, phase := .running due }

/-- A step is pending. -/
def StepPends (x : Option StoreStep) : Prop := ∃ k, x = some { kind := k, phase := .pending }

theorem Part.arbiterOk_iff (p : Part) : p.ArbiterOk ↔
    FlashOrder p.store.holder p.store.line p.loader.state.Loads p.loader.state.Waits (StepRuns p.store.step)
      (StepPends p.store.step) := by
  unfold Part.ArbiterOk
  rw [Store.stepRunning_iff]
  exact ⟨fun ⟨a, b, c, d, e⟩ => ⟨a, b, c, d, e⟩, fun ⟨a, b, c, d, e⟩ => ⟨a, b, c, d, e⟩⟩

section
variable {holder : FlashHolder} {line : List FlashUser} {loads waits runs pends : Prop}

/-- Users that do as before stand in the same order. -/
theorem FlashOrder.of_iff (h : FlashOrder holder line loads waits runs pends) {loads' waits' runs' pends' : Prop}
    (hl : loads' ↔ loads) (hw : waits' ↔ waits) (hr : runs' ↔ runs) (hp : pends' ↔ pends) :
    FlashOrder holder line loads' waits' runs' pends' :=
  ⟨h.loader.trans hl.symm, h.store.trans hr.symm, h.loaderWaits.trans hw.symm, h.storeWaits.trans hp.symm, h.once⟩

/-- A user leaves the line. -/
theorem FlashOrder.loaderLeaves (h : FlashOrder holder line loads waits runs pends) :
    FlashOrder holder (line.filter (· != .loader)) loads False runs pends := by
  refine ⟨h.loader, h.store, by simp, ?_, h.once.filter _⟩
  rw [← h.storeWaits]
  simp

theorem FlashOrder.storeLeaves (h : FlashOrder holder line loads waits runs pends) :
    FlashOrder holder (line.filter (· != .store)) loads waits runs False := by
  refine ⟨h.loader, h.store, ?_, by simp, h.once.filter _⟩
  rw [← h.loaderWaits]
  simp

/-- Whoever holds the flash releases it. -/
theorem FlashOrder.released (h : FlashOrder holder line loads waits runs pends) :
    FlashOrder .nobody line False waits False pends :=
  ⟨iff_of_false nofun id, iff_of_false nofun id, h.loaderWaits, h.storeWaits, h.once⟩

/-- A user joins the line. -/
theorem FlashOrder.loaderJoins (h : FlashOrder holder line loads waits runs pends) (hw : ¬ waits) :
    FlashOrder holder (line ++ [.loader]) loads True runs pends := by
  refine ⟨h.loader, h.store, by simp, ?_, ?_⟩
  · rw [← h.storeWaits]
    simp
  · rw [List.nodup_append]
    refine ⟨h.once, List.pairwise_singleton _ _, fun a ha b hb e => ?_⟩
    rw [e, List.mem_singleton.1 hb] at ha
    exact hw (h.loaderWaits.1 ha)

theorem FlashOrder.storeJoins (h : FlashOrder holder line loads waits runs pends) (hp : ¬ pends) :
    FlashOrder holder (line ++ [.store]) loads waits runs True := by
  refine ⟨h.loader, h.store, ?_, by simp, ?_⟩
  · rw [← h.loaderWaits]
    simp
  · rw [List.nodup_append]
    refine ⟨h.once, List.pairwise_singleton _ _, fun a ha b hb e => ?_⟩
    rw [e, List.mem_singleton.1 hb] at ha
    exact hp (h.storeWaits.1 ha)

/-- A user takes the free flash. -/
theorem FlashOrder.loaderTakes (h : FlashOrder .nobody line loads waits runs pends) :
    FlashOrder .loader line True waits False pends :=
  ⟨iff_of_true rfl trivial, iff_of_false nofun id, h.loaderWaits, h.storeWaits, h.once⟩

theorem FlashOrder.storeTakes (h : FlashOrder .nobody line loads waits runs pends) :
    FlashOrder .store line False waits True pends :=
  ⟨iff_of_false nofun id, iff_of_true rfl trivial, h.loaderWaits, h.storeWaits, h.once⟩

/-- The user at the head of the line leaves it. -/
theorem FlashOrder.loaderHead {rest : List FlashUser} (h : FlashOrder holder (.loader :: rest) loads waits runs pends) :
    FlashOrder holder rest loads False runs pends := by
  obtain ⟨fresh, once⟩ := List.nodup_cons.1 h.once
  refine ⟨h.loader, h.store, iff_of_false fresh id, ?_, once⟩
  rw [← h.storeWaits]
  simp

theorem FlashOrder.storeHead {rest : List FlashUser} (h : FlashOrder holder (.store :: rest) loads waits runs pends) :
    FlashOrder holder rest loads waits runs False := by
  obtain ⟨fresh, once⟩ := List.nodup_cons.1 h.once
  refine ⟨h.loader, h.store, ?_, iff_of_false fresh id, once⟩
  rw [← h.loaderWaits]
  simp

/-- While one user is on the flash the other is not. -/
theorem FlashOrder.apart (h : FlashOrder holder line loads waits runs pends) (hl : loads) : ¬ runs := fun hr => by
  have e := h.loader.2 hl
  rw [h.store.2 hr] at e
  cases e

theorem FlashOrder.idle_of_nobody (h : FlashOrder .nobody line loads waits runs pends) : ¬ loads ∧ ¬ runs :=
  ⟨fun hl => (nomatch h.loader.2 hl), fun hr => (nomatch h.store.2 hr)⟩

end

theorem not_stepRuns_none : ¬ StepRuns none := fun ⟨_, _, e⟩ => nomatch e
theorem not_stepPends_none : ¬ StepPends none := fun ⟨_, e⟩ => nomatch e
theorem LoaderState.not_loads_idle : ¬ LoaderState.idle.Loads := fun ⟨_, _, _, e⟩ => nomatch e
theorem LoaderState.not_waits_idle : ¬ LoaderState.idle.Waits := fun ⟨_, e⟩ => nomatch e
theorem LoaderState.not_loads_staged (s : Fin 8) : ¬ (LoaderState.staged s).Loads := fun ⟨_, _, _, e⟩ => nomatch e
theorem LoaderState.not_waits_staged (s : Fin 8) : ¬ (LoaderState.staged s).Waits := fun ⟨_, e⟩ => nomatch e
theorem LoaderState.not_loads_waiting (s : Fin 8) : ¬ (LoaderState.waitingStore s).Loads := fun ⟨_, _, _, e⟩ => nomatch e
theorem LoaderState.waits_waiting (s : Fin 8) : (LoaderState.waitingStore s).Waits := ⟨s, rfl⟩
theorem LoaderState.loads_loading (s : Fin 8) (start : Nat) (marks : Bool) : (LoaderState.loading s start marks).Loads :=
  ⟨s, start, marks, rfl⟩
theorem LoaderState.not_waits_loading (s : Fin 8) (start : Nat) (marks : Bool) :
    ¬ (LoaderState.loading s start marks).Waits := fun ⟨_, e⟩ => nomatch e
theorem stepRuns_running (k : StepKind) (due : Nat) : StepRuns (some { kind := k, phase := .running due }) := ⟨k, due, rfl⟩
theorem not_stepPends_running (k : StepKind) (due : Nat) : ¬ StepPends (some { kind := k, phase := .running due }) :=
  fun ⟨_, e⟩ => nomatch e
theorem stepPends_pending (k : StepKind) : StepPends (some { kind := k, phase := .pending }) := ⟨k, rfl⟩
theorem not_stepRuns_pending (k : StepKind) : ¬ StepRuns (some { kind := k, phase := .pending }) :=
  fun ⟨_, _, e⟩ => nomatch e

/-- The arbiter in order, for a store and a loader. -/
def Order (t : Store) (l : Loader) : Prop :=
  FlashOrder t.holder t.line l.state.Loads l.state.Waits (StepRuns t.step) (StepPends t.step)

theorem Store.withdrawStep_order {t : Store} {l : Loader} (h : Order t l) :
    FlashOrder t.withdrawStep.holder t.withdrawStep.line l.state.Loads l.state.Waits (StepRuns t.withdrawStep.step)
      (StepPends t.withdrawStep.step) := by
  obtain ⟨e, _⟩ | ⟨⟨k, hk⟩, e⟩ := t.withdrawStep_cases
  · rw [e]
    exact h
  · rw [e]
    exact h.storeLeaves.of_iff Iff.rfl Iff.rfl (iff_of_false not_stepRuns_none (by rw [hk]; exact not_stepRuns_pending k))
      (iff_of_false not_stepPends_none id)

theorem Part.VaultMove.order {p : Part} {t : Store} {l : Loader} (m : p.VaultMove t l) (h : Order p.store p.loader) :
    Order t l := by
  unfold Order at h ⊢
  cases m
  case calWe => exact h
  case damaged => exact h
  case drop =>
    have idle : ∀ {x : Prop}, ¬ x → (p.dropLoad.loader.state.Loads ↔ x) := fun hx => iff_of_false LoaderState.not_loads_idle hx
    have still : ∀ {x : Prop}, ¬ x → (p.dropLoad.loader.state.Waits ↔ x) := fun hx => iff_of_false LoaderState.not_waits_idle hx
    obtain ⟨⟨s, hs⟩, e⟩ | ⟨⟨s, start, marks, hs⟩, e⟩ | ⟨hw, hl, e⟩ := p.dropLoad_cases <;> rw [e]
    · exact h.loaderLeaves.of_iff (idle (by rw [hs]; exact LoaderState.not_loads_waiting s)) (still id) Iff.rfl Iff.rfl
    · have loads : p.loader.state.Loads := ⟨s, start, marks, hs⟩
      obtain ⟨_, e⟩ | ⟨no, _⟩ := p.store.releaseLoader_cases
      · rw [e]
        exact h.released.of_iff (idle id) (still (by rw [hs]; exact LoaderState.not_waits_loading s start marks))
          (iff_of_false (h.apart loads) id) Iff.rfl
      · exact absurd (h.loader.2 loads) no
    · exact h.of_iff (idle fun ⟨s, start, marks, e⟩ => hl s start marks e) (still fun ⟨s, e⟩ => hw s e) Iff.rfl Iff.rfl
  case ask s idle _ =>
    rw [idle] at h
    obtain ⟨holder, line, e⟩ | ⟨e, e'⟩ := p.askLoad_cases s
    · rw [e]
      rw [holder] at h
      exact h.loaderTakes.of_iff (iff_of_true (LoaderState.loads_loading _ _ _) trivial)
        (iff_of_false (LoaderState.not_waits_loading _ _ _) LoaderState.not_waits_idle)
        (iff_of_false h.idle_of_nobody.2 id) Iff.rfl
    · rw [e, e']
      exact (h.loaderJoins LoaderState.not_waits_idle).of_iff
        (iff_of_false (LoaderState.not_loads_waiting s) LoaderState.not_loads_idle)
        (iff_of_true (LoaderState.waits_waiting s) trivial) Iff.rfl Iff.rfl
  case loadStart s rest hs hh hl =>
    rw [hh, hl] at h
    exact h.loaderHead.loaderTakes.of_iff (iff_of_true (LoaderState.loads_loading _ _ _) trivial)
      (iff_of_false (LoaderState.not_waits_loading _ _ _) id) (iff_of_false h.idle_of_nobody.2 id) Iff.rfl
  case marksRead s start hs =>
    rw [hs] at h
    exact h.of_iff (iff_of_true (LoaderState.loads_loading _ _ _) (LoaderState.loads_loading _ _ _))
      (iff_of_false (LoaderState.not_waits_loading _ _ _) (LoaderState.not_waits_loading _ _ _)) Iff.rfl Iff.rfl
  case fail s start marks hs =>
    rw [hs] at h
    have loads := LoaderState.loads_loading s start marks
    obtain ⟨_, e⟩ | ⟨no, _⟩ := p.store.releaseLoader_cases
    · rw [e]
      exact h.released.of_iff (iff_of_false LoaderState.not_loads_idle id)
        (iff_of_false LoaderState.not_waits_idle (LoaderState.not_waits_loading _ _ _)) (iff_of_false (h.apart loads) id)
        Iff.rfl
    · exact absurd (h.loader.2 loads) no
  case staged s start marks records hs =>
    rw [hs] at h
    have loads := LoaderState.loads_loading s start marks
    obtain ⟨_, e⟩ | ⟨no, _⟩ := p.store.releaseLoader_cases
    · rw [e]
      exact h.released.of_iff (iff_of_false (LoaderState.not_loads_staged s) id)
        (iff_of_false (LoaderState.not_waits_staged s) (LoaderState.not_waits_loading _ _ _))
        (iff_of_false (h.apart loads) id) Iff.rfl
    · exact absurd (h.loader.2 loads) no
  case scanEnd due d hh =>
    rw [hh] at h
    exact h.released.of_iff (iff_of_false (fun hl => nomatch h.loader.2 hl) id) Iff.rfl
      (iff_of_false (fun hr => nomatch h.store.2 hr) id) Iff.rfl
  case issue k free _ =>
    rw [free] at h
    obtain e | ⟨holder, line, e⟩ | e := p.issueStep_cases k
    · rw [e, free]
      exact h
    · rw [e]
      rw [holder] at h
      exact h.storeTakes.of_iff (iff_of_false h.idle_of_nobody.1 id) Iff.rfl (iff_of_true (stepRuns_running _ _) trivial)
        (iff_of_false (not_stepPends_running _ _) not_stepPends_none)
    · rw [e]
      exact (h.storeJoins not_stepPends_none).of_iff Iff.rfl Iff.rfl
        (iff_of_false (not_stepRuns_pending k) not_stepRuns_none) (iff_of_true (stepPends_pending k) trivial)
  case stepStart k rest hs hh hl =>
    rw [hh, hl] at h
    exact h.storeHead.storeTakes.of_iff (iff_of_false h.idle_of_nobody.1 id) Iff.rfl
      (iff_of_true (stepRuns_running _ _) trivial) (iff_of_false (not_stepPends_running _ _) id)
  case withdraw => exact Store.withdrawStep_order h
  case openSession => exact h
  case stage => exact h
  case closing => exact h
  case nextSector => exact h
  case endSession => exact h
  case trailing => exact h
  case abort => exact Store.withdrawStep_order h

/-- The standby table is what the loader state says, for a loader. -/
theorem Part.VaultMove.standbyOk {p : Part} {t : Store} {l : Loader} (m : p.VaultMove t l) (h : p.loader.StandbyOk) :
    l.StandbyOk := by
  cases m
  case drop => exact rfl
  case ask s idle _ =>
    obtain ⟨_, _, e⟩ | ⟨_, e⟩ := p.askLoad_cases s
    · rw [e]
      exact rfl
    · rw [e]
      unfold Loader.StandbyOk at h
      rw [idle] at h
      exact h
  case loadStart => exact rfl
  case marksRead s start hs =>
    unfold Loader.StandbyOk at h
    rw [hs] at h
    exact h
  case fail => exact rfl
  case staged => exact rfl
  all_goals exact h

theorem Loader.inUse_eq_false (l : Loader) (s : Fin 8) :
    l.inUse s = false ↔ l.activeSet ≠ some s ∧ l.state.set? ≠ some s := by
  simp [Loader.inUse]

/-- No set under a write session is in use, for a store and a loader. -/
def Apart (t : Store) (l : Loader) : Prop := ∀ x, t.session = some x → l.inUse x.set = false

/-- A loader that uses no set that it did not, and a session on the set that it was on. -/
theorem Apart.of_le {t u : Store} {l m : Loader} (h : Apart t l)
    (session : ∀ x, u.session = some x → ∃ y, t.session = some y ∧ x.set = y.set)
    (active : m.activeSet = l.activeSet) (state : ∀ s, m.state.set? = some s → l.state.set? = some s) : Apart u m := by
  intro x hx
  obtain ⟨y, hy, e⟩ := session x hx
  obtain ⟨ha, hs⟩ := (l.inUse_eq_false _).1 (h y hy)
  rw [e, Loader.inUse_eq_false, active]
  exact ⟨ha, fun g => hs (state _ g)⟩

theorem Store.sessionOn_eq_false {t : Store} {s : Fin 8} (h : t.sessionOn s = false) {x : Session}
    (hx : t.session = some x) : x.set ≠ s := by
  unfold Store.sessionOn at h
  rw [hx] at h
  simpa using h

/-- What only the arbiter's part of the store changes leaves the session. -/
theorem Part.dropLoad_session (p : Part) : p.dropLoad.store.session = p.store.session := by
  obtain ⟨_, e⟩ | ⟨_, e⟩ | ⟨_, _, e⟩ := p.dropLoad_cases <;> rw [e]
  obtain ⟨_, e⟩ | ⟨_, e⟩ := p.store.releaseLoader_cases <;> rw [e]

theorem Store.releaseLoader_session (t : Store) : t.releaseLoader.session = t.session := by
  obtain ⟨_, e⟩ | ⟨_, e⟩ := t.releaseLoader_cases <;> rw [e]

theorem Store.withdrawStep_session (t : Store) : t.withdrawStep.session = t.session := by
  obtain ⟨e, _⟩ | ⟨_, e⟩ := t.withdrawStep_cases <;> rw [e]

theorem Part.issueStep_session (p : Part) (k : StepKind) : (p.issueStep k).store.session = p.store.session := by
  obtain e | ⟨_, _, e⟩ | e := p.issueStep_cases k <;> rw [e]

theorem Part.VaultMove.apart {p : Part} {t : Store} {l : Loader} (m : p.VaultMove t l) (h : Apart p.store p.loader) :
    Apart t l := by
  have kept : ∀ {u : Store}, u.session = p.store.session → ∀ x, u.session = some x →
      ∃ y, p.store.session = some y ∧ x.set = y.set := fun e x hx => ⟨x, e ▸ hx, rfl⟩
  have same : ∀ {x y : Session}, p.store.session = some y → x.set = y.set → ∀ z, some x = some z →
      ∃ w, p.store.session = some w ∧ z.set = w.set := by
    rintro x y hy e z ⟨⟩
    exact ⟨y, hy, e⟩
  cases m
  case calWe => exact h
  case damaged => exact h
  case drop => exact h.of_le (kept p.dropLoad_session) rfl nofun
  case ask s idle apart =>
    have used : (p.askLoad s).loader.activeSet = p.loader.activeSet ∧ (p.askLoad s).loader.state.set? = some s
        ∧ (p.askLoad s).store.session = p.store.session := by
      obtain ⟨_, _, e⟩ | ⟨e, e'⟩ := p.askLoad_cases s
      · rw [e]
        exact ⟨rfl, rfl, rfl⟩
      · rw [e, e']
        exact ⟨rfl, rfl, rfl⟩
    obtain ⟨active, state, session⟩ := used
    intro x hx
    rw [session] at hx
    rw [Loader.inUse_eq_false, active, state]
    refine ⟨((p.loader.inUse_eq_false _).1 (h x hx)).1, fun e => Store.sessionOn_eq_false apart hx ?_⟩
    exact (Option.some.inj e).symm
  case loadStart s rest hs _ _ => exact h.of_le (kept rfl) rfl fun r hr => by rw [hs]; exact hr
  case marksRead s start hs => exact h.of_le (kept rfl) rfl fun r hr => by rw [hs]; exact hr
  case fail => exact h.of_le (kept (Store.releaseLoader_session _)) rfl nofun
  case staged s start marks records hs =>
    exact h.of_le (kept (Store.releaseLoader_session _)) rfl fun r hr => by rw [hs]; exact hr
  case scanEnd => exact h
  case issue k _ _ => exact h.of_le (kept (p.issueStep_session k)) rfl fun _ => id
  case stepStart => exact h
  case withdraw => exact h.of_le (kept (Store.withdrawStep_session _)) rfl fun _ => id
  case openSession s v _ _ _ _ hu =>
    rintro x ⟨⟩
    exact hu
  case stage x bytes n sum hx _ _ _ _ => exact h.of_le (same hx rfl) rfl fun _ => id
  case closing x hx _ => exact h.of_le (same hx rfl) rfl fun _ => id
  case nextSector x hx _ => exact h.of_le (same hx rfl) rfl fun _ => id
  case endSession => exact nofun
  case trailing => exact h
  case abort => exact nofun

/-- The store and the loader in accord. -/
def Accord (t : Store) (l : Loader) : Prop := Order t l ∧ l.StandbyOk ∧ Apart t l

theorem Accord.swapped {t : Store} {l m : Loader} (h : Accord t l) (hs : l.Swapped m) : Accord t m := by
  obtain ⟨order, standby, apart⟩ := h
  obtain ⟨s, hs, rfl⟩ := hs
  unfold Order at order
  unfold Loader.StandbyOk at standby
  rw [hs] at order standby
  refine ⟨order.of_iff (iff_of_false LoaderState.not_loads_idle (LoaderState.not_loads_staged s))
    (iff_of_false LoaderState.not_waits_idle (LoaderState.not_waits_staged s)) Iff.rfl Iff.rfl, rfl, fun x hx => ?_⟩
  obtain ⟨_, hstate⟩ := (l.inUse_eq_false _).1 (apart x hx)
  rw [hs] at hstate
  rw [Loader.inUse_eq_false]
  refine ⟨?_, nofun⟩
  show l.standby.set? ≠ some x.set
  rw [standby]
  exact hstate

theorem Part.Move.accord {k : MoveKind} {p q : Part} (m : p.Move k q) (h : Accord p.store p.loader) :
    Accord q.store q.loader := by
  obtain ⟨store, loader | swapped⟩ | m := m.vault_cases
  · rw [store, loader]
    exact h
  · rw [store]
    exact h.swapped swapped
  · exact ⟨m.order h.1, m.standbyOk h.2.1, m.apart h.2.2⟩

theorem Part.StepDone.accord {p q : Part} {k : StepKind} (d : p.StepDone q k) (h : Accord p.store p.loader) :
    Accord q.store q.loader := by
  obtain ⟨order, standby, apart⟩ := h
  obtain ⟨due, running⟩ := d.running
  unfold Order at order
  rw [running] at order
  have runs := stepRuns_running k due
  refine ⟨?_, d.loader ▸ standby, apart.of_le d.session (by rw [d.loader]) fun _ => by rw [d.loader]; exact id⟩
  unfold Order
  rw [d.holder, d.line, d.step, d.loader]
  exact order.released.of_iff (iff_of_false (fun hl => order.apart hl runs) id) Iff.rfl (iff_of_false not_stepRuns_none id)
    (iff_of_false not_stepPends_none (not_stepPends_running k due))

/-- A store without step, session or line, and an idle loader, are in accord. -/
theorem Accord.atReset {t : Store} {l : Loader} (holder : t.holder = .nobody ∨ ∃ due, t.holder = .scan due)
    (line : t.line = []) (step : t.step = none) (session : t.session = none) (loader : l = .atReset) : Accord t l := by
  subst loader
  refine ⟨?_, rfl, fun x hx => nomatch session.symm.trans hx⟩
  unfold Order
  rw [line, step]
  have free : t.holder ≠ .loader ∧ t.holder ≠ .store := by
    obtain e | ⟨due, e⟩ := holder <;> rw [e] <;> exact ⟨nofun, nofun⟩
  exact ⟨iff_of_false free.1 LoaderState.not_loads_idle, iff_of_false free.2 not_stepRuns_none,
    iff_of_false nofun LoaderState.not_waits_idle, iff_of_false nofun not_stepPends_none, List.nodup_nil⟩

/-- Settles O11: the flash, the line, the loader and the step change hands together, and a session and the loader never
take up the same set. -/
theorem stepKeepsArbiter : Obligations.StepKeepsArbiter := by
  unfold Obligations.StepKeepsArbiter
  intro s t arbiter standby apart h
  have accord : Accord t.store t.loader := by
    refine step_keeps (I := fun p => Accord p.store p.loader) h (Part.Act.keeps fun _ _ _ => Part.Move.accord)
      (fun _ _ _ => id) (fun p q e hp => ?_) (fun p q r _ => ?_) ⟨s.arbiterOk_iff.1 arbiter, standby, apart⟩
    · obtain ⟨k, done⟩ := e.done
      exact done.accord hp
    · cases r
      case soft => exact .atReset (.inr ⟨_, rfl⟩) rfl rfl rfl rfl
      case begin => exact .atReset (.inl rfl) rfl rfl rfl rfl
      case finish => exact .atReset (.inr ⟨_, rfl⟩) rfl rfl rfl rfl
  exact ⟨t.arbiterOk_iff.2 accord.1, accord.2.1, accord.2.2⟩

end Sys2Proof.Machine
end

section
/-! PROOF. No step changes a byte of a locked set: the store works on unlocked sets only, and every change of the flash
lies in the set of the step that makes it. -/

namespace Sys2Proof.Machine

/-! ### The store spares locked sets, and its session is sound -/

/-- The store spares locked sets, and its session is sound. -/
structure Store.Spared (t : Store) : Prop where
  session : ∀ x, t.session = some x → t.directory[x.set].locked = false
  step : ∀ x, t.step = some x → t.directory[x.kind.set].locked = false
  scan : t.scanning = true → t.session = none ∧ t.step = none
  lock : ∀ s phase, t.step = some { kind := .lockMark s, phase := phase } → t.session = none
  room : t.staging.length ≤ 512
  sound : ∀ x, t.session = some x → x.Ok t.staging.length
  row : ∀ s r phase, t.step = some { kind := .recordRow s r, phase := phase } → 4 ≤ r ∧ r ≤ 91
    ∧ ∀ x, t.session = some x →
      x.set = s ∧ x.nextRow = r ∧ t.staging ≠ [] ∧ (x.phase = .receiving → 256 ≤ t.staging.length)
  mark : ∀ s phase, t.step = some { kind := .openMark s, phase := phase } → ∀ x, t.session = some x → x.phase = .erasing

theorem Store.spared_iff (t : Store) : t.Spared ↔ t.SparesLocked ∧ t.SessionOk :=
  ⟨fun ⟨a, b, c, d, e, f, g, h⟩ => ⟨⟨a, b, c, d⟩, e, f, g, h⟩, fun ⟨⟨a, b, c, d⟩, e, f, g, h⟩ => ⟨a, b, c, d, e, f, g, h⟩⟩

theorem Store.locked_congr {t : Store} {a b : Fin 8} (e : a = b) (h : t.directory[b].locked = false) :
    t.directory[a].locked = false := e ▸ h

theorem setOfSector_sectorOf (s : Fin 8) {e : Nat} (he : e ≤ 5) : setOfSector (sectorOf s e) = s := by
  ext
  simp only [setOfSector, sectorOf]
  omega

section
variable {t u : Store}

/-- A store whose directory, session and staged bytes are as before, with the same step or none. -/
theorem Store.Spared.of_eq (h : t.Spared) (directory : u.directory = t.directory) (session : u.session = t.session)
    (staging : u.staging = t.staging) (step : u.step = t.step ∨ u.step = none) (scan : u.scanning = true → t.scanning = true) :
    u.Spared := by
  have kept : ∀ {x}, u.step = some x → t.step = some x := fun hx =>
    step.elim (fun e => e ▸ hx) fun e => by rw [e] at hx; cases hx
  refine ⟨?_, ?_, ?_, ?_, ?_, ?_, ?_, ?_⟩
  · rw [directory, session]; exact h.session
  · rw [directory]; exact fun x hx => h.step x (kept hx)
  · rw [session]
    intro hs
    obtain ⟨none, none'⟩ := h.scan (scan hs)
    exact ⟨none, step.elim (fun e => e.trans none') id⟩
  · rw [session]; exact fun s phase hx => h.lock s phase (kept hx)
  · rw [staging]; exact h.room
  · rw [session, staging]; exact h.sound
  · rw [session, staging]; exact fun s r phase hx => h.row s r phase (kept hx)
  · rw [session]; exact fun s phase hx => h.mark s phase (kept hx)

/-- A store that has issued a step its session calls for. -/
theorem Store.Spared.issued (h : t.Spared) {k : StepKind} (phase : StepPhase) (may : t.MayIssue k)
    (directory : u.directory = t.directory) (session : u.session = t.session) (staging : u.staging = t.staging)
    (step : u.step = some { kind := k, phase := phase }) (scan : u.scanning = true → t.scanning = true) : u.Spared := by
  have quiet : t.scanning = false := by
    cases may with
    | lockMark _ _ _ hn => exact hn
    | retireMark _ _ hn => exact hn
    | erase x _ hx _ | openMark x hx _ | recordRow x hx _ _ _ | completeMark x hx =>
      refine Bool.eq_false_iff.2 fun hs => ?_
      rw [(h.scan hs).1] at hx
      cases hx
  refine ⟨?_, ?_, fun hs => ?_, ?_, ?_, ?_, ?_, ?_⟩
  · rw [directory, session]; exact h.session
  · rw [directory, step]
    rintro x ⟨⟩
    cases may with
    | erase x e hx he =>
      exact Store.locked_congr (setOfSector_sectorOf x.set he) (h.session x hx)
    | openMark x hx _ => exact h.session x hx
    | recordRow x hx _ _ _ => exact h.session x hx
    | completeMark x hx => exact h.session x hx
    | lockMark _ hl _ _ => exact hl
    | retireMark _ hl _ => exact hl
  · rw [scan hs] at quiet
    cases quiet
  · rw [session, step]
    rintro s phase ⟨⟩
    cases may with
    | lockMark _ _ hs _ => exact hs
  · rw [staging]; exact h.room
  · rw [session, staging]; exact h.sound
  · rw [session, staging, step]
    rintro s r phase ⟨⟩
    cases may with
    | recordRow x hx hs hp full =>
      obtain ⟨low, range, _, _, count⟩ := h.sound x hx
      have count := count (.inr fun e => hs (List.length_eq_zero_iff.1 e))
      have some := List.length_pos_iff.2 hs
      refine ⟨low, by omega, fun y hy => ?_⟩
      obtain rfl : x = y := Option.some.inj (hx.symm.trans hy)
      exact ⟨rfl, rfl, hs, full⟩
  · rw [session, step]
    rintro s phase ⟨⟩
    cases may with
    | openMark x hx hp =>
      intro y hy
      obtain rfl : x = y := Option.some.inj (hx.symm.trans hy)
      exact hp

/-- A store with its session as given, on the set that it was on, and the step in hand fitting. -/
theorem Store.Spared.sessionMoves (h : t.Spared) {x : Session} (hx : t.session = some x) (y : Session) (staging : List Byte)
    (set : y.set = x.set) (row : y.nextRow = x.nextRow) (room : staging.length ≤ 512) (sound : y.Ok staging.length)
    (grows : t.staging.length ≤ staging.length) (receives : y.phase = .receiving → x.phase = .receiving)
    (erases : x.phase = .erasing → y.phase = .erasing) :
    Store.Spared { t with session := some y, staging := staging } := by
  refine ⟨?_, h.step, fun hs => ?_, fun s phase hstep => ?_, room, ?_, fun s r phase hstep => ?_, fun s phase hstep => ?_⟩
  · rintro z ⟨⟩
    exact Store.locked_congr set (h.session x hx)
  · have none := (h.scan hs).1
    rw [hx] at none
    cases none
  · have none := h.lock s phase hstep
    rw [hx] at none
    cases none
  · rintro z ⟨⟩
    exact sound
  · obtain ⟨low, high, fits⟩ := h.row s r phase hstep
    refine ⟨low, high, ?_⟩
    rintro z ⟨⟩
    obtain ⟨hset, hrow, some, full⟩ := fits x hx
    have some := List.length_pos_iff.2 some
    exact ⟨set.trans hset, row.trans hrow, List.length_pos_iff.1 (by show 0 < staging.length; omega),
      fun hp => Nat.le_trans (full (receives hp)) grows⟩
  · rintro z ⟨⟩
    exact erases (h.mark s phase hstep x hx)

/-- A store whose session is closed, with no more bytes staged. -/
theorem Store.Spared.sessionEnds (h : t.Spared) (staging : List Byte) (short : staging.length ≤ t.staging.length)
    (trailing : Option Abort) : Store.Spared { t with session := none, staging := staging, trailing := trailing } :=
  ⟨nofun, h.step, fun hs => ⟨rfl, (h.scan hs).2⟩, fun _ _ _ => rfl, Nat.le_trans short h.room, nofun,
    fun s r phase hstep => ⟨(h.row s r phase hstep).1, (h.row s r phase hstep).2.1, nofun⟩, fun _ _ _ => nofun⟩

theorem Store.Spared.withdrawn (h : t.Spared) : t.withdrawStep.Spared := by
  obtain ⟨e, _⟩ | ⟨_, e⟩ := t.withdrawStep_cases <;> rw [e]
  · exact h
  · exact h.of_eq rfl rfl rfl (.inr rfl) id

theorem Store.Spared.released (h : t.Spared) : t.releaseLoader.Spared := by
  obtain ⟨_, e⟩ | ⟨_, e⟩ := t.releaseLoader_cases <;> rw [e]
  · exact h.of_eq rfl rfl rfl (.inl rfl) nofun
  · exact h

end

theorem Session.start_ok (s : Fin 8) : (Session.start s).Ok 0 :=
  ⟨Nat.le_refl _, Nat.zero_le _, Nat.zero_le _, fun _ => ⟨rfl, rfl, rfl⟩, fun _ => rfl⟩

theorem Part.VaultMove.spared {p : Part} {t : Store} {l : Loader} (m : p.VaultMove t l) (h : p.store.Spared) : t.Spared := by
  cases m
  case calWe => exact h.of_eq rfl rfl rfl (.inl rfl) id
  case damaged => exact h
  case drop =>
    obtain ⟨_, e⟩ | ⟨_, e⟩ | ⟨_, _, e⟩ := p.dropLoad_cases <;> rw [e]
    · exact h.of_eq rfl rfl rfl (.inl rfl) id
    · exact h.released
    · exact h
  case ask s _ _ =>
    obtain ⟨_, _, e⟩ | ⟨e, _⟩ := p.askLoad_cases s <;> rw [e]
    · exact h.of_eq rfl rfl rfl (.inl rfl) nofun
    · exact h.of_eq rfl rfl rfl (.inl rfl) id
  case loadStart => exact h.of_eq rfl rfl rfl (.inl rfl) nofun
  case marksRead => exact h
  case fail => exact h.released
  case staged => exact h.released
  case scanEnd due d hh =>
    obtain ⟨session, step⟩ := h.scan (by unfold Store.scanning; rw [hh])
    exact ⟨fun x hx => (nomatch session.symm.trans hx), fun x hx => (nomatch step.symm.trans hx), fun _ => ⟨session, step⟩,
      fun _ _ _ => session, h.room, h.sound, h.row, h.mark⟩
  case issue k free may =>
    obtain e | ⟨_, _, e⟩ | e := p.issueStep_cases k <;> rw [e]
    · exact h
    · exact h.issued _ may rfl rfl rfl rfl nofun
    · exact h.issued _ may rfl rfl rfl rfl id
  case stepStart k rest hs hh hl =>
    refine ⟨h.session, ?_, nofun, ?_, h.room, h.sound, ?_, ?_⟩
    · rintro x ⟨⟩
      exact h.step { kind := k, phase := .pending } hs
    · rintro s phase ⟨⟩
      exact h.lock s _ hs
    · rintro s r phase ⟨⟩
      exact h.row s r _ hs
    · rintro s phase ⟨⟩
      exact h.mark s _ hs
  case withdraw => exact h.withdrawn
  case openSession s v hs ht hn hd hu =>
    refine ⟨?_, h.step, fun e => ?_, fun _ _ e => (nomatch ht.symm.trans e), Nat.zero_le _, ?_,
      fun _ _ _ e => (nomatch ht.symm.trans e), fun _ _ e => (nomatch ht.symm.trans e)⟩
    · rintro x ⟨⟩
      exact hd
    · exact absurd (hn.symm.trans e) (by decide)
    · rintro x ⟨⟩
      exact Session.start_ok s
  case stage x bytes n sum hx hp hb hi room =>
    obtain ⟨low, _, erase, _, count⟩ := h.sound x hx
    have count := count (.inl hp)
    have length : (p.store.staging ++ bytes).length = p.store.staging.length + 40 * n := by rw [List.length_append, hb]
    refine h.sessionMoves hx { x with nextIndex := x.nextIndex + n, sum := sum } (p.store.staging ++ bytes) rfl rfl
      (by omega) ⟨low, hi, erase, fun e => absurd (hp.symm.trans e) (by decide), fun _ => ?_⟩ (by omega) id id
    show 256 * (x.nextRow - 4) + (p.store.staging ++ bytes).length = 40 * (x.nextIndex + n)
    omega
  case closing x hx hp =>
    obtain ⟨low, index, erase, _, count⟩ := h.sound x hx
    exact h.sessionMoves hx { x with phase := .closing } p.store.staging rfl rfl h.room
      ⟨low, index, erase, nofun, fun _ => count (.inl hp)⟩ (Nat.le_refl _) nofun fun e => absurd (hp.symm.trans e) (by decide)
  case nextSector x hx he =>
    obtain ⟨low, index, _, erasing, count⟩ := h.sound x hx
    exact h.sessionMoves hx { x with eraseSector := x.eraseSector + 1 } p.store.staging rfl rfl h.room
      ⟨low, index, he, erasing, count⟩ (Nat.le_refl _) id id
  case endSession => exact h.sessionEnds p.store.staging (Nat.le_refl _) p.store.trailing
  case trailing => exact h.of_eq rfl rfl rfl (.inl rfl) id
  case abort bytes a short =>
    refine h.withdrawn.sessionEnds bytes ?_ a
    obtain ⟨e, _⟩ | ⟨_, e⟩ := p.store.withdrawStep_cases <;> rw [e] <;> exact short

theorem Part.Move.spared {k : MoveKind} {p q : Part} (m : p.Move k q) (h : p.store.Spared) : q.store.Spared :=
  m.vault_cases.elim (fun ⟨e, _⟩ => e ▸ h) fun m => m.spared h

/-- After a step the session's sets and the other directory entries are unlocked as before. -/
theorem Store.Spared.ended {u : Store} (step : u.step = none) (holder : u.holder = .nobody)
    (room : u.staging.length ≤ 512)
    (session : ∀ x, u.session = some x → u.directory[x.set].locked = false ∧ x.Ok u.staging.length) : u.Spared := by
  refine ⟨fun x hx => (session x hx).1, fun x hx => ?_, fun hs => ?_, fun _ _ hx => ?_, room, fun x hx => (session x hx).2,
    fun _ _ _ hx => ?_, fun _ _ hx => ?_⟩
  case refine_2 =>
    unfold Store.scanning at hs
    rw [holder] at hs
    cases hs
  all_goals
    rw [step] at hx
    cases hx

/-- A directory entry changed. -/
theorem Store.onEntry_get (t : Store) (s k : Fin 8) (f : SetEntry → SetEntry) :
    (t.onEntry s f).directory[k] = if s = k then f t.directory[k] else t.directory[k] := update_get _ _ _ _

/-- A change of a directory entry that does not set its lock mark locks no set. -/
theorem Store.onEntry_unlocked {t : Store} {s k : Fin 8} {f : SetEntry → SetEntry} (h : t.directory[k].locked = false)
    (hf : ∀ e : SetEntry, e.locked = false → (f e).locked = false) : (t.onEntry s f).directory[k].locked = false := by
  rw [Store.onEntry_get]
  split
  · exact hf _ h
  · exact h

/-- A mark program or an erase ends: the entry of its set changes, and no lock is made. -/
theorem Store.Spared.entryEnds {t : Store} (h : t.Spared) (flash : Memory) (s : Fin 8) {f : SetEntry → SetEntry}
    (hf : ∀ e : SetEntry, e.locked = false → (f e).locked = false) : ((t.endStep flash).onEntry s f).Spared :=
  Store.Spared.ended rfl rfl h.room fun x hx => ⟨Store.onEntry_unlocked (h.session x hx) hf, h.sound x hx⟩

/-- The open mark is made: a session in ERASING may become RECEIVING. -/
theorem Store.Spared.openMarkEnds {t : Store} (h : t.Spared) (flash : Memory) {s : Fin 8} {phase : StepPhase}
    (hs : t.step = some { kind := .openMark s, phase := phase }) {f : Session → Session}
    (hf : ∀ x, f x = x ∨ f x = { x with phase := .receiving }) :
    Store.Spared { (t.endStep flash).onEntry s (fun e => { e with openMark := .set }) with session := t.session.map f } := by
  refine Store.Spared.ended rfl rfl h.room fun y hy => ?_
  obtain ⟨x, hx, rfl⟩ := Option.map_eq_some_iff.1 hy
  have unlocked : ((t.endStep flash).onEntry s (fun e => { e with openMark := .set })).directory[x.set].locked = false :=
    Store.onEntry_unlocked (h.session x hx) fun _ => id
  have sound := h.sound x hx
  obtain e | e := hf x <;> rw [e]
  · exact ⟨unlocked, sound⟩
  · refine ⟨unlocked, ?_⟩
    obtain ⟨low, index, erase, erasing, _⟩ := sound
    obtain ⟨none, first, unstaged⟩ := erasing (h.mark s phase hs x hx)
    refine ⟨low, index, erase, nofun, fun _ => ?_⟩
    show 256 * (x.nextRow - 4) + t.staging.length = 40 * x.nextIndex
    omega

/-- A record row is in flash: its bytes leave the staging buffer, and the session goes on to the next row. -/
theorem Store.Spared.rowEnds {t : Store} (h : t.Spared) (flash : Memory) {s : Fin 8} {r : Nat} {phase : StepPhase}
    (hs : t.step = some { kind := .recordRow s r, phase := phase }) :
    Store.Spared { t.endStep flash with
      staging := t.staging.drop 256
      session := t.session.map fun (x : Session) => { x with nextRow := x.nextRow + 1 } } := by
  have length : (t.staging.drop 256).length = t.staging.length - 256 := List.length_drop
  refine Store.Spared.ended rfl rfl (Nat.le_trans (Nat.le_of_eq length) (Nat.le_trans (Nat.sub_le _ _) h.room)) fun y hy => ?_
  obtain ⟨x, hx, rfl⟩ := Option.map_eq_some_iff.1 hy
  obtain ⟨_, _, fits⟩ := h.row s r phase hs
  obtain ⟨_, _, some, full⟩ := fits x hx
  have some := List.length_pos_iff.2 some
  obtain ⟨low, index, erase, erasing, count⟩ := h.sound x hx
  refine ⟨h.session x hx, Nat.le_trans low (Nat.le_succ _), index, erase, fun e => ?_, fun e => ?_⟩
  · have unstaged := (erasing e).2.2
    omega
  · have all := count (.inr (by omega))
    show 256 * (x.nextRow + 1 - 4) + (t.staging.drop 256).length = 40 * x.nextIndex
    have filled : 256 ≤ t.staging.length := by
      obtain e | e := e
      · exact full e
      · change (t.staging.drop 256).length ≠ 0 at e
        omega
    omega

theorem Part.StepEnd.spared {p q : Part} (e : p.StepEnd q) (h : p.store.Spared) : q.store.Spared := by
  cases e with
  | erase sector due t hs =>
    simp only
    split
    · exact h.entryEnds _ _ fun _ _ => rfl
    · exact Store.Spared.ended rfl rfl h.room fun x hx => ⟨h.session x hx, h.sound x hx⟩
  | openMark s due t f hf hs => exact h.openMarkEnds _ hs hf
  | recordRow s r due t hs => exact h.rowEnds _ hs
  | completeMark s sum due t hs => exact h.entryEnds _ _ fun _ => id
  | lockMark s due t hs =>
    have none := h.lock s _ hs
    generalize programRow p.store.flash s 2 plainMarkRow = flash
    exact Store.Spared.ended rfl rfl h.room fun x hx => nomatch none.symm.trans hx
  | retireMark s due t hs => exact h.entryEnds _ _ fun _ => id

/-! ### Where a step changes the flash -/

/-- The bytes of a set, as the store places its sets (R120). -/
def Flash.Agrees (k : Fin 8) (m n : Memory) : Prop :=
  ∀ a, 24576 * k.val ≤ a → a < 24576 * (k.val + 1) → Memory.read 0xFF m a = Memory.read 0xFF n a

/-- A row of another set is none of this set's bytes. -/
theorem writeRow_agrees {k s : Fin 8} (hks : k ≠ s) {r : Nat} (hr : r ≤ 91) (m : Memory) {bytes : List Byte}
    (length : bytes.length = 256) : Flash.Agrees k (programRow m s r bytes) m := by
  intro a low high
  refine Memory.read_writeAll_other _ _ _ _ _ ?_
  rw [length]
  simp only [rowBase, setBase]
  have := Fin.val_ne_of_ne hks
  omega

/-- A sector of another set is none of this set's bytes. -/
theorem sector_apart {k : Fin 8} {q : Fin 48} (h : k ≠ setOfSector q) {a : Nat} (low : 24576 * k.val ≤ a)
    (high : a < 24576 * (k.val + 1)) : a < 4096 * q.val ∨ 4096 * q.val + 4096 ≤ a := by
  have := Fin.val_ne_of_ne h
  simp only [setOfSector] at this
  omega

theorem eraseSector_agrees {k : Fin 8} {q : Fin 48} (h : k ≠ setOfSector q) (m : Memory) :
    Flash.Agrees k (eraseSector m q) m := by
  intro a low high
  rw [eraseSector, Memory.read_clear, if_neg]
  have := sector_apart h low high
  omega

theorem length_paddedRow {bytes : List Byte} (h : bytes.length ≤ 256) : (paddedRow bytes).length = 256 := by
  rw [paddedRow, List.length_append, List.length_replicate]
  omega

theorem length_anyRow (n base : Nat) : (anyRow n base).length = 256 := by
  rw [anyRow, List.length_map, List.length_range]

/-- The rows that a step may program. -/
def StepKind.InRange : StepKind → Prop
  | .recordRow _ r => r ≤ 91
  | _ => True

theorem StepKind.flashAfter_agrees {k : Fin 8} {c : StepKind} (h : k ≠ c.set) (range : c.InRange) (t : Store) :
    Flash.Agrees k (c.flashAfter t) t.flash := by
  cases c with
  | erase q => exact eraseSector_agrees h _
  | recordRow s r => exact writeRow_agrees h range _ (length_paddedRow (List.length_take_le _ _))
  | openMark s => exact writeRow_agrees h (by decide) _ length_plainMarkRow
  | completeMark s sum => exact writeRow_agrees h (by decide) _ (length_completeMarkRow sum)
  | lockMark s => exact writeRow_agrees h (by decide) _ length_plainMarkRow
  | retireMark s => exact writeRow_agrees h (by decide) _ length_plainMarkRow

theorem cutErase_agrees {k : Fin 8} {q : Fin 48} (h : k ≠ setOfSector q) (n : Nat) (m : Memory) :
    Flash.Agrees k (cutErase n m q) m := by
  intro a low high
  have apart := sector_apart h low high
  have rows : ∀ (rows : List Nat) (m : Memory), (∀ r ∈ rows, r < 16) →
      Memory.read 0xFF (rows.foldl (fun m r => cutErasedRow n m (4096 * q.val + 256 * r)) m) a = Memory.read 0xFF m a := by
    intro rows
    induction rows with
    | nil => exact fun _ _ => rfl
    | cons r rows ih =>
      intro m hr
      rw [List.foldl_cons, ih _ fun x hx => hr x (List.mem_cons_of_mem _ hx)]
      unfold cutErasedRow
      split
      · rfl
      · have := hr r List.mem_cons_self
        exact Memory.read_writeAll_other _ _ _ _ _ (by rw [length_anyRow]; omega)
  exact rows _ m fun r hr => List.mem_range.1 hr

theorem cutStep_agrees {k : Fin 8} {c : StepKind} (h : k ≠ c.set) (range : c.InRange) (n : Nat) (m : Memory) :
    Flash.Agrees k (cutStep n m c) m := by
  cases c with
  | erase q => exact cutErase_agrees h n m
  | recordRow s r => exact writeRow_agrees h range _ (length_anyRow _ _)
  | openMark s => exact writeRow_agrees h (by decide) _ (length_anyRow _ _)
  | completeMark s sum => exact writeRow_agrees h (by decide) _ (length_anyRow _ _)
  | lockMark s => exact writeRow_agrees h (by decide) _ (length_anyRow _ _)
  | retireMark s => exact writeRow_agrees h (by decide) _ (length_anyRow _ _)

/-- The step in hand is one of an unlocked set, and programs none but the set's rows. -/
theorem Store.Spared.stepApart {t : Store} (h : t.Spared) {c : StepKind} {phase : StepPhase}
    (hs : t.step = some { kind := c, phase := phase }) {k : Fin 8} (locked : t.directory[k].locked = true) :
    k ≠ c.set ∧ c.InRange := by
  constructor
  · rintro rfl
    exact absurd ((h.step _ hs).symm.trans locked) (by decide)
  · cases c
    case recordRow s r => exact (h.row s r phase hs).2.1
    all_goals trivial

theorem Part.flashAfterCut_agrees {p : Part} (h : p.store.Spared) {k : Fin 8} (locked : p.store.directory[k].locked = true) :
    Flash.Agrees k p.flashAfterCut p.store.flash := by
  unfold Part.flashAfterCut
  split
  case h_1 c due hs =>
    obtain ⟨apart, range⟩ := h.stepApart hs locked
    exact cutStep_agrees apart range _ _
  case h_2 => exact fun _ _ _ => rfl

/-- A store without session, step and staged bytes is spared. -/
theorem Store.Spared.atReset {t : Store} (session : t.session = none) (step : t.step = none) (staging : t.staging = []) :
    t.Spared :=
  ⟨fun _ hx => (nomatch session.symm.trans hx), fun _ hx => (nomatch step.symm.trans hx), fun _ => ⟨session, step⟩,
    fun _ _ _ => session, by rw [staging]; exact Nat.zero_le _, fun _ hx => (nomatch session.symm.trans hx),
    fun _ _ _ hx => (nomatch step.symm.trans hx), fun _ _ hx => (nomatch step.symm.trans hx)⟩

theorem step_keeps_spared {s t : State} (h : step s = .next t) (hs : s.store.Spared) : t.store.Spared := by
  refine step_keeps (I := fun p => p.store.Spared) h (Part.Act.keeps fun _ _ _ => Part.Move.spared) (fun _ _ _ => id)
    (fun _ _ => Part.StepEnd.spared) (fun p q r _ => ?_) hs
  cases r <;> exact .atReset rfl rfl rfl

theorem Part.Reset.agrees {p q : Part} (r : p.Reset q) (h : p.store.Spared) {k : Fin 8}
    (locked : p.store.directory[k].locked = true) : Flash.Agrees k q.store.flash p.store.flash := by
  cases r with
  | soft => exact fun _ _ _ => rfl
  | begin cause => exact Part.flashAfterCut_agrees h locked
  | finish => exact fun _ _ _ => rfl

theorem step_spares_bytes {s t : State} (h : step s = .next t) (hs : s.store.Spared) {k : Fin 8}
    (locked : s.store.directory[k].locked = true) : Flash.Agrees k t.store.flash s.store.flash := by
  obtain turns | ⟨r, ended, acts⟩ | reset := step_does h
  · rw [turns.flash]
    exact fun _ _ _ => rfl
  · obtain ⟨c, done⟩ := ended.done
    obtain ⟨due, running⟩ := done.running
    obtain ⟨apart, range⟩ := hs.stepApart running locked
    rw [acts.flash, done.flash]
    exact StepKind.flashAfter_agrees apart range _
  · exact reset.agrees hs locked

/-- Settles O12: the flash changes only at the end or the cut of a step, in the set of that step, which is unlocked. -/
theorem stepSparesLockedSets : Obligations.StepSparesLockedSets := by
  unfold Obligations.StepSparesLockedSets
  intro s t _ spares session h
  have spared := s.store.spared_iff.2 ⟨spares, session⟩
  exact ⟨fun k locked => step_spares_bytes h spared locked, t.store.spared_iff.1 (step_keeps_spared h spared)⟩

end Sys2Proof.Machine
end

section
/-! PROOF. Requests to the pace timer, the engine and the balancer (R41 to R52, R83, R98), RESET (R140, R190), and the
arrival of a request (R164, R183). -/

namespace Sys2Proof.Machine

/-! ### The arrival of a request (R164, R183) -/

theorem State.awake_same (s : State) (kind : Byte) (h : s.power.state ≠ .parked ∨ s.power.linkWake = false) :
    s.awake kind = s := by
  have off : ¬ (s.power.state = .parked ∧ s.power.linkWake = true) := fun ⟨parked, on⟩ =>
    h.elim (· parked) fun e => by simp [e] at on
  simp only [State.awake, Part.wakeByRequest, if_neg off]

/-- Settles O17: every request without arguments is an answer, and an answer that finds the queue full is discarded. -/
theorem requestArrival : Obligations.RequestArrival := by
  unfold Obligations.RequestArrival
  refine ⟨fun c kind hc s tag hs hq => ?_, fun s kind => ⟨State.awake_same s kind, fun parked on => ?_⟩⟩
  · simp only [List.mem_cons, Prod.mk.injEq, List.not_mem_nil, or_false] at hc
    obtain ⟨rfl, rfl⟩ | ⟨rfl, rfl⟩ | ⟨rfl, rfl⟩ | ⟨rfl, rfl⟩ | ⟨rfl, rfl⟩ | ⟨rfl, rfl⟩ | ⟨rfl, rfl⟩ | ⟨rfl, rfl⟩
      | ⟨rfl, rfl⟩ | ⟨rfl, rfl⟩ | ⟨rfl, rfl⟩ := hc
    all_goals exact State.act_discarded _ tag _ s hs hq
  · simp only [State.awake, Part.wakeByRequest, if_pos (And.intro parked on)]
    rfl

/-! ### RESET (R140, R190) -/

theorem exec_reset (tag : Byte) (s : State) : exec (.reset tag) s = s.act (Part.answer 0x03 tag doReset) := rfl

/-- The part after the first RESET. -/
def Part.resetAsked (p : Part) : Part :=
  { p with link := { p.link with resetWait := .replyWaiting }, store := p.store.withdrawStep }

theorem doReset_first {p : Part} (h : p.link.resetWait = .clear) : doReset p = ([0x00], p.resetAsked) := by
  simp only [doReset, if_pos h]
  rfl

theorem doReset_again {p : Part} (h : p.link.resetWait ≠ .clear) : doReset p = ([0x00], p) := by
  simp only [doReset, if_neg h]
  rfl

theorem Store.withdrawStep_pending {t : Store} {k : StepKind} (h : t.step = some { kind := k, phase := .pending }) :
    t.withdrawStep = { t with step := none, line := t.line.filter (· != FlashUser.store) } := by
  simp only [Store.withdrawStep, h]

theorem Store.withdrawStep_same {t : Store} (h : ∀ k, t.step ≠ some { kind := k, phase := .pending }) :
    t.withdrawStep = t := by
  rcases hx : t.step with _ | ⟨k, _ | due⟩
  · simp only [Store.withdrawStep, hx]
  · exact absurd hx (h k)
  · simp only [Store.withdrawStep, hx]

/-- Settles O20: by whether the reset wait is set, and then by whether the store's step is pending. -/
theorem resetRequest : Obligations.ResetRequest := by
  unfold Obligations.ResetRequest
  refine fun s tag hs => ⟨fun waiting => ?_, fun first quiet => ?_, fun k first pending => ?_⟩
  · exact State.act_refused _ _ _ _ _ _ hs rfl (doReset_again waiting)
  · rw [exec_reset, State.act_effect _ _ _ _ _ _ _ hs rfl (doReset_first first), Part.resetAsked,
      Store.withdrawStep_same quiet]
    rfl
  · rw [exec_reset, State.act_effect _ _ _ _ _ _ _ hs rfl (doReset_first first), Part.resetAsked,
      Store.withdrawStep_pending pending]
    rfl

/-! ### PACE_CONFIGURE (R41, R42, R49) -/

theorem exec_paceConfigure (tag prescaler : Byte) (reload : Half) (mode percent stale : Byte) (s : State) :
    exec (.paceConfigure tag prescaler reload mode percent stale) s
      = s.act (Part.answer 0x18 tag (doPaceConfigure prescaler reload mode percent stale)) := rfl

@[simp] theorem mode?_code (m : PaceMode) : mode? m.code = some m := by cases m <;> rfl

theorem byte_toNat (b : Byte) : byte b.toNat = b := by simp [byte]

/-- The floor of R42 for the two prescalers. -/
theorem floorReload_eq {prescaler : Byte} (h : prescaler = 16 ∨ prescaler = 64) (reload : Nat) :
    floorReload prescaler.toNat reload
      = if prescaler.toNat * (reload + 1) < 675000 then (if prescaler = 16 then 42187 else 10546) else reload := by
  obtain rfl | rfl := h <;> rfl

theorem doPaceConfigure_accepted {prescaler : Byte} (h : prescaler = 16 ∨ prescaler = 64) (reload : Half) (m : PaceMode)
    (percent stale : Byte) (p : Part) :
    let c := paceInRange prescaler.toNat reload.toNat m percent.toNat stale.toNat
    doPaceConfigure prescaler reload m.code percent stale p
      = ((if c.reload = reload.toNat ∧ c.percent = percent.toNat ∧ c.stale = stale.toNat then 0x00 else 0x01) ::
          prescaler :: (le16 c.reload ++ [m.code, byte c.percent, byte c.stale, p.pace.runState.code]),
        { p with pace := p.pace.configure c }) := by
  have named : ¬ (prescaler ≠ 16 ∧ prescaler ≠ 64) := fun ⟨a, b⟩ => h.elim a b
  simp only [doPaceConfigure, mode?_code, if_neg named, stAccepted_three, paceInRange, byte_toNat]
  rfl

theorem doPaceConfigure_badPrescaler {prescaler : Byte} (h16 : prescaler ≠ 16) (h64 : prescaler ≠ 64) (reload : Half)
    (mode percent stale : Byte) (p : Part) : doPaceConfigure prescaler reload mode percent stale p = ([0x04], p) := by
  simp only [doPaceConfigure, if_pos (And.intro h16 h64)]
  split <;> rfl

/-- Settles O25: the accepted settings are those of `paceInRange`, whose floor is spelled out. -/
theorem paceConfigure : Obligations.PaceConfigure := by
  unfold Obligations.PaceConfigure
  refine fun s tag prescaler reload mode percent stale m hs => ⟨fun named hm => ?_, fun h16 h64 => ?_⟩
  · subst hm
    have settings := floorReload_eq named (max 1 reload.toNat)
    rw [exec_paceConfigure, State.act_effect _ _ _ _ _ _ _ hs rfl (doPaceConfigure_accepted named reload m percent stale _)]
    simp only [paceInRange, settings]
    rfl
  · exact State.act_refused _ _ _ _ _ _ hs rfl (doPaceConfigure_badPrescaler h16 h64 ..)

/-! ### A run state, a boundary, and the start of the pace (R44, R48, R50) -/

theorem Part.syncTimer_spec (p : Part) (q : Port) : ∃ t, p.syncTimer q = { q with timer := t } := by
  simp only [Part.syncTimer]
  repeat' split
  · exact ⟨_, rfl⟩
  · exact ⟨_, rfl⟩
  · exact ⟨_, rfl⟩
  · exact ⟨_, rfl⟩

/-- A change of run state touches no more of a port than its timer. -/
theorem Part.setRunState_port (r : RunState) (p : Part) (i : Fin 4) :
    ∃ t, (p.setRunState r).ports[i] = { p.ports[i] with timer := t } := by
  rw [Part.setRunState_ports, Part.syncWatchdogs_ports, mapAll_get]
  exact Part.syncTimer_spec _ _

/-- A boundary touches no more of a port than its frame buffers. -/
theorem Part.boundary_port (p : Part) (i : Fin 4) :
    ∃ b r, p.boundary.ports[i] = { p.ports[i] with buffers := b, ready := r } := by
  simp only [Part.boundary, Part.displayBoundary_ports, Part.gatherBoundary]
  split
  · exact ⟨p.ports[i].buffers, p.ports[i].ready, by simp⟩
  · simp only [Part.setSlot_ports, Part.skipReady_ports]
    obtain ⟨b, r, h⟩ := (p.follow { p with pace := p.pace.boundary p.now }).closeGather_port i
    exact ⟨b, r, h.trans (by simp)⟩

/-- A composition start changes no more of the balancer than the written marks. -/
theorem Part.tryStart_balancer (p : Part) :
    p.tryStart.balancer = { p.balancer with written := p.tryStart.balancer.written } := by
  simp only [Part.tryStart]
  split
  · simp [Part.compose]
  · rfl

theorem Part.closeGather_balancer (p : Part) :
    p.closeGather.balancer = { p.balancer with written := p.closeGather.balancer.written } := by
  simp only [Part.closeGather]
  split
  · exact Part.tryStart_balancer _
  · rfl

/-- A boundary changes no more of the balancer than the written marks. -/
theorem Part.boundary_balancer (p : Part) :
    p.boundary.balancer = { p.balancer with written := p.boundary.balancer.written } := by
  simp only [Part.boundary, Part.displayBoundary_balancer, Part.gatherBoundary]
  split
  · simp
  · simp only [Part.setSlot_balancer, Part.skipReady_balancer]
    exact (Part.closeGather_balancer _).trans (by simp)

/-- The start from STOPPED is a boundary in RUNNING (R50). -/
theorem Part.startPace_stopped {p : Part} (h : p.pace.runState = .stopped) :
    p.startPace = (p.setRunState .running).boundary := by
  simp only [Part.startPace, h]

theorem Part.startPace_stopping {p : Part} (h : p.pace.runState = .stopping) : p.startPace = p.setRunState .running := by
  simp only [Part.startPace, h]

theorem Part.startPace_running {p : Part} (h : p.pace.runState = .running) : p.startPace = p := by
  simp only [Part.startPace, h]

/-! ### PACE_START, PACE_STOP, PACE_PRESET (R50 to R52) -/

theorem exec_paceStart (tag : Byte) (s : State) :
    exec (.paceStart tag) s = s.act (Part.answer 0x19 tag doPaceStart) := rfl

theorem doPaceStart_run {p : Part} (h : p.power.state = .run) :
    doPaceStart p
      = (0x00 :: p.startPace.pace.runState.code :: le16 p.startPace.pace.trigger.toNat, p.startPace) := by
  simp only [doPaceStart, if_pos h]
  rfl

theorem doPaceStart_refused {p : Part} (h : p.power.state ≠ .run) : doPaceStart p = ([0x03], p) := by
  simp only [doPaceStart, if_neg h]
  rfl

theorem doPaceStop_running {p : Part} (h : p.pace.runState = .running) :
    doPaceStop p = ([0x00, 0x02], p.setRunState .stopping) := by
  simp only [doPaceStop, if_pos h, Part.setRunState_pace]
  rfl

theorem doPaceStop_other {p : Part} (h : p.pace.runState ≠ .running) :
    doPaceStop p = ([0x00, p.pace.runState.code], p) := by
  simp only [doPaceStop, if_neg h]
  rfl

theorem doPacePreset_counting {p : Part} (h : p.pace.runState ≠ .stopped) :
    doPacePreset p
      = (0x00 :: byte p.pace.configured.prescaler :: le16 p.pace.configured.reload,
        { p with pace := p.pace.preset p.now }) := by
  simp only [doPacePreset, if_neg h]
  rfl

theorem doPacePreset_stopped {p : Part} (h : p.pace.runState = .stopped) : doPacePreset p = ([0x03], p) := by
  simp only [doPacePreset, if_pos h]
  rfl

/-- Settles O26: each request by the run state it finds. -/
theorem paceRequests : Obligations.PaceRequests := by
  unfold Obligations.PaceRequests
  refine ⟨fun s tag hs => ⟨?stopped, ?stopping, ?running, ?outsideRun⟩, fun s tag hs => ⟨?stops, ?stays⟩,
    fun s tag hs => ⟨?presets, ?refused⟩⟩
  case stopped =>
    intro run stopped
    refine ⟨_, State.act_effect _ _ _ _ _ _ _ hs rfl (doPaceStart_run run), ?_⟩
    simp only [Part.startPace_stopped stopped]
    refine ⟨?_, ?_, ?_, ?_, ?_, ?_, ?_, fun i => ?_⟩
    · simp only [State.replied, Part.boundary_pace, Part.setRunState_pace, Part.setRunState_now]
      rfl
    · exact (Part.boundary_balancer _).trans (by rw [Part.setRunState_balancer]; rfl)
    · simp [State.replied]
    · simp [State.replied]
    · simp [State.replied]
    · simp [State.replied]
    · simp [State.replied]
    · obtain ⟨b, r, hb⟩ := ((s.awake 0x19).toPart.setRunState .running).boundary_port i
      obtain ⟨t, ht⟩ := (s.awake 0x19).toPart.setRunState_port .running i
      simp only [State.replied, hb, ht, and_self]
  case stopping =>
    intro run stopping
    refine ⟨_, State.act_effect _ _ _ _ _ _ _ hs rfl (doPaceStart_run run), ?_⟩
    simp only [Part.startPace_stopping stopping]
    simp [State.replied]
  case running =>
    intro run running
    rw [exec_paceStart, State.act_effect _ _ _ _ _ _ _ hs rfl (doPaceStart_run run), Part.startPace_running running,
      running]
    rfl
  case outsideRun =>
    intro outside
    exact State.act_refused _ _ _ _ _ _ hs rfl (doPaceStart_refused outside)
  case stops =>
    intro running
    refine ⟨_, State.act_effect _ _ _ _ _ _ _ hs rfl (doPaceStop_running running), ?_⟩
    simp [State.replied]
  case stays =>
    intro other
    exact State.act_refused _ _ _ _ _ _ hs rfl (doPaceStop_other other)
  case presets =>
    intro counting
    exact State.act_effect _ _ _ _ _ _ _ hs rfl (doPacePreset_counting counting)
  case refused =>
    intro stopped
    exact State.act_refused _ _ _ _ _ _ hs rfl (doPacePreset_stopped stopped)

/-! ### COMPOSE_CONFIGURE and BALANCE_CONFIGURE (R83, R98) -/

/-- The part with the engine's configured values as COMPOSE_CONFIGURE writes them. -/
def Part.composeSet (hold y cb cr divider : Byte) (p : Part) : Part :=
  { p with engine := { p.engine with
      hold := min 60 hold.toNat, void := { y := y, cb := cb, cr := cr }, divider := divider.toNat } }

theorem doComposeConfigure_accepted {divider : Byte} (h : divider = 1 ∨ divider = 2 ∨ divider = 4)
    (hold y cb cr : Byte) (p : Part) :
    doComposeConfigure hold y cb cr divider p
      = ([if hold.toNat ≤ 60 then 0x00 else 0x01, byte (min 60 hold.toNat), y, cb, cr, divider],
        p.composeSet hold y cb cr divider) := by
  have kept : (min 60 hold.toNat = hold.toNat) = (hold.toNat ≤ 60) :=
    propext ⟨fun h => by omega, fun h => by omega⟩
  simp only [doComposeConfigure, if_pos h, stAccepted_one, kept]
  rfl

theorem doComposeConfigure_badDivider {divider : Byte} (h : ¬ (divider = 1 ∨ divider = 2 ∨ divider = 4))
    (hold y cb cr : Byte) (p : Part) : doComposeConfigure hold y cb cr divider p = ([0x04], p) := by
  simp only [doComposeConfigure, if_neg h]
  rfl

/-- The part with the balancer's enable and step as BALANCE_CONFIGURE writes them. -/
def Part.balanceSet (enable k : Byte) (p : Part) : Part :=
  { p with balancer := { p.balancer with enable := enable == 1, k := clamp 1 16 k.toNat } }

theorem doBalanceConfigure_accepted {enable : Byte} (h : enable.toNat < 2) (k : Byte) (p : Part) :
    doBalanceConfigure enable k p
      = ([if clamp 1 16 k.toNat = k.toNat then 0x00 else 0x01, enable, byte (clamp 1 16 k.toNat)],
        p.balanceSet enable k) := by
  simp only [doBalanceConfigure, bit?_of_lt_two h, bit_beq_one h, stAccepted_one]
  rfl

theorem doBalanceConfigure_badEnable {enable : Byte} (h : 2 ≤ enable.toNat) (k : Byte) (p : Part) :
    doBalanceConfigure enable k p = ([0x04], p) := by
  simp only [doBalanceConfigure, bit?_eq_none h]
  rfl

/-- Settles O27: each request is taken, and answers with what it writes or with its refusal. -/
theorem composeAndBalanceConfigure : Obligations.ComposeAndBalanceConfigure := by
  unfold Obligations.ComposeAndBalanceConfigure
  refine ⟨fun s tag hold y cb cr divider hs => ⟨fun h => ?_, fun h1 h2 h4 => ?_⟩,
    fun s tag enable k hs => ⟨fun h => ?_, fun h => ?_⟩⟩
  · exact State.act_effect _ _ _ _ _ _ _ hs rfl (doComposeConfigure_accepted h ..)
  · have bad : ¬ (divider = 1 ∨ divider = 2 ∨ divider = 4) := fun h => h.elim h1 fun h => h.elim h2 h4
    exact State.act_refused _ _ _ _ _ _ hs rfl (doComposeConfigure_badDivider bad ..)
  · exact State.act_effect _ _ _ _ _ _ _ hs rfl (doBalanceConfigure_accepted h k _)
  · exact State.act_refused _ _ _ _ _ _ hs rfl (doBalanceConfigure_badEnable h k _)

end Sys2Proof.Machine
end

section
/-! PROOF. The link requests EVENT_CONFIGURE and EVENT_CLEAR (R191, R192). -/

namespace Sys2Proof.Machine

/-! ### The kinds that a list names -/

theorem kindsOf_of_map {pairs : List (Byte × Byte)} {ks : List EventKind}
    (h : pairs.map (fun x => kind? x.1) = ks.map some) : kindsOf pairs = some ks := by
  induction pairs generalizing ks with
  | nil =>
    cases ks with
    | nil => rfl
    | cons k ks => cases h
  | cons x xs ih =>
    cases ks with
    | nil => cases h
    | cons k ks =>
      obtain ⟨head, tail⟩ := List.cons.inj h
      simp only [kindsOf, head, ih tail]

theorem kindsOf_some {pairs : List (Byte × Byte)} {ks : List EventKind} (h : kindsOf pairs = some ks) :
    pairs.map (fun x => kind? x.1) = ks.map some := by
  induction pairs generalizing ks with
  | nil =>
    cases h
    rfl
  | cons x xs ih =>
    simp only [kindsOf] at h
    split at h
    · next k ks' hk hks =>
      cases h
      rw [List.map_cons, List.map_cons, hk, ih hks]
    · cases h

/-- A list that is empty, names no kind somewhere or names a kind twice gives no kinds to configure. -/
theorem kindsOf_bad {pairs : List (Byte × Byte)}
    (h : pairs = [] ∨ (∃ x ∈ pairs, kind? x.1 = none) ∨ ¬ (pairs.map fun x => kind? x.1).Nodup) {ks : List EventKind}
    (hk : kindsOf pairs = some ks) : ks = [] ∨ ¬ ks.Nodup := by
  have named := kindsOf_some hk
  rcases h with rfl | ⟨x, hx, none⟩ | twice
  · cases hk
    exact .inl rfl
  · have mem : kind? x.1 ∈ ks.map some := named ▸ List.mem_map_of_mem hx
    simp [none] at mem
  · exact .inr fun nodup => twice (named ▸ List.Pairwise.map some (fun _ _ apart e => apart (Option.some.inj e)) nodup)

/-! ### Priorities set (R191) -/

/-- A priority set changes one field of one kind's record. -/
theorem Link.setPriority_record (l : Link) (k j : EventKind) (n : Nat) :
    (l.setPriority k n).record j
      = if k = j then { l.record j with priority := min 3 n } else l.record j := by
  have places : k.index = j.index ↔ k = j := ⟨EventKind.index_injective k j, fun e => e ▸ rfl⟩
  simp only [Link.record, Link.setPriority, update_get, places]
  rfl

theorem Link.setPriorities_cons (l : Link) (x : Byte × Byte) (xs : List (Byte × Byte)) {k : EventKind}
    (h : kind? x.1 = some k) : l.setPriorities (x :: xs) = (l.setPriority k x.2.toNat).setPriorities xs := by
  simp only [Link.setPriorities, List.foldl_cons, h]

/-- With distinct kinds each named kind takes its priority, and the other records stay. -/
theorem Link.setPriorities_record {pairs : List (Byte × Byte)} {ks : List EventKind}
    (named : pairs.map (fun x => kind? x.1) = ks.map some) (nodup : ks.Nodup) (l : Link) :
    (∀ k v, (EventKind.code k, v) ∈ pairs →
        (l.setPriorities pairs).record k = { l.record k with priority := min 3 v.toNat })
      ∧ ∀ k, k ∉ ks → (l.setPriorities pairs).record k = l.record k := by
  induction pairs generalizing ks l with
  | nil => exact ⟨fun k v h => (List.not_mem_nil h).elim, fun k _ => rfl⟩
  | cons x xs ih =>
    cases ks with
    | nil => cases named
    | cons j js =>
      obtain ⟨head, tail⟩ := List.cons.inj named
      obtain ⟨fresh, nodup⟩ := List.nodup_cons.1 nodup
      rw [l.setPriorities_cons x xs head]
      obtain ⟨set, kept⟩ := ih tail nodup (l.setPriority j x.2.toNat)
      refine ⟨fun k v h => ?_, fun k hk => ?_⟩
      · rcases List.mem_cons.1 h with rfl | h
        · obtain rfl : k = j := Option.some.inj (k.kind_code.symm.trans head)
          rw [kept k fresh, Link.setPriority_record, if_pos rfl]
        · have later : some k ∈ js.map some := tail ▸ List.mem_map.2 ⟨(k.code, v), h, k.kind_code⟩
          have apart : j ≠ k := by
            rintro rfl
            exact fresh (by simpa using later)
          rw [set k v h, Link.setPriority_record, if_neg apart]
      · obtain ⟨hj, hjs⟩ := not_or.1 (mt List.mem_cons.2 hk)
        rw [kept k hjs, Link.setPriority_record, if_neg (Ne.symm hj)]

/-! ### The requests -/

theorem exec_eventConfigure (tag : Byte) (pairs : List (Byte × Byte)) (s : State) :
    exec (.eventConfigure tag pairs) s = s.act (Part.answer 0x04 tag (doEventConfigure pairs)) := rfl

theorem exec_eventClear (tag : Byte) (kinds : BitVec 24) (s : State) :
    exec (.eventClear tag kinds) s = s.act (Part.answer 0x05 tag (doEventClear kinds)) := rfl

/-- An accepted EVENT_CONFIGURE sets the priorities, and a record that may now be sent takes an empty slot. -/
theorem doEventConfigure_accepted {pairs : List (Byte × Byte)} {ks : List EventKind} (h : kindsOf pairs = some ks)
    (some : ks ≠ []) (nodup : ks.Nodup) (p : Part) :
    ∃ body, doEventConfigure pairs p = (body, { p with link := (p.link.setPriorities pairs).fill }) := by
  have good : ¬ (ks = [] ∨ ¬ ks.Nodup) := fun h => h.elim some fun h => h nodup
  exact ⟨_, by simp only [doEventConfigure, h, if_neg good]; rfl⟩

theorem doEventConfigure_refused {pairs : List (Byte × Byte)} (h : ∀ ks, kindsOf pairs = some ks → ks = [] ∨ ¬ ks.Nodup)
    (p : Part) : doEventConfigure pairs p = ([0x04], p) := by
  unfold doEventConfigure
  split
  · rfl
  · next ks hk =>
    rw [if_pos (h ks hk)]
    rfl

theorem doEventClear_accepted {kinds : BitVec 24} (h : kinds.toNat < 2 ^ 18) (p : Part) :
    doEventClear kinds p
      = (0x00 :: (p.link.clearKinds kinds).pendingFlags, { p with link := p.link.clearKinds kinds }) := by
  have known : ¬ 262144 ≤ kinds.toNat := by omega
  simp only [doEventClear, if_neg known]
  rfl

theorem doEventClear_refused {kinds : BitVec 24} (h : 2 ^ 18 ≤ kinds.toNat) (p : Part) :
    doEventClear kinds p = ([0x04], p) := by
  have unknown : 262144 ≤ kinds.toNat := by omega
  simp only [doEventClear, if_pos unknown]
  rfl

/-- Settles O21: by whether the list names kinds, each once, and whether the set names kinds only. -/
theorem eventRequests : Obligations.EventRequests := by
  unfold Obligations.EventRequests
  refine ⟨fun s tag pairs hs => ⟨fun ks named some nodup => ?_, fun bad => ?_⟩,
    fun s tag kinds hs => ⟨fun known => ?_, fun unknown => ?_⟩⟩
  · obtain ⟨body, accepted⟩ := doEventConfigure_accepted (kindsOf_of_map named) some nodup (s.awake 0x04).toPart
    obtain ⟨set, kept⟩ := Link.setPriorities_record named nodup (s.awake 0x04).link
    refine ⟨_, State.act_effect _ _ _ _ _ _ _ hs rfl accepted, rfl, fun k v h => ?_, fun k h => ?_⟩
    · rw [← set k v h]
      simp [State.replied, Link.record]
    · rw [← kept k h]
      simp [State.replied, Link.record]
  · exact State.act_refused _ _ _ _ _ _ hs rfl (doEventConfigure_refused (fun ks hk => kindsOf_bad bad hk) _)
  · refine ⟨_, State.act_effect _ _ _ _ _ _ _ hs rfl (doEventClear_accepted known _), rfl, fun k => ?_⟩
    simp only [State.replied, Link.join_records]
    exact Link.clearKinds_record _ kinds k
  · exact State.act_refused _ _ _ _ _ _ hs rfl (doEventClear_refused unknown _)

end Sys2Proof.Machine
end

section
/-! PROOF. The requests that only read: STATUS (R189), STORE_QUERY, STORE_READ and LINE_READ (R137, R138, R153), with the
lengths of the pieces that their replies are made of. -/

namespace Sys2Proof.Machine

/-! ### Lengths of fields -/

@[simp] theorem length_le16 (n : Nat) : (le16 n).length = 2 := rfl
@[simp] theorem length_le24 (n : Nat) : (le24 n).length = 3 := rfl
@[simp] theorem length_le32 (n : Nat) : (le32 n).length = 4 := rfl

@[simp] theorem length_le16OrNone (o : Option Nat) : (le16OrNone o).length = 2 := by cases o <;> rfl

/-- A table of `n` entries of equal length. -/
theorem length_flatMap_finRange {n m : Nat} (f : Fin n → List Byte) (h : ∀ i, (f i).length = m) :
    ((List.finRange n).flatMap f).length = n * m := by
  rw [List.length_flatMap, List.map_congr_left fun i _ => h i, List.map_const', List.length_finRange, List.sum_replicate_nat]

/-! ### The STATUS reply (R189) -/

theorem length_statusPower (p : Part) : (statusPower p).length = 7 := by simp [statusPower]

theorem length_statusPace (p : Part) : (statusPace p).length = 9 := by simp [statusPace]

theorem length_slotBytes (g : GatherSlot) : (slotBytes g).length = 3 := by cases g <;> rfl

theorem length_statusEngine (p : Part) : (statusEngine p).length = 11 := by
  simp only [statusEngine, List.length_append, length_slotBytes]
  split <;> rfl

theorem length_statusPorts (p : Part) : (statusPorts p).length = 16 :=
  length_flatMap_finRange (m := 4) _ fun _ => rfl

theorem length_zoneBytes (draw : Nat) (z : Fin 4) (r : ZoneReport) : (zoneBytes draw z r).length = 6 := by
  simp only [zoneBytes]
  split <;> rfl

theorem length_statusBalance (p : Part) : (statusBalance p).length = 49 := by
  have zones := length_flatMap_finRange (fun z => zoneBytes p.draws z p.balancer.report.zones[z]) fun _ =>
    length_zoneBytes ..
  have gains := length_flatMap_finRange (fun c : Fin 4 => le16 p.balancer.gains[c]) fun _ => length_le16 _
  have desired := length_flatMap_finRange (fun c : Fin 4 => le16OrNone p.balancer.report.cameras[c].desired) fun _ =>
    length_le16OrNone _
  simp only [statusBalance, List.length_append, zones, gains, desired, List.length_map, List.length_finRange,
    length_le16, List.length_cons, List.length_nil]

theorem length_readingBytes (r : Option Reading) : (readingBytes r).length = 5 := by cases r <;> rfl

theorem length_statusHeight (p : Part) : (statusHeight p).length = 13 := by
  simp [statusHeight, length_readingBytes]

theorem length_statusLoader (p : Part) : (statusLoader p).length = 5 := rfl

theorem length_statusRecord (p : Part) : (statusRecord p).length = 23 := by
  simp only [statusRecord]
  split
  · simp
  · next r _ =>
    have gains := length_flatMap_finRange (fun c : Fin 4 => le16 r.gains[c]) fun _ => length_le16 _
    simp only [List.length_cons, List.length_append, gains, length_le16, List.length_nil]

theorem length_statusLink (p : Part) : (statusLink p).length = 22 := by
  simp [statusLink, Link.pendingFlags]

/-- A byte with `n` bytes before it stands at place `n`. -/
theorem getElem?_after {before after : List Byte} {n : Nat} (h : before.length = n) (x : Byte) :
    (before ++ x :: after)[n]? = some x := by
  rw [List.getElem?_append_right (by omega), h, Nat.sub_self]
  rfl

/-- Settles O18: STATUS draws its free values anew and answers with its 156 bytes, whose fields lie behind the lengths
of the ones before them. -/
theorem statusReply : Obligations.StatusReply := by
  unfold Obligations.StatusReply
  intro s tag hs
  generalize ha : s.awake 0x02 = a
  have power := length_statusPower a.toPart
  have pace := length_statusPace a.toPart
  have engine := length_statusEngine a.toPart
  have ports := length_statusPorts a.toPart
  have balance := length_statusBalance a.toPart
  have height := length_statusHeight a.toPart
  have loader := length_statusLoader a.toPart
  have record := length_statusRecord a.toPart
  have link := length_statusLink a.toPart
  refine ⟨statusBody a.toPart, State.act_effect _ _ _ _ _ _ a hs ha rfl, ?_, rfl, ?_, ?_, ?_, ?_⟩
  · simp only [statusBody, List.length_cons, List.length_append, power, pace, engine, ports, balance, height, loader,
      record, link]
  · have split : statusBody a.toPart
        = (0x00 :: statusPower a.toPart) ++ (statusPace a.toPart ++ (statusEngine a.toPart ++ statusPorts a.toPart
          ++ statusBalance a.toPart ++ statusHeight a.toPart ++ statusLoader a.toPart ++ statusRecord a.toPart
          ++ statusLink a.toPart)) := by
      simp only [statusBody, List.append_assoc, List.cons_append]
      rfl
    rw [split, List.drop_left' (by rw [List.length_cons, power])]
    rfl
  · have split : statusBody a.toPart
        = (0x00 :: (statusPower a.toPart ++ statusPace a.toPart ++ statusEngine a.toPart)) ++ (statusPorts a.toPart
          ++ (statusBalance a.toPart ++ statusHeight a.toPart ++ statusLoader a.toPart ++ statusRecord a.toPart
          ++ statusLink a.toPart)) := by
      simp only [statusBody, List.append_assoc, List.cons_append]
      rfl
    rw [split]
    exact getElem?_after (by simp only [List.length_cons, List.length_append, power, pace, engine]) _
  · have split : statusBody a.toPart
        = (0x00 :: (statusPower a.toPart ++ statusPace a.toPart ++ statusEngine a.toPart ++ statusPorts a.toPart
          ++ statusBalance a.toPart)) ++ (statusHeight a.toPart ++ (statusLoader a.toPart ++ statusRecord a.toPart
          ++ statusLink a.toPart)) := by
      simp only [statusBody, List.append_assoc, List.cons_append]
      rfl
    rw [split]
    exact getElem?_after (by simp only [List.length_cons, List.length_append, power, pace, engine, ports, balance]) _
  · have split : statusBody a.toPart
        = (0x00 :: (statusPower a.toPart ++ statusPace a.toPart ++ statusEngine a.toPart ++ statusPorts a.toPart
          ++ statusBalance a.toPart ++ statusHeight a.toPart ++ statusLoader a.toPart ++ statusRecord a.toPart
          ++ (a.link.pendingFlags ++ (List.finRange 18).map fun k => byte a.link.records[k].repeats)))
          ++ [byte a.link.queue.length] := by
      simp only [statusBody, statusLink, List.append_assoc, List.cons_append]
      rfl
    rw [split]
    refine getElem?_after ?_ _
    simp only [List.length_cons, List.length_append, power, pace, engine, ports, balance, height, loader, record,
      List.length_map, List.length_finRange]
    rfl

/-! ### STORE_QUERY, STORE_READ, LINE_READ (R137, R138, R153) -/

@[simp] theorem set?_ofNat (i : Fin 8) : set? (BitVec.ofNat 8 i.val) = some i := by
  have hi : (BitVec.ofNat 8 i.val).toNat = i.val := by
    rw [BitVec.toNat_ofNat]
    omega
  simp only [set?, hi, i.isLt, dite_true, Fin.eta]

theorem exec_storeRead (tag set : Byte) (index : Half) (s : State) :
    exec (.storeRead tag set index) s = s.act (Part.answer 0x3F tag (doStoreRead set index)) := rfl

theorem length_setBytes (p : Part) (k : Fin 8) : (p.setBytes k).length = 7 := by
  simp only [Part.setBytes]
  split <;> rfl

theorem length_sessionBytes (t : Store) : t.sessionBytes.length = 6 := by
  simp only [Store.sessionBytes]
  split <;> rfl

theorem length_stepBytes (t : Store) : t.stepBytes.length = 3 := by
  simp only [Store.stepBytes]
  split
  · rfl
  · next x _ => cases x.kind <;> rfl

theorem length_lineBytes (p : Part) (i : Fin 8) : (p.lineBytes i).length = 13 := by
  simp only [Part.lineBytes, List.length_append]
  split <;> rfl

theorem doStoreQuery_answers {p : Part} (h : p.store.scanning = false) :
    ∃ body : List Byte, body.length = 68 ∧ body[0]? = some 0x00 ∧ doStoreQuery p = (body, p) := by
  refine ⟨_, ?_, ?_, by simp only [doStoreQuery, h, Bool.false_eq_true, if_false]; rfl⟩
  · simp only [List.length_cons, List.length_append, length_flatMap_finRange _ (length_setBytes p), length_sessionBytes,
      length_stepBytes, List.length_nil]
  · rfl

theorem doStoreQuery_busy {p : Part} (h : p.store.scanning = true) : doStoreQuery p = ([0x02], p) := by
  simp only [doStoreQuery, h, if_true]
  rfl

theorem doStoreRead_eq (k : Fin 8) {t : Nat} (ht : t < 560) (p : Part) :
    doStoreRead (BitVec.ofNat 8 k.val) (BitVec.ofNat 16 t) p
      = (if p.store.scanning || p.store.stepRunning then [0x02]
          else [0x00, (p.store.setState k).code]
            ++ (List.range 40).map fun b => Memory.read 0xFF p.store.flash (24576 * k.val + 1024 + 40 * t + b), p) := by
  have index : (BitVec.ofNat 16 t).toNat = t := by
    rw [BitVec.toNat_ofNat]
    omega
  have range : ¬ 559 < t := by omega
  simp only [doStoreRead, set?_ofNat, index, if_neg range, Bool.or_comm p.store.stepRunning]
  split <;> rfl

theorem doLineRead_answers (p : Part) :
    ∃ body : List Byte, body.length = 117 ∧ body[0]? = some 0x00 ∧ doLineRead p = (body, p) := by
  refine ⟨_, ?_, ?_, rfl⟩
  · simp only [List.length_cons, List.length_append, length_flatMap_finRange _ (length_lineBytes p), List.length_map,
      List.length_finRange, List.length_nil]
  · rfl

/-- Settles O19: each of the three requests answers without effect. -/
theorem readRequests : Obligations.ReadRequests := by
  unfold Obligations.ReadRequests
  refine ⟨fun s tag hs free => ?_, fun s tag hs scan => ?_, fun s tag k t hs ht => ?_, fun s tag hs => ?_⟩
  · obtain ⟨body, length, first, answers⟩ := doStoreQuery_answers free
    exact ⟨body, length, first, State.act_refused _ _ _ _ _ _ hs rfl answers⟩
  · exact State.act_refused _ _ _ _ _ _ hs rfl (doStoreQuery_busy scan)
  · exact State.act_refused _ _ _ _ _ _ hs rfl (doStoreRead_eq k ht _)
  · obtain ⟨body, length, first, answers⟩ := doLineRead_answers (s.awake 0x41).toPart
    exact ⟨body, length, first, State.act_refused _ _ _ _ _ _ hs rfl answers⟩

end Sys2Proof.Machine
end

section
/-! PROOF. The camera ports: the requests PORT_POWER and PORT_STANDBY (R37 to R39), the expiries of a port's timer (R28,
R30 to R32) and the power fault (R33), each as one change of a port's state that the gatherer hears (R27, R58). -/

namespace Sys2Proof.Machine

/-! ### A change of port state, in the terms of the statements -/

theorem update_congr {α : Type} {n : Nat} {v : Vector α n} {i : Fin n} {f g : α → α} (h : f v[i] = g v[i]) :
    update v i f = update v i g := by
  simp only [update, h]

theorem update_update {α : Type} {n : Nat} (v : Vector α n) (i : Fin n) (f g : α → α) :
    update (update v i f) i g = update v i (g ∘ f) := by
  simp [update]

theorem Part.changePort_state (i : Fin 4) (f : Port → Port) (p : Part) :
    (p.changePort i f).ports[i].state = (f p.ports[i]).state := by
  obtain ⟨b, r, h⟩ := p.changePort_port i i f
  rw [h, if_pos rfl]

/-- A change of a port's state raises CAMERA_STATE and then is told to the gatherer. -/
theorem State.changePort_gathered (s : State) (i : Fin 4) {f g : Port → Port} (st : PortState)
    (same : f s.ports[i] = g s.ports[i]) (becomes : (g s.ports[i]).state = st) (moved : st ≠ s.ports[i].state) :
    ({ s with toPart := s.toPart.changePort i f } : State)
      = ({ s with ports := update s.ports i g }.raised .cameraState [BitVec.ofNat 8 i.val, st.code]).gathered := by
  subst becomes
  have ports : s.toPart.onPort i f = { s.toPart with ports := update s.ports i g } := by
    simp only [Part.onPort, update_congr same]
  rw [Part.changePort_moved i f s.toPart (by rw [same]; exact moved), same, ports]
  rfl

/-- A request whose effect is a change of a port's state. -/
theorem State.act_changesPort {kind tag : Byte} {act : Effect} {reply : List Byte} {s a : State} {i : Fin 4}
    {f g : Port → Port} (st : PortState) (h : s.Takes kind) (ha : s.awake kind = a)
    (hact : act a.toPart = (reply, a.toPart.changePort i f)) (same : f a.ports[i] = g a.ports[i])
    (becomes : (g a.ports[i]).state = st) (moved : st ≠ a.ports[i].state) :
    let u := { a with ports := update a.ports i g }.raised .cameraState [BitVec.ofNat 8 i.val, st.code]
    s.act (Part.answer kind tag act) = .next (u.gathered.replied (kind + 0x80) tag reply) ∧ u.Tested u.gathered :=
  ⟨(State.act_effect _ _ _ _ _ _ _ h ha hact).trans (by rw [a.changePort_gathered i st same becomes moved]),
    State.gathered_tested _⟩

/-- The frame watchdog of a port, as R30 allows it. -/
theorem Part.watchdogTimer_eq (p : Part) (q : Port) :
    p.watchdogTimer q
      = if p.pace.runState ≠ RunState.stopped ∧ p.supply.low = false then .running (p.now + q.watchdog * 27000)
        else .held := by
  have allowed : p.watchdogRuns = true ↔ p.pace.runState ≠ RunState.stopped ∧ p.supply.low = false := by
    simp [Part.watchdogRuns]
  simp only [Part.watchdogTimer, allowed]
  rfl

/-! ### PORT_POWER (R37) -/

theorem doPortPower_standby (i : Fin 4) {action : Byte} (ha : action.toNat < 2) {p : Part}
    (h : p.ports[i].state = .standby) : doPortPower (BitVec.ofNat 8 i.val) action p = ([0x0B], p) := by
  simp only [doPortPower, camera?_ofNat, bit?_of_lt_two ha, if_pos h]
  rfl

theorem doPortPower_parked (i : Fin 4) {p : Part} (h : p.ports[i].state ≠ .standby) (parked : p.power.state = .parked) :
    doPortPower (BitVec.ofNat 8 i.val) 0x01 p = ([0x03], p) := by
  have on : bit? 0x01 = some true := rfl
  simp only [doPortPower, camera?_ofNat, on, if_neg h, parked, and_self, if_true]
  rfl

/-- Outside STANDBY, PORT_POWER off is answered with the port's state after the switch. -/
theorem doPortPower_off (i : Fin 4) {p : Part} (h : p.ports[i].state ≠ .standby) :
    doPortPower (BitVec.ofNat 8 i.val) 0x00 p
      = ([0x00, BitVec.ofNat 8 i.val, (p.switchPort i false).ports[i].state.code], p.switchPort i false) := by
  have off : bit? 0x00 = some false := rfl
  simp only [doPortPower, camera?_ofNat, off, if_neg h, Bool.false_eq_true, false_and, if_false]
  rfl

/-- Outside STANDBY and PARKED, PORT_POWER on is answered with the port's state after the switch. -/
theorem doPortPower_on (i : Fin 4) {p : Part} (h : p.ports[i].state ≠ .standby) (awake : p.power.state ≠ .parked) :
    doPortPower (BitVec.ofNat 8 i.val) 0x01 p
      = ([0x00, BitVec.ofNat 8 i.val, (p.switchPort i true).ports[i].state.code], p.switchPort i true) := by
  have on : bit? 0x01 = some true := rfl
  simp only [doPortPower, camera?_ofNat, on, if_neg h, awake, and_false, if_false]
  rfl

theorem Part.switchPort_on {i : Fin 4} {p : Part} (h : p.ports[i].state = .off ∨ p.ports[i].state = .failed) :
    p.switchPort i true = p.changePort i (Port.switchOn p.now) := by
  simp only [Part.switchPort, if_true, if_pos h]

theorem Part.switchPort_stays_on {i : Fin 4} {p : Part} (off : p.ports[i].state ≠ .off)
    (failed : p.ports[i].state ≠ .failed) : p.switchPort i true = p := by
  simp only [Part.switchPort, if_true, off, failed, or_self, if_false]

theorem Part.switchPort_off {i : Fin 4} {p : Part} (h : p.ports[i].state ≠ .off) :
    p.switchPort i false = p.changePort i Port.switchOff := by
  simp only [Part.switchPort, Bool.false_eq_true, if_false, if_neg h]

theorem Part.switchPort_stays_off {i : Fin 4} {p : Part} (h : p.ports[i].state = .off) : p.switchPort i false = p := by
  simp only [Part.switchPort, Bool.false_eq_true, if_false, if_pos h]

/-- Settles O23: on and off each by the state of the port they find. -/
theorem portPower : Obligations.PortPower := by
  unfold Obligations.PortPower
  refine fun s tag i hs => ⟨?on, ?off, ?staysOff, ?staysOn, ?parked, ?standby⟩
  case on =>
    intro service unpowered awake
    have apart : (s.awake 0x11).ports[i].state ≠ .standby := by rcases service with h | h <;> rw [h] <;> decide
    refine State.act_changesPort (f := Port.switchOn (s.awake 0x11).now) .powering hs rfl ?_ ?_ rfl ?_
    · rw [doPortPower_on i apart awake, Part.switchPort_on service, Part.changePort_state]
      rfl
    · simp only [Port.switchOn, Port.powerUp, unpowered, Bool.false_eq_true, if_false]
      rfl
    · rcases service with h | h <;> rw [h] <;> decide
  case off =>
    intro service apart
    refine State.act_changesPort (f := Port.switchOff) .off hs rfl ?_ rfl rfl (Ne.symm service)
    rw [doPortPower_off i apart, Part.switchPort_off service, Part.changePort_state]
    rfl
  case staysOff =>
    intro off
    refine State.act_refused _ _ _ _ _ _ hs rfl ?_
    rw [doPortPower_off i (by rw [off]; decide), Part.switchPort_stays_off off, off]
    rfl
  case staysOn =>
    intro off failed apart awake
    refine State.act_refused _ _ _ _ _ _ hs rfl ?_
    rw [doPortPower_on i apart awake, Part.switchPort_stays_on off failed]
  case parked =>
    intro apart parked
    exact State.act_refused _ _ _ _ _ _ hs rfl (doPortPower_parked i apart parked)
  case standby =>
    intro standby action ha
    exact State.act_refused _ _ _ _ _ _ hs rfl (doPortPower_standby i ha standby)

/-! ### PORT_STANDBY (R38, R39) -/

theorem doStandbyEnter_enters (i : Fin 4) {p : Part} (awake : p.power.state ≠ .parked)
    (h : p.ports[i].state ≠ .standby) :
    doStandbyEnter (BitVec.ofNat 8 i.val) p = ([0x00, BitVec.ofNat 8 i.val, 0x07], p.changePort i Port.enterStandby) := by
  simp only [doStandbyEnter, camera?_ofNat, if_neg awake, if_neg h]
  rfl

theorem doStandbyEnter_same (i : Fin 4) {p : Part} (awake : p.power.state ≠ .parked) (h : p.ports[i].state = .standby) :
    doStandbyEnter (BitVec.ofNat 8 i.val) p = ([0x00, BitVec.ofNat 8 i.val, 0x07], p) := by
  simp only [doStandbyEnter, camera?_ofNat, if_neg awake, if_pos h]
  rfl

theorem doStandbyEnter_parked (i : Fin 4) {p : Part} (parked : p.power.state = .parked) :
    doStandbyEnter (BitVec.ofNat 8 i.val) p = ([0x03], p) := by
  simp only [doStandbyEnter, camera?_ofNat, if_pos parked]
  rfl

/-- In STANDBY, PORT_STANDBY leave is answered with the port's state after it. -/
theorem doStandbyLeave_leaves (i : Fin 4) {p : Part} (h : p.ports[i].state = .standby) :
    doStandbyLeave (BitVec.ofNat 8 i.val) p
      = ([0x00, BitVec.ofNat 8 i.val, (p.ports[i].leaveStandby (p.watchdogTimer p.ports[i])).state.code],
        p.changePort i (Port.leaveStandby (p.watchdogTimer p.ports[i]))) := by
  simp only [doStandbyLeave, camera?_ofNat, if_pos h, Part.changePort_state]
  rfl

theorem doStandbyLeave_refused (i : Fin 4) {p : Part} (h : p.ports[i].state ≠ .standby) :
    doStandbyLeave (BitVec.ofNat 8 i.val) p = ([0x03], p) := by
  simp only [doStandbyLeave, camera?_ofNat, if_neg h]
  rfl

/-- Settles O24: enter and leave each by the state of the port and, for leave, by its camera power. -/
theorem portStandby : Obligations.PortStandby := by
  unfold Obligations.PortStandby
  refine fun s tag i hs => ⟨?enters, ?same, ?parked, ?waits, ?off, ?refused⟩
  case enters =>
    intro apart awake
    exact State.act_changesPort .standby hs rfl (doStandbyEnter_enters i awake apart) rfl rfl (Ne.symm apart)
  case same =>
    intro standby awake
    exact State.act_refused _ _ _ _ _ _ hs rfl (doStandbyEnter_same i awake standby)
  case parked =>
    intro parked
    exact State.act_refused _ _ _ _ _ _ hs rfl (doStandbyEnter_parked i parked)
  case waits =>
    intro standby powered
    refine State.act_changesPort
      (f := Port.leaveStandby ((s.awake 0x12).watchdogTimer (s.awake 0x12).ports[i])) .waiting hs rfl ?_ ?_ rfl
      (by rw [standby]; decide)
    · rw [doStandbyLeave_leaves i standby]
      simp only [Port.leaveStandby, powered, if_true]
      rfl
    · simp only [Port.leaveStandby, powered, if_true, Part.watchdogTimer_eq]
  case off =>
    intro standby unpowered
    refine State.act_changesPort
      (f := Port.leaveStandby ((s.awake 0x12).watchdogTimer (s.awake 0x12).ports[i])) .off hs rfl ?_ ?_ rfl
      (by rw [standby]; decide)
    · rw [doStandbyLeave_leaves i standby]
      simp only [Port.leaveStandby, unpowered, Bool.false_eq_true, if_false]
      rfl
    · simp only [Port.leaveStandby, unpowered, Bool.false_eq_true, if_false]
  case refused =>
    intro apart
    exact State.act_refused _ _ _ _ _ _ hs rfl (doStandbyLeave_refused i apart)

/-! ### The expiries of a port's timer (R28, R30 to R32) -/

/-- A command whose effect is a change of a port's state at tick `due`. -/
theorem State.act_expires {s : State} {i : Fin 4} {due : Nat} {e : Part → Part} {f g : Port → Port}
    (st : PortState) (hr : s.power.inReset = false) (effect : e s.toPart = (s.toPart.at due).changePort i f)
    (same : f s.ports[i] = g s.ports[i]) (becomes : (g s.ports[i]).state = st) (moved : st ≠ s.ports[i].state) :
    let u := { s.atTick due with ports := update s.ports i g }.raised .cameraState [BitVec.ofNat 8 i.val, st.code]
    s.act e = .next u.gathered ∧ u.Tested u.gathered := by
  refine ⟨?_, State.gathered_tested _⟩
  rw [State.act_apply _ _ hr, effect]
  exact congrArg _ ((s.atTick due).changePort_gathered i st same becomes moved)

/-- A command without effect on a state. -/
theorem State.act_same {s : State} {e : Part → Part} (h : e s.toPart = s.toPart) : s.act e = .next s := by
  simp only [State.act, h]
  split <;> rfl

theorem Port.due?_running {q : Port} {due : Nat} (h : q.timer = .running due) : q.due? = some due := by
  simp only [Port.due?, h]

theorem Part.settleExpires_powering {i : Fin 4} {p : Part} {due : Nat} (timer : p.ports[i].timer = .running due)
    (h : p.ports[i].state = .powering) :
    p.settleExpires i
      = (p.at due).changePort i fun q => { q with state := .waiting, timer := (p.at due).watchdogTimer q } := by
  simp only [Part.settleExpires, h, Port.due?_running timer]

theorem Part.settleExpires_same {i : Fin 4} {p : Part} (h : p.ports[i].state ≠ .powering) : p.settleExpires i = p := by
  unfold Part.settleExpires
  split
  · next e _ => exact absurd e h
  · rfl

theorem Part.watchdogExpires_live {i : Fin 4} {p : Part} {due : Nat} (timer : p.ports[i].timer = .running due)
    (h : p.ports[i].state = .live) :
    p.watchdogExpires i
      = (p.at due).changePort i fun q => { q with state := .stalled, timer := (p.at due).watchdogTimer q } := by
  simp only [Part.watchdogExpires, h, Port.due?_running timer]

theorem Part.watchdogExpires_attempts {i : Fin 4} {p : Part} {due : Nat} (timer : p.ports[i].timer = .running due)
    (h : p.ports[i].state = .waiting ∨ p.ports[i].state = .stalled) :
    p.watchdogExpires i = (p.at due).attemptStep i := by
  rcases h with h | h <;> simp only [Part.watchdogExpires, h, Port.due?_running timer]

theorem Part.watchdogExpires_same {i : Fin 4} {p : Part} (live : p.ports[i].state ≠ .live)
    (waiting : p.ports[i].state ≠ .waiting) (stalled : p.ports[i].state ≠ .stalled) : p.watchdogExpires i = p := by
  unfold Part.watchdogExpires
  split
  · next e _ => exact absurd e live
  · next e _ => exact absurd e stalled
  · next e _ => exact absurd e waiting
  · rfl

theorem Part.recoveryExpires_recovering {i : Fin 4} {p : Part} {due : Nat} (timer : p.ports[i].timer = .running due)
    (h : p.ports[i].state = .recovering) :
    p.recoveryExpires i = (p.at due).changePort i (Port.powerUp (p.at due).now) := by
  simp only [Part.recoveryExpires, h, Port.due?_running timer]

theorem Part.recoveryExpires_same {i : Fin 4} {p : Part} (h : p.ports[i].state ≠ .recovering) :
    p.recoveryExpires i = p := by
  unfold Part.recoveryExpires
  split
  · next e _ => exact absurd e h
  · rfl

/-- Settles O44: by the state of the port whose timer expires. -/
theorem portTimers : Obligations.PortTimers := by
  unfold Obligations.PortTimers
  refine fun s i due hr timer => ⟨?powering, ?live, ?recovers, ?fails, ?recovering, ?noSettle, ?noWatchdog, ?noRecovery⟩
  case powering =>
    intro powering
    refine State.act_expires .waiting hr (Part.settleExpires_powering timer powering) ?_ rfl (by rw [powering]; decide)
    rw [Part.watchdogTimer_eq]
    rfl
  case live =>
    intro live
    refine State.act_expires .stalled hr (Part.watchdogExpires_live timer live) ?_ rfl (by rw [live]; decide)
    rw [Part.watchdogTimer_eq]
    rfl
  case recovers =>
    intro out below
    refine State.act_expires .recovering hr
      (f := fun q => { q.powerDown .recovering with
        attempts := q.attempts + 1, timer := .running ((s.toPart.at due).afterMillis Config.recoveryMillis) })
      ?_ rfl rfl (by rcases out with h | h <;> rw [h] <;> decide)
    rw [Part.watchdogExpires_attempts timer out, Part.attemptStep]
    exact if_pos below
  case fails =>
    intro out reached
    refine State.act_expires .failed hr (f := Port.powerDown .failed) ?_ rfl rfl
      (by rcases out with h | h <;> rw [h] <;> decide)
    rw [Part.watchdogExpires_attempts timer out, Part.attemptStep]
    exact if_neg (Nat.not_lt.2 reached)
  case recovering =>
    intro recovering unpowered
    refine State.act_expires .powering hr (Part.recoveryExpires_recovering timer recovering) ?_ rfl (by rw [recovering]; decide)
    simp only [Port.powerUp, unpowered, Bool.false_eq_true, if_false]
    rfl
  case noSettle =>
    exact fun h => State.act_same (Part.settleExpires_same h)
  case noWatchdog =>
    exact fun live waiting stalled => State.act_same (Part.watchdogExpires_same live waiting stalled)
  case noRecovery =>
    exact fun h => State.act_same (Part.recoveryExpires_same h)

/-! ### CSNS samples and the power fault (R33) -/

theorem exec_csnsSample (i : Fin 4) (level : Bool) (s : State) :
    exec (.csnsSample i level) s = s.act (Part.takeCsns i level) := rfl

theorem exec_powerFault (i : Fin 4) (s : State) :
    exec (.powerFault i) s = s.act fun p => if 19 ≤ p.ports[i].faultCount then p.takeCsns i false else p := rfl

/-- A sample that does not count. -/
theorem Part.takeCsns_clears {i : Fin 4} {level : Bool} {p : Part}
    (h : level = true ∨ p.ports[i].power = false ∨ p.supply.low = true) :
    p.takeCsns i level = p.onPort i fun q => { q with csns := level, faultCount := 0 } := by
  have passes : (p.ports[i].power && !p.supply.low && !level) = false := by
    rw [Bool.and_eq_false_imp]
    rcases h with h | h | h <;> simp only [h, Bool.false_and, Bool.false_eq_true, Bool.not_true, Bool.and_false, false_imp_iff, Bool.not_true, implies_true]
  simp only [Part.takeCsns, passes, Bool.false_eq_true, if_false, Part.onPort_onPort]
  rfl

/-- An off sample of a powered camera, before the twentieth in a row. -/
theorem Part.takeCsns_counts {i : Fin 4} {p : Part} (power : p.ports[i].power = true) (normal : p.supply.low = false)
    (h : p.ports[i].faultCount < 19) :
    p.takeCsns i false = p.onPort i fun q => { q with csns := false, faultCount := q.faultCount + 1 } := by
  have early : ¬ 20 ≤ p.ports[i].faultCount + 1 := by omega
  simp only [Part.takeCsns, power, normal, Bool.not_false, Bool.and_self, if_true, if_neg early, Part.onPort_onPort]
  rfl

/-- The twentieth off sample in a row. -/
theorem Part.takeCsns_faults {i : Fin 4} {p : Part} (power : p.ports[i].power = true) (normal : p.supply.low = false)
    (h : p.ports[i].faultCount = 19) :
    p.takeCsns i false = (p.onPort i fun q => { q with csns := false }).takePowerFault i := by
  simp only [Part.takeCsns, power, normal, h, Bool.not_false, Bool.and_self, if_true, Nat.reduceAdd, Nat.le_refl]

/-- Settles O45: a sample clears, counts, or is the twentieth, whose change of port state the gatherer hears before
POWER_FAULT is raised. -/
theorem cameraPowerFault : Obligations.CameraPowerFault := by
  unfold Obligations.CameraPowerFault
  refine fun s i level hr => ⟨?clears, ?counts, ?faults, ?early⟩
  case clears =>
    intro h
    rw [exec_csnsSample, State.act_apply _ _ hr, Part.takeCsns_clears h]
    rfl
  case counts =>
    intro power normal below
    rw [exec_csnsSample, State.act_apply _ _ hr, Part.takeCsns_counts power normal below]
    rfl
  case faults =>
    intro power normal nineteen service c hc
    refine ⟨?_, State.gathered_tested _⟩
    let sampled : State := { s with toPart := s.toPart.onPort i fun q => { q with csns := false } }
    have effect : exec c s = .next { s with toPart := sampled.toPart.takePowerFault i } := by
      rcases hc with rfl | rfl
      · rw [exec_csnsSample, State.act_apply _ _ hr, Part.takeCsns_faults power normal nineteen]
      · rw [exec_powerFault, State.act_apply _ _ hr, if_pos (Nat.le_of_eq nineteen.symm), Part.takeCsns_faults power normal nineteen]
    have port : sampled.ports[i] = { s.ports[i] with csns := false } := by
      show (update _ _ _)[i] = _
      rw [update_get, if_pos rfl]
    have fault := sampled.changePort_gathered i (f := Port.powerDown .failed) (g := Port.powerDown .failed) .failed rfl rfl
      (by rw [port]; exact Ne.symm service)
    rw [effect]
    refine congrArg Host.Outcome.next ((congrArg (State.raised .powerFault [byte i.val]) fault).trans ?_)
    simp only [sampled, Part.onPort, update_update]
    rfl
  case early =>
    intro below
    refine State.act_same (if_neg (Nat.not_le.2 below))

end Sys2Proof.Machine
end

section
/-! PROOF. Reception into the frame buffers (R19, R21 to R23, R29): what FRAME START, LINE and FRAME END do to the port
that receives them, and their obligation. -/

namespace Sys2Proof.Machine

theorem exec_frameStart (i : Fin 4) (s : State) : exec (.frameStart i) s = s.act (Part.takeFrameStart i) := rfl

theorem exec_linePacket (i : Fin 4) (samples : List Byte) (s : State) :
    exec (.linePacket i samples) s = s.act (Part.takeLine i samples) := rfl

theorem exec_frameEnd (i : Fin 4) (s : State) : exec (.frameEnd i) s = s.act (Part.takeFrameEnd i) := rfl

/-- A port receives while it is WAITING, LIVE or STALLED and the supply is NORMAL (R19). -/
theorem Part.receiving_spec (p : Part) (i : Fin 4) :
    p.receiving i = true ↔
      (p.ports[i].state = .waiting ∨ p.ports[i].state = .live ∨ p.ports[i].state = .stalled) ∧ p.supply.low = false := by
  have watches : ∀ st : PortState, st.watches = true ↔ st = .waiting ∨ st = .live ∨ st = .stalled := fun st => by
    cases st <;> decide
  rw [p.receiving_iff i, watches]

theorem Part.onPort_congr {p : Part} {i : Fin 4} {f g : Port → Port} (h : f p.ports[i] = g p.ports[i]) :
    p.onPort i f = p.onPort i g := by
  simp only [Part.onPort, update_congr h]

/-! ### Which buffer is FILLING, and which is FREE -/

theorem Port.filling?_eq_some {q : Port} {b : Fin 3} (h : q.buffers[b].state = .filling)
    (only : ∀ c : Fin 3, q.buffers[c].state = .filling → c = b) : q.filling? = some b :=
  find_lowest _ b (by simpa using h) fun c hc => by
    rw [beq_eq_false_iff_ne]
    exact fun e => absurd (only c e) (by omega)

theorem Port.filling?_eq_none {q : Port} (h : ∀ b : Fin 3, q.buffers[b].state ≠ .filling) : q.filling? = none :=
  find_none _ fun c => by simpa using h c

theorem Port.free?_eq_some {q : Port} {b : Fin 3} (h : q.buffers[b].state = .free)
    (lowest : ∀ c : Fin 3, c < b → q.buffers[c].state ≠ .free) : q.free? = some b :=
  find_lowest _ b (by simpa using h) fun c hc => by simpa using lowest c hc

theorem Port.free?_eq_none {q : Port} (h : ∀ b : Fin 3, q.buffers[b].state ≠ .free) : q.free? = none :=
  find_none _ fun c => by simpa using h c

/-! ### FRAME START (R21) -/

theorem Port.beginFrame_free {q : Port} {b : Fin 3} (h : q.free? = some b) (tag : Half) :
    q.beginFrame tag = q.onBuffer b (FrameBuffer.begin tag) := by
  simp only [Port.beginFrame, h]

theorem Port.beginFrame_ready {q : Port} {b : Fin 3} {rest : List (Fin 3)} (h : q.free? = none) (hr : q.ready = b :: rest)
    (tag : Half) : q.beginFrame tag = { q with ready := rest }.onBuffer b (FrameBuffer.begin tag) := by
  simp only [Port.beginFrame, h, hr]

/-- Without a FILLING frame a FRAME START begins one. -/
theorem Part.takeFrameStart_begins {i : Fin 4} {p : Part} (receives : p.receiving i = true)
    (h : p.ports[i].filling? = none) : p.takeFrameStart i = p.onPort i (Port.beginFrame p.pace.trigger) := by
  simp only [Part.takeFrameStart, receives, if_true, Part.abandonFrame, h]

/-- A FILLING frame is abandoned first, its buffer free for the new frame. -/
theorem Part.takeFrameStart_abandons {i : Fin 4} {b : Fin 3} {p : Part} (receives : p.receiving i = true)
    (h : p.ports[i].filling? = some b) :
    p.takeFrameStart i
      = (p.onPort i (Port.beginFrame p.pace.trigger ∘ Port.freeBuffer b)).raise .frameBroken
          (brokenDetail i p.ports[i].buffers[b].tag 1) := by
  simp only [Part.takeFrameStart, receives, if_true, Part.abandonFrame, h]
  rw [← Part.onPort_onPort]
  rfl

/-! ### LINE (R22) -/

theorem FrameBuffer.takeLine_stores {f : FrameBuffer} (h : f.lines < 960) (samples : List Byte) :
    f.takeLine samples = { f with
      lines := f.lines + 1, data := f.data ++ [samples.take 2560]
      broken := if f.broken = none ∧ samples.length / 2 ≠ 1280 then some BrokenCause.lineLength else f.broken } := by
  have broken : markBroken f.broken (lineLength samples != 1280) .lineLength
      = if f.broken = none ∧ samples.length / 2 ≠ 1280 then some BrokenCause.lineLength else f.broken := by
    cases f.broken <;> simp [markBroken, lineLength]
  simp only [FrameBuffer.takeLine, if_pos h, broken]

theorem FrameBuffer.takeLine_extra {f : FrameBuffer} (h : f.lines = 960) (samples : List Byte) :
    f.takeLine samples
      = { f with broken := if f.broken = none then some BrokenCause.extraLines else f.broken } := by
  have broken : markBroken f.broken true .extraLines
      = if f.broken = none then some BrokenCause.extraLines else f.broken := by
    cases f.broken <;> simp [markBroken]
  simp only [FrameBuffer.takeLine, h, Nat.lt_irrefl, if_false, broken]

theorem Part.takeLine_filling {i : Fin 4} {b : Fin 3} {p : Part} (receives : p.receiving i = true)
    (h : p.ports[i].filling? = some b) (samples : List Byte) :
    p.takeLine i samples = p.onPort i (Port.onBuffer b (FrameBuffer.takeLine samples)) := by
  simp only [Part.takeLine, receives, if_true, h]

theorem Part.takeLine_none {i : Fin 4} {p : Part} (h : p.ports[i].filling? = none) (samples : List Byte) :
    p.takeLine i samples = p := by
  simp only [Part.takeLine, h, ite_self]

/-- A line changes only the FILLING buffer. -/
theorem Part.onBuffer_congr {p : Part} {i : Fin 4} {b : Fin 3} {f g : FrameBuffer → FrameBuffer}
    (h : f p.ports[i].buffers[b] = g p.ports[i].buffers[b]) :
    p.onPort i (Port.onBuffer b f) = p.onPort i fun q => { q with buffers := update q.buffers b g } :=
  Part.onPort_congr (by simp only [Port.onBuffer, update_congr h])

/-! ### FRAME END (R23, R29) -/

theorem FrameBuffer.good_iff (f : FrameBuffer) : f.good = true ↔ f.broken = none ∧ f.lines = 960 := by
  simp [FrameBuffer.good]

theorem Part.takeFrameEnd_filling {i : Fin 4} {b : Fin 3} {p : Part} (receives : p.receiving i = true)
    (h : p.ports[i].filling? = some b) :
    p.takeFrameEnd i = if p.ports[i].buffers[b].good then p.goodFrameEnd i b else p.brokenFrameEnd i b := by
  simp only [Part.takeFrameEnd, receives, if_true, h]

theorem Part.takeFrameEnd_none {i : Fin 4} {p : Part} (h : p.ports[i].filling? = none) : p.takeFrameEnd i = p := by
  simp only [Part.takeFrameEnd, h, ite_self]

/-- The port after a good frame end in buffer `b`. -/
def Port.goodEnd (b : Fin 3) (r : RunState) (now : Nat) (q : Port) : Port :=
  { q with
    buffers := update q.buffers b fun f => { f with state := .ready }
    ready := q.ready ++ [b], state := .live, attempts := if q.state = .live then q.attempts else 0
    timer := if r = .stopped then .held else .running (now + q.watchdog * 27000) }

/-- While the supply is NORMAL the watchdog restarts unless the pace is STOPPED (R30). -/
theorem Part.goodFrameEnd_eq {i : Fin 4} {b : Fin 3} {p : Part} (normal : p.supply.low = false) :
    p.goodFrameEnd i b
      = (if p.ports[i].state = .live then p.onPort i (Port.goodEnd b p.pace.runState p.now)
          else (p.onPort i (Port.goodEnd b p.pace.runState p.now)).raise .cameraState
            [byte i.val, PortState.live.code]).gatherTest := by
  have timer : p.watchdogTimer p.ports[i]
      = if p.pace.runState = .stopped then .held else .running (p.now + p.ports[i].watchdog * 27000) := by
    simp only [Part.watchdogTimer_eq, normal, and_true, ite_not]
  have port : p.onPort i (Port.goodEnd b p.pace.runState p.now)
      = p.onPort i fun _ => { p.ports[i].onBuffer b (fun f => { f with state := .ready }) with
          ready := p.ports[i].ready ++ [b], state := .live
          attempts := if p.ports[i].state = .live then p.ports[i].attempts else 0
          timer := p.watchdogTimer p.ports[i] } := by
    refine Part.onPort_congr ?_
    simp only [Port.goodEnd, timer]
    rfl
  rw [port]
  rfl

/-- The cause that a broken frame end names: LINE_LENGTH, EXTRA_LINES, or too few lines. -/
theorem Part.brokenFrameEnd_eq (i : Fin 4) (b : Fin 3) (p : Part) :
    p.brokenFrameEnd i b
      = (p.onPort i (Port.freeBuffer b)).raise .frameBroken
          (brokenDetail i p.ports[i].buffers[b].tag
            (if p.ports[i].buffers[b].broken = some .lineLength then 0x02
              else if p.ports[i].buffers[b].broken = some .extraLines then 0x03 else 0x04)) := by
  have code : ∀ c : Option BrokenCause, (match c with | some c => c.code | none => (4 : Byte))
      = if c = some .lineLength then 0x02 else if c = some .extraLines then 0x03 else 0x04 := by
    rintro (_ | _ | _) <;> rfl
  exact congrArg (fun c => (p.onPort i (Port.freeBuffer b)).raise .frameBroken
    (brokenDetail i p.ports[i].buffers[b].tag c)) (code _)

/-- A port that does not receive discards all three (R19). -/
theorem Part.not_receiving {i : Fin 4} {p : Part} (h : p.receiving i = false) :
    p.takeFrameStart i = p ∧ p.takeFrameEnd i = p ∧ ∀ samples, p.takeLine i samples = p := by
  simp only [Part.takeFrameStart, Part.takeFrameEnd, Part.takeLine, h, Bool.false_eq_true, if_false, implies_true,
    and_self]

/-! ### The obligation -/

/-- Settles O43: by whether the port receives, whether a frame is FILLING, and which buffer the new one takes. -/
theorem frameReception : Obligations.FrameReception := by
  unfold Obligations.FrameReception
  refine fun s i hr => ⟨fun off => ?_, fun on none => ?_, fun b on filling only => ?_⟩
  · have deaf : s.receiving i = false := by
      rw [Bool.eq_false_iff]
      exact fun h => off ((s.receiving_spec i).1 h)
    obtain ⟨start, frameEnd, line⟩ := Part.not_receiving deaf
    exact ⟨State.act_same start, State.act_same frameEnd, fun samples => State.act_same (line samples)⟩
  · have receives := (s.receiving_spec i).2 on
    have found := Port.filling?_eq_none none
    refine ⟨fun b free lowest => ?_, fun b rest full ready => ?_, State.act_same (Part.takeFrameEnd_none found),
      fun samples => State.act_same (Part.takeLine_none found samples)⟩
    · rw [exec_frameStart, State.act_apply _ _ hr, Part.takeFrameStart_begins receives found,
        Part.onPort_congr (Port.beginFrame_free (Port.free?_eq_some free lowest) _)]
      rfl
    · rw [exec_frameStart, State.act_apply _ _ hr, Part.takeFrameStart_begins receives found,
        Part.onPort_congr (g := fun q => { q with ready := rest }.onBuffer b (FrameBuffer.begin s.pace.trigger))
          (Port.beginFrame_ready (Port.free?_eq_none full) ready _)]
      rfl
  · have receives := (s.receiving_spec i).2 on
    have found := Port.filling?_eq_some filling only
    refine ⟨fun c free lowest => ?starts, fun samples short => ?line, fun samples full => ?extra,
      fun whole full => ?good, fun bad => ?broken⟩
    case starts =>
      have begins : (Port.beginFrame s.pace.trigger ∘ Port.freeBuffer b) s.ports[i]
          = (s.ports[i].freeBuffer b).onBuffer c (FrameBuffer.begin s.pace.trigger) :=
        Port.beginFrame_free (Port.free?_eq_some free lowest) _
      rw [exec_frameStart, State.act_apply _ _ hr, Part.takeFrameStart_abandons receives found,
        Part.onPort_congr (g := fun q => (q.freeBuffer b).onBuffer c (FrameBuffer.begin s.pace.trigger)) begins]
      rfl
    case line =>
      rw [exec_linePacket, State.act_apply _ _ hr, Part.takeLine_filling receives found]
      refine congrArg (fun p : Part => Host.Outcome.next { s with toPart := p })
        (Part.onBuffer_congr ?_)
      exact FrameBuffer.takeLine_stores short samples
    case extra =>
      rw [exec_linePacket, State.act_apply _ _ hr, Part.takeLine_filling receives found]
      refine congrArg (fun p : Part => Host.Outcome.next { s with toPart := p })
        (Part.onBuffer_congr ?_)
      exact FrameBuffer.takeLine_extra full samples
    case good =>
      refine ⟨?_, State.gathered_tested _⟩
      rw [exec_frameEnd, State.act_apply _ _ hr, Part.takeFrameEnd_filling receives found,
        if_pos ((FrameBuffer.good_iff _).2 ⟨whole, full⟩), Part.goodFrameEnd_eq on.2]
      split <;> rfl
    case broken =>
      have bad : s.ports[i].buffers[b].good = false := by
        rw [Bool.eq_false_iff, ne_eq, FrameBuffer.good_iff]
        exact fun ⟨whole, full⟩ => bad.elim (· whole) (· full)
      rw [exec_frameEnd, State.act_apply _ _ hr, Part.takeFrameEnd_filling receives found, bad, Part.brokenFrameEnd_eq]
      rfl

end Sys2Proof.Machine
end

section
/-! PROOF. The requests to the calibration store (R128 to R136): the checks they share, the step they issue on a free
flash, and the obligations of STORE_OPEN, STORE_DATA, STORE_CLOSE, STORE_ABORT, STORE_LOCK and STORE_RETIRE. -/

namespace Sys2Proof.Machine

/-! ### A step issued on a free flash (R125, R126) -/

theorem Store.flashFree_of {t : Store} (nobody : t.holder = .nobody) (line : t.line = []) : t.flashFree = true :=
  t.flashFree_iff.2 ⟨nobody, line⟩

/-- With no RESET accepted and the flash free, a step runs at once. -/
theorem Part.issueStep_now {p : Part} (clear : p.link.resetWait = .clear) (nobody : p.store.holder = .nobody)
    (line : p.store.line = []) (k : StepKind) :
    p.issueStep k = { p with store := { p.store with
      holder := .store, step := some { kind := k, phase := .running (p.now + k.ticks) } } } := by
  simp only [Part.issueStep, if_pos clear, Store.flashFree_of nobody line, if_true]

/-! ### The checks of STORE_OPEN, STORE_LOCK and STORE_RETIRE, in their order (R128) -/

theorem SetEntry.locked_iff (e : SetEntry) : e.locked = true ↔ e.lockMark ≠ .blank := by simp [SetEntry.locked]

theorem Store.engaged_iff (t : Store) : t.engaged = true ↔ t.session ≠ none ∨ t.step ≠ none := by
  simp [Store.engaged, Option.isSome_iff_ne_none]

section Checks

variable {p : Part} {k : Fin 8}

theorem Part.writeCheck_scanning (h : p.store.scanning = true) : p.writeCheck k = some 0x02 := by
  simp only [Part.writeCheck, h, if_true]
  rfl

theorem Part.writeCheck_parked (h1 : p.store.scanning = false) (h : p.power.state = .parked) :
    p.writeCheck k = some 0x03 := by
  simp only [Part.writeCheck, h1, h, Bool.false_eq_true, if_false, if_true]
  rfl

theorem Part.writeCheck_disabled (h1 : p.store.scanning = false) (h2 : p.power.state ≠ .parked)
    (h : p.store.calDebounced = false) : p.writeCheck k = some 0x09 := by
  simp only [Part.writeCheck, h1, if_neg h2, h, Bool.false_eq_true, if_false, if_true]
  rfl

theorem Part.writeCheck_engaged (h1 : p.store.scanning = false) (h2 : p.power.state ≠ .parked)
    (h3 : p.store.calDebounced = true) (h : p.store.session ≠ none ∨ p.store.step ≠ none) :
    p.writeCheck k = some 0x02 := by
  simp only [Part.writeCheck, h1, if_neg h2, h3, p.store.engaged_iff.2 h, Bool.false_eq_true, Bool.true_eq_false,
    if_false, if_true]
  rfl

theorem Part.writeCheck_locked (h1 : p.store.scanning = false) (h2 : p.power.state ≠ .parked)
    (h3 : p.store.calDebounced = true) (h4 : p.store.session = none) (h5 : p.store.step = none)
    (h : p.store.directory[k].lockMark ≠ .blank) : p.writeCheck k = some 0x08 := by
  have free : p.store.engaged = false := by simp [Store.engaged, h4, h5]
  simp only [Part.writeCheck, h1, if_neg h2, h3, free, (SetEntry.locked_iff _).2 h, Bool.false_eq_true,
    Bool.true_eq_false, if_false, if_true]
  rfl

theorem Part.writeCheck_passes (h1 : p.store.scanning = false) (h2 : p.power.state ≠ .parked)
    (h3 : p.store.calDebounced = true) (h4 : p.store.session = none) (h5 : p.store.step = none)
    (h6 : p.store.directory[k].lockMark = .blank) : p.writeCheck k = none :=
  (p.writeCheck_none_iff k).2 ⟨h1, h2, h3, h4, h5, by
    rw [SetEntry.locked, h6]
    rfl⟩

end Checks

/-! ### STORE_OPEN (R128, R129) -/

theorem exec_storeOpen (tag set : Byte) (s : State) :
    exec (.storeOpen tag set) s = s.act (Part.answer 0x38 tag (doStoreOpen set)) := rfl

theorem doStoreOpen_refused {p : Part} {k : Fin 8} {st : Byte} (h : p.writeCheck k = some st) :
    doStoreOpen (BitVec.ofNat 8 k.val) p = ([st], p) := by
  simp only [doStoreOpen, set?_ofNat, h]
  rfl

theorem doStoreOpen_inUse {p : Part} {k : Fin 8} (h : p.writeCheck k = none) (used : p.loader.inUse k = true) :
    doStoreOpen (BitVec.ofNat 8 k.val) p = ([0x0A], p) := by
  simp only [doStoreOpen, set?_ofNat, h, used, if_true]
  rfl

theorem doStoreOpen_opens {p : Part} {k : Fin 8} (h : p.writeCheck k = none) (unused : p.loader.inUse k = false) :
    doStoreOpen (BitVec.ofNat 8 k.val) p = ([0x00], p.openSession k) := by
  simp only [doStoreOpen, set?_ofNat, h, unused, Bool.false_eq_true, if_false]
  rfl

/-- The part with a session open on set `k`, before its first erase is issued. -/
def Part.sessionBegun (k : Fin 8) (p : Part) : Part :=
  { p with
    store := { p.store with session := some (.start k), staging := [] }
    loader := { p.loader with damaged := p.loader.damaged.set k false } }

theorem Part.openSession_eq (k : Fin 8) (p : Part) :
    p.openSession k = (p.sessionBegun k).issueStep (.erase (sectorOf k 0)) := rfl

/-- Settles O31: the checks in their order, and then the session with its first erase. -/
theorem storeOpen : Obligations.StoreOpen := by
  unfold Obligations.StoreOpen
  have refused : ∀ {s : State} {tag : Byte} {k : Fin 8} {st : Byte}, s.Takes 0x38 →
      (s.awake 0x38).toPart.writeCheck k = some st →
      exec (.storeOpen tag (BitVec.ofNat 8 k.val)) s = .next ((s.awake 0x38).replied 0xB8 tag [st]) :=
    fun hs h => State.act_refused _ _ _ _ _ _ hs rfl (doStoreOpen_refused h)
  refine fun s tag k hs => ⟨fun h => refused hs (Part.writeCheck_scanning h),
    fun h1 h => refused hs (Part.writeCheck_parked h1 h), fun h1 h2 => ⟨fun h => refused hs (Part.writeCheck_disabled h1 h2 h),
      fun h3 h => refused hs (Part.writeCheck_engaged h1 h2 h3 h), fun h3 h4 h5 =>
        ⟨fun h => refused hs (Part.writeCheck_locked h1 h2 h3 h4 h5 h), fun h6 used => ?_, fun h6 unused clear nobody line q hq => ?_⟩⟩⟩
  · exact State.act_refused _ _ _ _ _ _ hs rfl (doStoreOpen_inUse (Part.writeCheck_passes h1 h2 h3 h4 h5 h6) used)
  · have sector : q = sectorOf k 0 := Fin.ext (by simp only [sectorOf]; omega)
    rw [exec_storeOpen, State.act_effect _ _ _ _ _ _ _ hs rfl
      (doStoreOpen_opens (Part.writeCheck_passes h1 h2 h3 h4 h5 h6) unused), sector,
      Part.openSession_eq, Part.issueStep_now (p := (s.awake 0x38).toPart.sessionBegun k) clear nobody line]
    rfl

/-! ### STORE_LOCK and STORE_RETIRE (R135, R136) -/

theorem exec_storeLock (tag set : Byte) (s : State) :
    exec (.storeLock tag set) s = s.act (Part.answer 0x3C tag (doStoreLock set)) := rfl

theorem exec_storeRetire (tag set : Byte) (s : State) :
    exec (.storeRetire tag set) s = s.act (Part.answer 0x3D tag (doStoreRetire set)) := rfl

section Marks

variable {p : Part} {k : Fin 8}

theorem doStoreLock_refused {st : Byte} (h : p.writeCheck k = some st) :
    doStoreLock (BitVec.ofNat 8 k.val) p = ([st], p) := by
  simp only [doStoreLock, set?_ofNat, h]
  rfl

theorem doStoreLock_incomplete (h : p.writeCheck k = none) (hk : p.store.setState k ≠ .complete) :
    doStoreLock (BitVec.ofNat 8 k.val) p = ([0x03], p) := by
  simp only [doStoreLock, set?_ofNat, h, if_neg hk]
  rfl

theorem doStoreLock_marks (h : p.writeCheck k = none) (hk : p.store.setState k = .complete) :
    doStoreLock (BitVec.ofNat 8 k.val) p = ([0x00], p.issueStep (.lockMark k)) := by
  simp only [doStoreLock, set?_ofNat, h, if_pos hk]
  rfl

theorem doStoreRetire_refused {st : Byte} (h : p.writeCheck k = some st) :
    doStoreRetire (BitVec.ofNat 8 k.val) p = ([st], p) := by
  simp only [doStoreRetire, set?_ofNat, h]
  rfl

theorem doStoreRetire_inUse (h : p.writeCheck k = none) (used : p.loader.inUse k = true) :
    doStoreRetire (BitVec.ofNat 8 k.val) p = ([0x0A], p) := by
  simp only [doStoreRetire, set?_ofNat, h, used, if_true]
  rfl

theorem doStoreRetire_marks (h : p.writeCheck k = none) (unused : p.loader.inUse k = false)
    (blank : p.store.directory[k].retireMark = .blank) :
    doStoreRetire (BitVec.ofNat 8 k.val) p = ([0x00], p.issueStep (.retireMark k)) := by
  simp only [doStoreRetire, set?_ofNat, h, unused, blank, Bool.false_eq_true, if_false]
  rfl

theorem doStoreRetire_retired (h : p.writeCheck k = none) (unused : p.loader.inUse k = false)
    (set : p.store.directory[k].retireMark = .set) : doStoreRetire (BitVec.ofNat 8 k.val) p = ([0x00], p) := by
  simp only [doStoreRetire, set?_ofNat, h, unused, set, Bool.false_eq_true, if_false]
  rfl

theorem doStoreRetire_torn (h : p.writeCheck k = none) (unused : p.loader.inUse k = false)
    (torn : p.store.directory[k].retireMark = .torn) : doStoreRetire (BitVec.ofNat 8 k.val) p = ([0x03], p) := by
  simp only [doStoreRetire, set?_ofNat, h, unused, torn, Bool.false_eq_true, if_false]
  rfl

end Marks

/-- Settles O34: the two requests share their checks, and each then asks for its mark. -/
theorem storeLockAndRetire : Obligations.StoreLockAndRetire := by
  unfold Obligations.StoreLockAndRetire
  rintro s tag kind k (rfl | rfl) hs
  · refine ⟨fun ⟨h1, h2, h3, h4, h5⟩ h => ?_, fun ⟨h1, h2, h3, h4, h5⟩ h6 =>
      ⟨fun _ incomplete => ?_, fun e => absurd e (by decide), fun e => absurd e (by decide), fun e => absurd e (by decide),
        fun marks clear nobody line => ?_⟩⟩
    · exact State.act_refused _ _ _ _ _ _ hs rfl (doStoreLock_refused (Part.writeCheck_locked h1 h2 h3 h4 h5 h))
    · exact State.act_refused _ _ _ _ _ _ hs rfl
        (doStoreLock_incomplete (Part.writeCheck_passes h1 h2 h3 h4 h5 h6) incomplete)
    · obtain ⟨_, complete⟩ | ⟨e, _⟩ := marks
      · rw [if_pos rfl, exec_storeLock, State.act_effect _ _ _ _ _ _ _ hs rfl
          (doStoreLock_marks (Part.writeCheck_passes h1 h2 h3 h4 h5 h6) complete), Part.issueStep_now clear nobody line]
        rfl
      · exact absurd e (by decide)
  · refine ⟨fun ⟨h1, h2, h3, h4, h5⟩ h => ?_, fun ⟨h1, h2, h3, h4, h5⟩ h6 =>
      ⟨fun e => absurd e (by decide), fun _ used => ?_, fun _ unused set => ?_, fun _ unused torn => ?_,
        fun marks clear nobody line => ?_⟩⟩
    · exact State.act_refused _ _ _ _ _ _ hs rfl (doStoreRetire_refused (Part.writeCheck_locked h1 h2 h3 h4 h5 h))
    · exact State.act_refused _ _ _ _ _ _ hs rfl
        (doStoreRetire_inUse (Part.writeCheck_passes h1 h2 h3 h4 h5 h6) used)
    · exact State.act_refused _ _ _ _ _ _ hs rfl
        (doStoreRetire_retired (Part.writeCheck_passes h1 h2 h3 h4 h5 h6) unused set)
    · exact State.act_refused _ _ _ _ _ _ hs rfl
        (doStoreRetire_torn (Part.writeCheck_passes h1 h2 h3 h4 h5 h6) unused torn)
    · obtain ⟨e, _⟩ | ⟨_, unused, blank⟩ := marks
      · exact absurd e (by decide)
      · rw [if_neg (by decide), exec_storeRetire, State.act_effect _ _ _ _ _ _ _ hs rfl
          (doStoreRetire_marks (Part.writeCheck_passes h1 h2 h3 h4 h5 h6) unused blank),
          Part.issueStep_now clear nobody line]
        rfl

/-! ### STORE_DATA (R130, R131) -/

theorem exec_storeData (tag : Byte) (first : Half) (rs : List TileRecord) (s : State) :
    exec (.storeData tag first rs) s = s.act (Part.answer 0x39 tag (doStoreData first rs)) := rfl

section Data

variable {p : Part} {first : Half} {rs : List TileRecord} {x : Session}

theorem Store.nextIndex_open {t : Store} (h : t.session = some x) : t.nextIndex = x.nextIndex := by
  simp only [Store.nextIndex, h]
  rfl

theorem Store.nextIndex_closed {t : Store} (h : t.session = none) : t.nextIndex = 0 := by
  simp only [Store.nextIndex, h]
  rfl

theorem doStoreData_badCounts (h : ¬ (1 ≤ rs.length ∧ rs.length ≤ 6 ∧ first.toNat + rs.length ≤ 560)) :
    doStoreData first rs p = (0x04 :: le16 p.store.nextIndex, p) := by
  have bad : rs.length < 1 ∨ 6 < rs.length ∨ 560 < first.toNat + rs.length := by omega
  simp only [doStoreData, if_pos bad]
  rfl

/-- With the counts in range STORE_DATA goes on to the store's own checks. -/
theorem doStoreData_counts (h : 1 ≤ rs.length ∧ rs.length ≤ 6 ∧ first.toNat + rs.length ≤ 560) :
    doStoreData first rs p
      = if p.store.scanning then withNext 0x02 p
        else match p.store.session with
          | none => withNext 0x03 p
          | some x =>
            if x.phase ≠ .receiving then withNext 0x02 p
            else if first.toNat ≠ x.nextIndex then withNext 0x06 p
            else if rs.all TileRecord.wellFormed = false then withNext 0x05 p
            else if 512 < p.store.staging.length + 40 * rs.length then withNext 0x02 p
            else withNext 0x00 (p.stage x rs).advance := by
  have good : ¬ (rs.length < 1 ∨ 6 < rs.length ∨ 560 < first.toNat + rs.length) := by omega
  simp only [doStoreData, if_neg good]
  rfl

/-- In RECEIVING at the next index STORE_DATA checks the records and their room. -/
theorem doStoreData_inOrder (h : 1 ≤ rs.length ∧ rs.length ≤ 6 ∧ first.toNat + rs.length ≤ 560)
    (free : p.store.scanning = false) (session : p.store.session = some x) (phase : x.phase = .receiving)
    (order : first.toNat = x.nextIndex) :
    doStoreData first rs p
      = if rs.all TileRecord.wellFormed = false then withNext 0x05 p
        else if 512 < p.store.staging.length + 40 * rs.length then withNext 0x02 p
        else withNext 0x00 (p.stage x rs).advance := by
  simp only [doStoreData_counts h, free, session, phase, order, Bool.false_eq_true, if_false, ne_eq, not_true_eq_false]

/-- The staged bytes of a part that took records. -/
theorem Part.stage_length (x : Session) (rs : List TileRecord) (p : Part) :
    (p.stage x rs).store.staging.length = p.store.staging.length + 40 * rs.length := by
  simp only [Part.stage, List.length_append, length_recordsToBytes]

/-- In RECEIVING with fewer than 256 bytes held the store has nothing to issue. -/
theorem Part.advance_waits (session : p.store.session = some x) (phase : x.phase = .receiving)
    (short : p.store.staging.length < 256) : p.advance = p := by
  unfold Part.advance
  split
  · next y _ e =>
    obtain rfl : x = y := Option.some.inj (session.symm.trans e)
    simp only [phase, if_neg (Nat.not_le.2 short)]
  · rfl

/-- In RECEIVING with a full row held and no step in hand the store issues the row's program. -/
theorem Part.advance_row (session : p.store.session = some x) (phase : x.phase = .receiving)
    (full : 256 ≤ p.store.staging.length) (step : p.store.step = none) :
    p.advance = p.issueStep (.recordRow x.set x.nextRow) := by
  simp only [Part.advance, step, session, phase, if_pos full]

/-- In CLOSING with bytes held and no step in hand the store issues the program of the last row. -/
theorem Part.advance_lastRow (session : p.store.session = some x) (phase : x.phase = .closing)
    (held : p.store.staging ≠ []) (step : p.store.step = none) :
    p.advance = p.issueStep (.recordRow x.set x.nextRow) := by
  simp only [Part.advance, step, session, phase, if_neg held]

end Data

/-- Settles O32: the checks in their order, and then the records staged, with a row's program behind them if one is
full. -/
theorem storeData : Obligations.StoreData := by
  unfold Obligations.StoreData
  refine fun s tag first rs hs => ⟨fun bad => ?badCounts, fun good scanning => ?scanning, fun good free closed => ?closed,
    fun x good free session => ⟨fun phase => ?phase, fun phase order => ?order, fun phase order =>
      ⟨fun ill => ?illFormed, fun well tight => ?noRoom, fun well short => ?staged, fun well full room step nobody line clear =>
        ?rowIssued⟩⟩⟩
  case badCounts =>
    exact State.act_refused _ _ _ _ _ _ hs rfl (doStoreData_badCounts bad)
  case scanning =>
    refine State.act_refused _ _ _ _ _ _ hs rfl ?_
    rw [doStoreData_counts good, if_pos scanning]
    rfl
  case closed =>
    refine State.act_refused _ _ _ _ _ _ hs rfl ?_
    simp only [doStoreData_counts good, free, closed, Bool.false_eq_true, if_false, withNext, Store.nextIndex_closed closed]
    rfl
  case phase =>
    refine State.act_refused _ _ _ _ _ _ hs rfl ?_
    simp only [doStoreData_counts good, free, session, if_pos phase, Bool.false_eq_true, if_false, withNext,
      Store.nextIndex_open session]
    rfl
  case order =>
    refine State.act_refused _ _ _ _ _ _ hs rfl ?_
    simp only [doStoreData_counts good, free, session, phase, if_pos order, Bool.false_eq_true, if_false, ne_eq,
      not_true_eq_false, withNext, Store.nextIndex_open session]
    rfl
  case illFormed =>
    have ill : rs.all TileRecord.wellFormed = false := by simpa using ill
    refine State.act_refused _ _ _ _ _ _ hs rfl ?_
    rw [doStoreData_inOrder good free session phase order, if_pos ill]
    rfl
  all_goals
    have well : rs.all TileRecord.wellFormed = true := List.all_eq_true.2 well
    have effect := doStoreData_inOrder (p := (s.awake 0x39).toPart) good free session phase order
    rw [well, if_neg (by decide)] at effect
  case noRoom =>
    rw [if_pos tight] at effect
    exact State.act_refused _ _ _ _ _ _ hs rfl effect
  case staged =>
    have quiet : ((s.awake 0x39).toPart.stage x rs).advance = (s.awake 0x39).toPart.stage x rs :=
      Part.advance_waits (p := (s.awake 0x39).toPart.stage x rs) rfl phase (by rw [Part.stage_length]; exact short)
    rw [if_neg (by omega), quiet] at effect
    exact State.act_effect _ _ _ _ _ _ _ hs rfl effect
  case rowIssued =>
    have row :=
      Part.advance_row (p := (s.awake 0x39).toPart.stage x rs) rfl phase (by rw [Part.stage_length]; exact full) step
    have issued := Part.issueStep_now (p := (s.awake 0x39).toPart.stage x rs) clear nobody line (.recordRow x.set x.nextRow)
    rw [if_neg (by omega), row, issued] at effect
    exact State.act_effect _ _ _ _ _ _ _ hs rfl effect

/-! ### STORE_CLOSE and STORE_ABORT (R132, R133) -/

theorem exec_storeClose (tag : Byte) (s : State) :
    exec (.storeClose tag) s = s.act (Part.answer 0x3A tag doStoreClose) := rfl

section Closing

variable {p : Part} {x : Session}

/-- The part with its session in CLOSING. -/
def Part.closing (x : Session) (p : Part) : Part :=
  { p with store := { p.store with session := some { x with phase := .closing } } }

theorem doStoreClose_scanning (h : p.store.scanning = true) : doStoreClose p = withNext 0x02 p := by
  simp only [doStoreClose, h, if_true]
  rfl

theorem doStoreClose_closed (free : p.store.scanning = false) (h : p.store.session = none) :
    doStoreClose p = ([0x03, 0x00, 0x00], p) := by
  simp only [doStoreClose, free, h, Bool.false_eq_true, if_false, withNext, Store.nextIndex_closed h]
  rfl

theorem doStoreClose_open (free : p.store.scanning = false) (h : p.store.session = some x) :
    doStoreClose p
      = if x.phase ≠ .receiving then (0x02 :: le16 x.nextIndex, p)
        else if x.nextIndex < 560 then (0x07 :: le16 x.nextIndex, p)
        else withNext 0x00 (p.closing x).advance := by
  simp only [doStoreClose, free, h, Bool.false_eq_true, if_false, withNext, Store.nextIndex_open h]
  rfl

end Closing

section Aborting

variable {p : Part} {x : Session}

/-- What an abort leaves staged: the bytes of a running record row, and nothing otherwise. -/
theorem Store.rowRunning_iff (t : Store) :
    t.rowRunning = true ↔ ∃ s r due, t.step = some { kind := .recordRow s r, phase := .running due } := by
  unfold Store.rowRunning
  split
  · next s r due e => exact iff_of_true rfl ⟨s, r, due, e⟩
  · next e => exact iff_of_false (by decide) fun ⟨s, r, due, h⟩ => e s r due h

theorem Part.abortSession_closed (cause : AbortCause) (h : p.store.session = none) : p.abortSession cause = p := by
  simp only [Part.abortSession, h]

/-- An abort with no step running is reported at once, a pending step withdrawn. -/
theorem Part.abortSession_quiet (cause : AbortCause) (session : p.store.session = some x)
    (quiet : p.store.stepRunning = false) :
    p.abortSession cause
      = { p with store := { p.store.withdrawStep with session := none, staging := [] } }.raiseAborted
          { set := x.set, cause := cause, nextIndex := x.nextIndex } := by
  have noRow : p.store.rowRunning = false := by
    rw [Bool.eq_false_iff, ne_eq, Store.rowRunning_iff]
    rintro ⟨s, r, due, e⟩
    simp [Store.stepRunning, e] at quiet
  simp only [Part.abortSession, session, quiet, noRow, Bool.false_eq_true, if_false]

/-- An abort with a step running leaves it as the trailing step. -/
theorem Part.abortSession_running (cause : AbortCause) (session : p.store.session = some x) {k : StepKind} {due : Nat}
    (step : p.store.step = some { kind := k, phase := .running due }) :
    p.abortSession cause
      = { p with store := { p.store with
          session := none, staging := if p.store.rowRunning then p.store.staging.take 256 else []
          trailing := some { set := x.set, cause := cause, nextIndex := x.nextIndex } } } := by
  have running : p.store.stepRunning = true := by simp only [Store.stepRunning, step]
  have kept : p.store.withdrawStep = p.store := Store.withdrawStep_same fun j e => by simp [step] at e
  simp only [Part.abortSession, session, running, kept, if_true]

/-- The two possible remainders of the staging buffer. -/
theorem Store.rowRunning_of_row {t : Store} {s : Fin 8} {r due : Nat}
    (h : t.step = some { kind := .recordRow s r, phase := .running due }) : t.rowRunning = true :=
  t.rowRunning_iff.2 ⟨s, r, due, h⟩

theorem Store.rowRunning_of_other {t : Store} {k : StepKind} {phase : StepPhase}
    (h : t.step = some { kind := k, phase := phase }) (other : ∀ s r, k ≠ .recordRow s r) : t.rowRunning = false := by
  rw [Bool.eq_false_iff, ne_eq, Store.rowRunning_iff]
  rintro ⟨s, r, due, e⟩
  rw [h] at e
  cases e
  exact other s r rfl

end Aborting

/-- Settles O33: STORE_CLOSE by the session it finds, STORE_ABORT by the session and the step. -/
theorem storeCloseAndAbort : Obligations.StoreCloseAndAbort := by
  unfold Obligations.StoreCloseAndAbort
  refine ⟨fun s tag x hs free session => ?_, fun s tag hs => ⟨fun scanning => ?_, fun free closed => ?_⟩, fun s tag hs => ?_⟩
  · have effect := doStoreClose_open (p := (s.awake 0x3A).toPart) free session
    refine ⟨fun phase => ?busy, fun phase early => ?early, fun phase whole held step nobody line clear => ?closes⟩
    case busy =>
      exact State.act_refused _ _ _ _ _ _ hs rfl (effect.trans (if_pos phase))
    case early =>
      rw [if_neg (Classical.not_not.2 phase), if_pos early] at effect
      exact State.act_refused _ _ _ _ _ _ hs rfl effect
    case closes =>
      have row := Part.advance_lastRow (p := (s.awake 0x3A).toPart.closing x) rfl rfl held step
      rw [if_neg (Classical.not_not.2 phase), if_neg (by omega), row,
        Part.issueStep_now (p := (s.awake 0x3A).toPart.closing x) clear nobody line] at effect
      rw [exec_storeClose, State.act_effect _ _ _ _ _ _ _ hs rfl effect]
      have next : (0x00 : Byte) :: le16 x.nextIndex = [0x00, 0x30, 0x02] := by
        rw [whole]
        rfl
      exact congrArg Host.Outcome.next (congrArg (fun body => State.replied 0xBA tag body _) next)
  · exact ⟨_, rfl, State.act_refused _ _ _ _ _ _ hs rfl (doStoreClose_scanning scanning)⟩
  · exact State.act_refused _ _ _ _ _ _ hs rfl (doStoreClose_closed free closed)
  · have aborts : ∀ {q : Part}, (s.awake 0x3B).toPart.abortSession .request = q →
        exec (.storeAbort tag) s = .next ({ (s.awake 0x3B) with toPart := q }.replied 0xBB tag [0x00]) := by
      rintro q rfl
      exact State.act_effect _ _ _ _ _ _ _ hs rfl rfl
    refine ⟨fun closed => ?closed, fun x session none => ?none, fun x q due session step => ?erase,
      fun x kind session step => ?pending, fun x kind due session step => ?running⟩
    case closed =>
      exact aborts (Part.abortSession_closed _ closed)
    case none =>
      have kept : (s.awake 0x3B).store.withdrawStep = (s.awake 0x3B).store :=
        Store.withdrawStep_same fun j e => nomatch none.symm.trans e
      rw [aborts (Part.abortSession_quiet _ session (by simp only [Store.stepRunning, none])), kept]
      rfl
    case erase =>
      rw [aborts (Part.abortSession_running _ session step), Store.rowRunning_of_other step (by simp)]
      rfl
    case pending =>
      rw [aborts (Part.abortSession_quiet _ session (by simp only [Store.stepRunning, step])),
        Store.withdrawStep_pending step]
      rfl
    case running =>
      refine ⟨_, ?_, ?_, aborts (Part.abortSession_running _ session step)⟩
      · rintro ⟨k, row, rfl⟩
        rw [Store.rowRunning_of_row step, if_pos rfl]
      · intro other
        rw [Store.rowRunning_of_other step other, if_neg (by decide)]

end Sys2Proof.Machine
end

section
/-! PROOF. A request for a set, case by case (R110, R111), SELECT_SET (R118), and what a request of the height monitor
for a set changes. -/

namespace Sys2Proof.Machine

/-! ### The loader's operations on a request (R110, R111) -/

section Loading

variable {p : Part} {k : Fin 8}

theorem Part.dropLoad_waiting {j : Fin 8} (h : p.loader.state = .waitingStore j) :
    p.dropLoad = { p with store := p.store.withdrawLoader, loader := p.loader.cleared } := by
  simp only [Part.dropLoad, h]

theorem Part.dropLoad_loading {j : Fin 8} {start : Nat} {marks : Bool} (h : p.loader.state = .loading j start marks)
    (holds : p.store.holder = .loader) :
    p.dropLoad = { p with store := { p.store with holder := .nobody }, loader := p.loader.cleared } := by
  simp only [Part.dropLoad, h, Store.releaseLoader, if_pos holds]

theorem Part.dropLoad_staged {j : Fin 8} (h : p.loader.state = .staged j) :
    p.dropLoad = { p with loader := p.loader.cleared } := by
  simp only [Part.dropLoad, h]

theorem Part.dropLoad_idle (h : p.loader.state = .idle) : p.dropLoad = { p with loader := p.loader.cleared } := by
  simp only [Part.dropLoad, h]

/-- An IDLE loader without a standby table holds nothing to drop. -/
theorem Part.dropLoad_nothing (h : p.loader.state = .idle) (standby : p.loader.standby = .empty) : p.dropLoad = p := by
  have same : p.loader.cleared = p.loader := by
    rw [Loader.cleared, ← h, ← standby]
  rw [Part.dropLoad_idle h, same]

theorem Part.askLoad_free (nobody : p.store.holder = .nobody) (line : p.store.line = []) :
    p.askLoad k = p.beginLoad k := by
  simp only [Part.askLoad, Store.flashFree_of nobody line, if_true]

theorem Part.askLoad_busy (h : p.store.holder ≠ .nobody ∨ p.store.line ≠ []) :
    p.askLoad k = { p with
      store := { p.store with line := p.store.line ++ [FlashUser.loader] }
      loader := { p.loader with state := .waitingStore k } } := by
  have taken : ¬ p.store.flashFree = true := fun free =>
    h.elim (· (p.store.flashFree_iff.1 free).1) (· (p.store.flashFree_iff.1 free).2)
  simp only [Part.askLoad, if_neg taken]

theorem Part.requestSet_active (h : p.loader.activeSet = some k) : p.requestSet k = p.dropLoad := by
  simp only [Part.requestSet, if_pos h]

theorem Part.requestSet_inHand (inactive : p.loader.activeSet ≠ some k) (h : p.loader.state.set? = some k) :
    p.requestSet k = p := by
  simp only [Part.requestSet, if_neg inactive, if_pos h]

/-- A request for a usable set that is neither active nor in hand drops what the loader holds and asks for the flash. -/
theorem Part.requestSet_asks (inactive : p.loader.activeSet ≠ some k) (other : p.loader.state.set? ≠ some k)
    (sound : p.loader.damaged[k] = false) (apart : p.store.sessionOn k = false) :
    p.requestSet k = p.dropLoad.askLoad k := by
  have damaged : p.dropLoad.loader.damaged[k] = false := sound
  have session : p.dropLoad.store.sessionOn k = false := (p.dropLoad_sessionOn k).trans apart
  simp only [Part.requestSet, if_neg inactive, if_neg other, damaged, session, Bool.false_eq_true, if_false]

end Loading

/-! ### What a request for a set can change -/

/-- `q` is `p` but for the link, the loader and its place in the arbiter. -/
def Part.LoaderMoved (p q : Part) : Prop :=
  ∃ link loader holder line,
    q = { p with link := link, loader := loader, store := { p.store with holder := holder, line := line } }

theorem Part.LoaderMoved.refl (p : Part) : p.LoaderMoved p := ⟨_, _, _, _, rfl⟩

theorem Part.LoaderMoved.trans {p q r : Part} (h : p.LoaderMoved q) (g : q.LoaderMoved r) : p.LoaderMoved r := by
  obtain ⟨_, _, _, _, rfl⟩ := h
  obtain ⟨_, _, _, _, rfl⟩ := g
  exact ⟨_, _, _, _, rfl⟩

theorem Part.raise_loaderMoved (k : EventKind) (d : List Byte) (p : Part) : p.LoaderMoved (p.raise k d) :=
  ⟨_, _, _, _, rfl⟩

theorem Part.dropLoad_loaderMoved (p : Part) : p.LoaderMoved p.dropLoad := by
  rcases h : p.loader.state with _ | j | ⟨j, start, marks⟩ | j
  case idle => exact ⟨_, _, _, _, Part.dropLoad_idle h⟩
  case waitingStore => exact ⟨_, _, _, _, Part.dropLoad_waiting h⟩
  case loading =>
    simp only [Part.dropLoad, h, Store.releaseLoader]
    split
    · exact ⟨_, _, _, _, rfl⟩
    · exact ⟨_, _, _, _, rfl⟩
  case staged => exact ⟨_, _, _, _, Part.dropLoad_staged h⟩

theorem Part.setUnusable_loaderMoved (k : Fin 8) (reason cause : Byte) (index : Option Nat) (p : Part) :
    p.LoaderMoved (p.setUnusable k reason cause index) := by
  show p.LoaderMoved (if _ then _ else _)
  split
  · exact (Part.raise_loaderMoved ..).trans (Part.raise_loaderMoved ..)
  · exact Part.raise_loaderMoved ..

theorem Part.askLoad_loaderMoved (k : Fin 8) (p : Part) : p.LoaderMoved (p.askLoad k) := by
  unfold Part.askLoad
  split
  · exact ⟨_, _, _, _, rfl⟩
  · exact ⟨_, _, _, _, rfl⟩

theorem Part.requestSet_loaderMoved (k : Fin 8) (p : Part) : p.LoaderMoved (p.requestSet k) := by
  simp only [Part.requestSet]
  split
  · exact p.dropLoad_loaderMoved
  · split
    · exact .refl p
    · refine p.dropLoad_loaderMoved.trans ?_
      split
      · exact Part.setUnusable_loaderMoved ..
      · split
        · exact Part.setUnusable_loaderMoved ..
        · exact Part.askLoad_loaderMoved ..

/-! ### SELECT_SET (R118) -/

section Selecting

variable {p : Part} {k : Fin 8}

theorem Part.knownUnusable_iff :
    p.knownUnusable k = true ↔
      p.store.setState k ≠ .complete ∨ p.loader.damaged[k] = true ∨ p.store.sessionOn k = true := by
  simp only [Part.knownUnusable, Bool.or_eq_true, bne_iff_ne, or_assoc]

theorem doSelectSet_auto (auto : p.height.config.auto = true) :
    doSelectSet (BitVec.ofNat 8 k.val) p = ([0x03], p) := by
  simp only [doSelectSet, set?_ofNat, auto, if_true]
  rfl

theorem doSelectSet_scanning (manual : p.height.config.auto = false) (scanning : p.store.scanning = true) :
    doSelectSet (BitVec.ofNat 8 k.val) p = ([0x02], p) := by
  simp only [doSelectSet, set?_ofNat, manual, scanning, Bool.false_eq_true, if_false, if_true]
  rfl

theorem doSelectSet_unusable (manual : p.height.config.auto = false) (free : p.store.scanning = false)
    (known : p.knownUnusable k = true) : doSelectSet (BitVec.ofNat 8 k.val) p = ([0x0C], p) := by
  simp only [doSelectSet, set?_ofNat, manual, free, known, Bool.false_eq_true, if_false, if_true]
  rfl

theorem doSelectSet_requests (manual : p.height.config.auto = false) (free : p.store.scanning = false)
    (usable : p.knownUnusable k = false) : doSelectSet (BitVec.ofNat 8 k.val) p = ([0x00], p.requestSet k) := by
  simp only [doSelectSet, set?_ofNat, manual, free, usable, Bool.false_eq_true, if_false]
  rfl

end Selecting

/-- Settles O30: the checks in their order, and then the request by what the loader holds and who holds the flash. -/
theorem selectSet : Obligations.SelectSet := by
  unfold Obligations.SelectSet
  intro s tag k hs
  have requests : (s.awake 0x31).height.config.auto = false → (s.awake 0x31).store.scanning = false →
      ¬ ((s.awake 0x31).store.setState k ≠ .complete ∨ (s.awake 0x31).loader.damaged[k] = true
        ∨ (s.awake 0x31).store.sessionOn k = true) →
      ∀ {q : Part}, (s.awake 0x31).toPart.requestSet k = q →
        exec (.selectSet tag (BitVec.ofNat 8 k.val)) s
          = .next ({ s.awake 0x31 with toPart := q }.replied 0xB1 tag [0x00]) := by
    rintro manual free usable q rfl
    exact State.act_effect _ _ _ _ _ _ _ hs rfl
      (doSelectSet_requests manual free (Bool.eq_false_iff.2 (mt Part.knownUnusable_iff.1 usable)))
  have asks : ¬ ((s.awake 0x31).store.setState k ≠ .complete ∨ (s.awake 0x31).loader.damaged[k] = true
        ∨ (s.awake 0x31).store.sessionOn k = true) →
      (s.awake 0x31).loader.activeSet ≠ some k → (s.awake 0x31).loader.state.set? ≠ some k →
      (s.awake 0x31).toPart.requestSet k = (s.awake 0x31).toPart.dropLoad.askLoad k := by
    intro usable inactive other
    obtain ⟨_, sound, apart⟩ := not_or.1 usable |>.imp_right not_or.1
    exact Part.requestSet_asks inactive other (Bool.eq_false_iff.2 sound) (Bool.eq_false_iff.2 apart)
  refine ⟨fun auto => ?auto, fun manual scanning => ?scanning, fun manual free known => ?known,
    fun manual free usable idle inactive => ⟨fun nobody line => ?loads, fun taken => ?waits⟩,
    fun j manual free usable active staged => ?drops,
    fun manual free usable => ⟨?asked, fun inactive inHand => ?inHand,
      fun j start marks inactive other loading holds => ⟨fun line => ?reloads, fun line => ?rejoins⟩,
      fun j inactive other waiting taken => ?stillWaits⟩⟩
  case auto =>
    exact State.act_refused _ _ _ _ _ _ hs rfl (doSelectSet_auto auto)
  case scanning =>
    exact State.act_refused _ _ _ _ _ _ hs rfl (doSelectSet_scanning manual scanning)
  case known =>
    exact State.act_refused _ _ _ _ _ _ hs rfl (doSelectSet_unusable manual free (Part.knownUnusable_iff.2 known))
  case loads =>
    rw [requests manual free usable (asks usable inactive (by rw [idle]; nofun)), Part.dropLoad_idle idle,
      Part.askLoad_free (by exact nobody) (by exact line)]
    rfl
  case waits =>
    rw [requests manual free usable (asks usable inactive (by rw [idle]; nofun)), Part.dropLoad_idle idle,
      Part.askLoad_busy (by exact .inl taken)]
    rfl
  case drops =>
    rw [requests manual free usable (Part.requestSet_active active), Part.dropLoad_staged staged]
    rfl
  case asked =>
    exact ⟨_, Part.requestSet_requested k (s.awake 0x31), requests manual free usable rfl⟩
  case inHand =>
    exact requests manual free usable (Part.requestSet_inHand inactive inHand)
  case reloads =>
    rw [requests manual free usable (asks usable inactive (by rw [loading]; exact fun e => other (Option.some.inj e))),
      Part.dropLoad_loading loading holds, Part.askLoad_free (by exact rfl) (by exact line), Part.beginLoad, ← holds]
    rfl
  case rejoins =>
    rw [requests manual free usable (asks usable inactive (by rw [loading]; exact fun e => other (Option.some.inj e))),
      Part.dropLoad_loading loading holds, Part.askLoad_busy (by exact .inr line)]
    rfl
  case stillWaits =>
    rw [requests manual free usable (asks usable inactive (by rw [waiting]; exact fun e => other (Option.some.inj e))),
      Part.dropLoad_waiting waiting, Part.askLoad_busy (by exact .inl taken)]
    rfl

end Sys2Proof.Machine
end

section
/-! PROOF. HEIGHT_CONFIGURE (R107, R117): the configuration that its arguments name, what putting it in force does, and
its obligation. -/

namespace Sys2Proof.Machine

theorem exec_heightConfigure (tag : Byte) (x : HeightArgs) (s : State) :
    exec (.heightConfigure tag x) s = s.act (Part.answer 0x30 tag (doHeightConfigure x)) := rfl

/-! ### The arguments (R117) -/

theorem bit?_some {b : Byte} {v : Bool} (h : bit? b = some v) : b.toNat < 2 :=
  Nat.lt_of_not_le fun large => by rw [bit?_eq_none large] at h; cases h

theorem set?_some {b : Byte} {k : Fin 8} (h : set? b = some k) : b.toNat < 8 :=
  Nat.lt_of_not_le fun large => by rw [set?, dif_neg (Nat.not_lt.2 large)] at h; cases h

/-- The values of a HEIGHT_CONFIGURE lie in their fields. -/
structure HeightFields (x : HeightArgs) (m0 m1 m2 m3 : Fin 8) : Prop where
  polarity : x.polarity.toNat < 2
  mode : x.mode.toNat < 2
  some : 1 ≤ x.bands.toNat
  most : x.bands.toNat ≤ 4
  map0 : x.map0 = BitVec.ofNat 8 m0.val
  map1 : x.map1 = BitVec.ofNat 8 m1.val
  map2 : x.map2 = BitVec.ofNat 8 m2.val
  map3 : x.map3 = BitVec.ofNat 8 m3.val

/-- The configuration that arguments in their fields name. -/
def namedConfig (x : HeightArgs) (m0 m1 m2 m3 : Fin 8) : HeightConfig :=
  { polarity := x.polarity == 1, bands := x.bands.toNat, b1 := clamp 1 999 x.b1.toNat, b2 := clamp 1 999 x.b2.toNat
    b3 := clamp 1 999 x.b3.toNat, hysteresis := min 50 x.hysteresis.toNat, map := #v[m0, m1, m2, m3]
    auto := x.mode == 0 }

/-- A request is answered OK when it changed no value, OK_CLAMPED otherwise. -/
theorem stAccepted_eq {changed : Bool} {kept : Prop} [Decidable kept] (h : changed = false ↔ kept) :
    stAccepted changed = if kept then 0x00 else 0x01 := by
  cases changed with
  | false => rw [if_pos (h.1 rfl)]; rfl
  | true => rw [if_neg fun k => Bool.noConfusion (h.2 k)]; rfl

section Fields

variable {x : HeightArgs} {m0 m1 m2 m3 : Fin 8}

/-- A mode byte below 2 is that of AUTO or of MANUAL. -/
theorem not_beq_one {b : Byte} (h : b.toNat < 2) : (!(b == 1)) = (b == 0) := by
  obtain rfl | rfl : b = 0 ∨ b = 1 := by bv_omega
  · rfl
  · rfl

theorem heightConfig?_eq (f : HeightFields x m0 m1 m2 m3) : heightConfig? x = some (namedConfig x m0 m1 m2 m3) := by
  simp only [heightConfig?, bit?_of_lt_two f.polarity, bit?_of_lt_two f.mode, f.map0, f.map1, f.map2, f.map3, set?_ofNat,
    if_pos (And.intro f.some f.most), not_beq_one f.mode, namedConfig]

/-- Arguments that name a configuration lie in their fields. -/
theorem heightConfig?_some {c : HeightConfig} (h : heightConfig? x = some c) :
    x.polarity.toNat < 2 ∧ x.mode.toNat < 2 ∧ 1 ≤ x.bands.toNat ∧ x.bands.toNat ≤ 4 ∧ x.map0.toNat < 8
      ∧ x.map1.toNat < 8 ∧ x.map2.toNat < 8 ∧ x.map3.toNat < 8 := by
  unfold heightConfig? at h
  split at h
  · next pol manual m0 m1 m2 m3 =>
    split at h
    · next bands =>
      exact ⟨bit?_some pol, bit?_some manual, bands.1, bands.2, set?_some m0, set?_some m1, set?_some m2, set?_some m3⟩
    · cases h
  · cases h

/-- The boundaries in use lie apart as R107 asks, of up to four bands. -/
theorem spaced_iff (hy b1 b2 b3 : Nat) {n : Nat} (most : n ≤ 4) :
    spaced hy ([b1, b2, b3].take (n - 1)) = true ↔
      (3 ≤ n → b1 + 2 * hy + 1 ≤ b2) ∧ (4 ≤ n → b2 + 2 * hy + 1 ≤ b3) := by
  obtain rfl | rfl | rfl | rfl | rfl : n = 0 ∨ n = 1 ∨ n = 2 ∨ n = 3 ∨ n = 4 := by omega
  all_goals simp [spaced]

/-- The reply's status tells whether all four values were kept. -/
theorem heightClamped_status (x : HeightArgs) (m0 m1 m2 m3 : Fin 8) :
    stAccepted (heightClamped x (namedConfig x m0 m1 m2 m3))
      = if clamp 1 999 x.b1.toNat = x.b1.toNat ∧ clamp 1 999 x.b2.toNat = x.b2.toNat
          ∧ clamp 1 999 x.b3.toNat = x.b3.toNat ∧ min 50 x.hysteresis.toNat = x.hysteresis.toNat then 0x00 else 0x01 := by
  refine stAccepted_eq ?_
  simp only [heightClamped, namedConfig, Bool.or_eq_false_iff, bne_eq_false_iff_eq, and_assoc]

/-- The reply carries the values in force. -/
theorem namedConfig_bytes (f : HeightFields x m0 m1 m2 m3) :
    (namedConfig x m0 m1 m2 m3).bytes
      = [x.polarity, x.bands] ++ le16 (clamp 1 999 x.b1.toNat) ++ le16 (clamp 1 999 x.b2.toNat)
        ++ le16 (clamp 1 999 x.b3.toNat)
        ++ [byte (min 50 x.hysteresis.toNat), x.map0, x.map1, x.map2, x.map3, x.mode] := by
  have mode : bit (!(x.mode == 0)) = x.mode := by rw [← not_beq_one f.mode, Bool.not_not, bit_beq_one f.mode]
  simp only [HeightConfig.bytes, namedConfig, bit_beq_one f.polarity, byte_toNat, mode, f.map0, f.map1, f.map2,
    f.map3]
  rfl

end Fields

/-! ### The configuration put in force -/

/-- The part with another height configuration. -/
def Part.heightSet (c : HeightConfig) (p : Part) : Part := { p with height := { p.height with config := c } }

/-- The layout of the bands: their count, the boundaries in use, the hysteresis. -/
def HeightConfig.layout (c : HeightConfig) : Nat × List Nat × Nat := (c.bands, c.inUse, c.hysteresis)

theorem HeightConfig.sameLayout_iff (c d : HeightConfig) : c.sameLayout d = true ↔ c.layout = d.layout := by
  simp [HeightConfig.sameLayout, HeightConfig.layout, and_assoc]

section Applying

variable {p : Part} {c : HeightConfig}

theorem Part.applyHeight_kept (polarity : p.height.config.polarity = c.polarity)
    (h : p.height.config.layout = c.layout ∨ p.height.state ≠ .tracking) :
    p.applyHeight c = (p.heightSet c).requestMapped := by
  have samePolarity : (p.height.config.polarity != c.polarity) = false := by simp [polarity]
  simp only [Part.applyHeight, samePolarity, Bool.false_eq_true, if_false]
  split
  · rfl
  · next other =>
    have still : p.height.state ≠ .tracking := h.resolve_left fun e => other ((HeightConfig.sameLayout_iff ..).2 e)
    refine congrArg Part.requestMapped ?_
    unfold Part.redecide
    split
    · next e _ => exact absurd e still
    · rfl

theorem Part.applyHeight_relaid (polarity : p.height.config.polarity = c.polarity)
    (relaid : p.height.config.layout ≠ c.layout) (tracking : p.height.state = .tracking) {mean : Nat}
    (last : p.height.lastMean = some mean) :
    p.applyHeight c = ((p.heightSet c).setBand (c.freshBand mean) mean).requestMapped := by
  have samePolarity : (p.height.config.polarity != c.polarity) = false := by simp [polarity]
  have other : ¬ p.height.config.sameLayout c = true := fun e => relaid ((HeightConfig.sameLayout_iff ..).1 e)
  simp only [Part.applyHeight, samePolarity, Bool.false_eq_true, if_false, if_neg other]
  refine congrArg Part.requestMapped ?_
  simp only [Part.redecide, tracking, last]
  simp only [Part.heightSet, ← tracking, ← last]

theorem Part.applyHeight_turned (polarity : p.height.config.polarity ≠ c.polarity) :
    p.applyHeight c
      = { p with height := { p.height with config := c }.changePolarity p.now }.requestMapped := by
  have turned : (p.height.config.polarity != c.polarity) = true := by simp [polarity]
  simp only [Part.applyHeight, turned, if_true]

end Applying

/-! ### What the configuration can change -/

theorem Part.requestMapped_loaderMoved (p : Part) : p.LoaderMoved p.requestMapped := by
  unfold Part.requestMapped
  split
  · split
    · exact Part.requestSet_loaderMoved ..
    · exact .refl p
  · exact .refl p

/-- `q` is `p` but for the height monitor, which shows the same last reading, the link, the loader and its place in the
arbiter. -/
def Part.HeightMoved (c : HeightConfig) (p q : Part) : Prop :=
  ∃ h, h.config = c ∧ h.lastReading = p.height.lastReading ∧ Part.LoaderMoved { p with height := h } q

theorem Part.setBand_spec (b : Fin 4) (mean : Nat) (p : Part) :
    ∃ link band, p.setBand b mean = { p with link := link, height := { p.height with band := band } } := by
  unfold Part.setBand
  split
  · exact ⟨_, _, rfl⟩
  · exact ⟨_, _, rfl⟩

theorem Part.setBand_same {b : Fin 4} {mean : Nat} {p : Part} (h : p.height.band = some b) : p.setBand b mean = p := by
  simp only [Part.setBand, if_pos h]

/-- A band change is told with the band before and after it and the mean. -/
theorem Part.setBand_moved {b : Fin 4} {mean : Nat} {p : Part} (h : p.height.band ≠ some b) :
    p.setBand b mean
      = { p with height := { p.height with band := some b } }.raise .bandChange
          ([(p.height.band.map fun k : Fin 4 => BitVec.ofNat 8 k.val).getD 0xFF, BitVec.ofNat 8 b.val] ++ le16 mean) := by
  have before : byteOrNone (p.height.band.map Fin.val)
      = (p.height.band.map fun k : Fin 4 => BitVec.ofNat 8 k.val).getD 0xFF := by cases p.height.band <;> rfl
  simp only [Part.setBand, if_neg h, before, byte]

theorem Part.redecide_spec (p : Part) :
    ∃ link band, p.redecide = { p with link := link, height := { p.height with band := band } } := by
  unfold Part.redecide
  split
  · exact Part.setBand_spec ..
  · exact ⟨_, _, rfl⟩

theorem Part.applyHeight_heightMoved (c : HeightConfig) (p : Part) : p.HeightMoved c (p.applyHeight c) := by
  simp only [Part.applyHeight]
  split
  · exact ⟨{ p.height with config := c }.changePolarity p.now, rfl, rfl, Part.requestMapped_loaderMoved _⟩
  · split
    · exact ⟨{ p.height with config := c }, rfl, rfl, Part.requestMapped_loaderMoved _⟩
    · obtain ⟨link, band, h⟩ := Part.redecide_spec { p with height := { p.height with config := c } }
      rw [h]
      refine ⟨{ p.height with config := c, band := band }, rfl, rfl, ?_⟩
      exact Part.LoaderMoved.trans ⟨_, _, _, _, rfl⟩ (Part.requestMapped_loaderMoved _)

/-! ### The mapped set requested (R117) -/

theorem Part.requestMapped_none {p : Part} (h : p.height.config.auto = false ∨ p.height.band = none) :
    p.requestMapped = p := by
  unfold Part.requestMapped
  split
  · next b e =>
    refine if_neg fun ⟨auto, _⟩ => h.elim (fun manual => ?_) fun none => ?_
    · rw [manual] at auto
      cases auto
    · rw [none] at e
      cases e
  · rfl

theorem Part.requestMapped_beyond {p : Part} {b : Fin 4} (h : p.height.band = some b)
    (beyond : p.height.config.bands ≤ b.val) : p.requestMapped = p := by
  simp only [Part.requestMapped, h]
  exact if_neg fun ⟨_, below⟩ => absurd below (Nat.not_lt.2 beyond)

theorem Part.requestMapped_some {p : Part} {b : Fin 4} (h : p.height.band = some b)
    (auto : p.height.config.auto = true) (below : b.val < p.height.config.bands) :
    p.requestMapped = p.requestSet p.height.config.map[b] := by
  simp only [Part.requestMapped, h]
  exact if_pos ⟨auto, below⟩

/-- The request of a mapped set, case by case as the statement spells it: `P` holds of the machine after the request. -/
theorem State.mapped_cases {P : State → Prop} {v : State} {c : HeightConfig} {mode : Byte}
    (config : v.height.config = c) (small : mode.toNat < 2) (auto : c.auto = (mode == 0))
    (h : P { v with toPart := v.toPart.requestMapped }) :
    (mode = 1 ∨ v.height.band = none → P v)
      ∧ ∀ b : Fin 4, v.height.band = some b →
        (c.bands ≤ b.val → P v)
          ∧ (mode = 0 → b.val < c.bands → ∃ w : State, v.SetRequested c.map[b] w ∧ P w)
          ∧ (mode = 0 → b.val < c.bands → v.loader.state = .idle → v.loader.standby = .empty →
            (v.loader.activeSet = some c.map[b] → P v)
              ∧ (v.loader.activeSet ≠ some c.map[b] → v.loader.damaged[c.map[b]] = false →
                v.store.sessionOn c.map[b] = false →
                (v.store.holder = .nobody → v.store.line = [] →
                  P { v with
                    store := { v.store with holder := .loader }
                    loader := { v.loader with
                      state := .loading c.map[b] v.now false, standby := .loading c.map[b] } })
                ∧ (v.store.holder ≠ .nobody →
                  P { v with
                    store := { v.store with line := v.store.line ++ [FlashUser.loader] }
                    loader := { v.loader with state := .waitingStore c.map[b] } }))) := by
  subst config
  have asked : ∀ {b : Fin 4}, v.height.band = some b → mode = 0 → b.val < v.height.config.bands →
      P { v with toPart := v.toPart.requestSet v.height.config.map[b] } := by
    rintro b band rfl below
    rw [← Part.requestMapped_some band auto below]
    exact h
  refine ⟨fun none => ?_, fun b band => ⟨fun beyond => ?_, fun zero below => ?_,
    fun zero below idle standby => ⟨fun active => ?_, fun inactive sound apart => ⟨fun nobody line => ?_, fun taken => ?_⟩⟩⟩⟩
  · rw [Part.requestMapped_none (none.imp_left fun e => by rw [auto, e]; rfl)] at h
    exact h
  · rw [Part.requestMapped_beyond band beyond] at h
    exact h
  · exact ⟨_, Part.requestSet_requested _ v, asked band zero below⟩
  · have effect := asked band zero below
    rw [Part.requestSet_active active, Part.dropLoad_nothing idle standby] at effect
    exact effect
  all_goals
    have effect := asked band zero below
    rw [Part.requestSet_asks inactive (by rw [idle]; nofun) sound apart, Part.dropLoad_nothing idle standby] at effect
  · rw [Part.askLoad_free nobody line] at effect
    exact effect
  · rw [Part.askLoad_busy (.inl taken)] at effect
    exact effect

/-! ### The obligation -/

section Answers

variable {x : HeightArgs} {m0 m1 m2 m3 : Fin 8} {p : Part}

theorem doHeightConfigure_accepted (f : HeightFields x m0 m1 m2 m3)
    (apart : (3 ≤ x.bands.toNat → clamp 1 999 x.b1.toNat + 2 * min 50 x.hysteresis.toNat + 1 ≤ clamp 1 999 x.b2.toNat)
      ∧ (4 ≤ x.bands.toNat → clamp 1 999 x.b2.toNat + 2 * min 50 x.hysteresis.toNat + 1 ≤ clamp 1 999 x.b3.toNat)) :
    doHeightConfigure x p
      = ((if clamp 1 999 x.b1.toNat = x.b1.toNat ∧ clamp 1 999 x.b2.toNat = x.b2.toNat
            ∧ clamp 1 999 x.b3.toNat = x.b3.toNat ∧ min 50 x.hysteresis.toNat = x.hysteresis.toNat then 0x00 else 0x01) ::
          ([x.polarity, x.bands] ++ le16 (clamp 1 999 x.b1.toNat) ++ le16 (clamp 1 999 x.b2.toNat)
            ++ le16 (clamp 1 999 x.b3.toNat)
            ++ [byte (min 50 x.hysteresis.toNat), x.map0, x.map1, x.map2, x.map3, x.mode]),
        p.applyHeight (namedConfig x m0 m1 m2 m3)) := by
  have good : spaced (namedConfig x m0 m1 m2 m3).hysteresis (namedConfig x m0 m1 m2 m3).inUse = true :=
    (spaced_iff _ _ _ _ f.most).2 apart
  simp only [doHeightConfigure, heightConfig?_eq f, if_pos good, heightClamped_status, namedConfig_bytes f]

theorem doHeightConfigure_close (f : HeightFields x m0 m1 m2 m3)
    (close : ¬ ((3 ≤ x.bands.toNat → clamp 1 999 x.b1.toNat + 2 * min 50 x.hysteresis.toNat + 1 ≤ clamp 1 999 x.b2.toNat)
      ∧ (4 ≤ x.bands.toNat → clamp 1 999 x.b2.toNat + 2 * min 50 x.hysteresis.toNat + 1 ≤ clamp 1 999 x.b3.toNat))) :
    doHeightConfigure x p = ([0x04], p) := by
  have bad : ¬ spaced (namedConfig x m0 m1 m2 m3).hysteresis (namedConfig x m0 m1 m2 m3).inUse = true := fun good =>
    close ((spaced_iff _ _ _ _ f.most).1 good)
  simp only [doHeightConfigure, heightConfig?_eq f, if_neg bad]
  rfl

theorem doHeightConfigure_outside (h : 2 ≤ x.polarity.toNat ∨ 2 ≤ x.mode.toNat ∨ x.bands.toNat = 0 ∨ 4 < x.bands.toNat
      ∨ 8 ≤ x.map0.toNat ∨ 8 ≤ x.map1.toNat ∨ 8 ≤ x.map2.toNat ∨ 8 ≤ x.map3.toNat) :
    doHeightConfigure x p = ([0x04], p) := by
  have none : heightConfig? x = none := by
    rcases e : heightConfig? x with _ | c
    · rfl
    · have fields := heightConfig?_some e
      omega
  simp only [doHeightConfigure, none]
  rfl

end Answers

/-- Settles O29: an accepted configuration acts by whether polarity and layout are kept, and then requests the mapped
set. -/
theorem heightConfigure : Obligations.HeightConfigure := by
  unfold Obligations.HeightConfigure
  intro s tag x m0 m1 m2 m3 hs a h limit hy apart fields c kept body answers requests layout
  have inFields : fields → HeightFields x m0 m1 m2 m3 := fun ⟨h1, h2, h3, h4, h5, h6, h7, h8⟩ =>
    ⟨h1, h2, h3, h4, h5, h6, h7, h8⟩
  have accepts : fields → apart → answers { a with toPart := a.toPart.applyHeight c } := fun f ap =>
    State.act_effect _ _ _ _ _ _ _ hs rfl (doHeightConfigure_accepted (inFields f) ap)
  have mapped : ∀ v : State, fields → v.height.config = c → answers { v with toPart := v.toPart.requestMapped } →
      requests v := fun v f config => State.mapped_cases config (inFields f).mode rfl
  refine ⟨fun f ap polarity => ⟨fun same => ?same, fun mean b relaid tracking last band => ⟨fun keeps => ?keeps, fun moves => ?moves⟩⟩,
    fun f ap turned => ?turned, fun f ap => ?frame, fun f close => ?close, fun bad => ?outside⟩
  case same =>
    have effect := accepts f ap
    rw [Part.applyHeight_kept polarity same] at effect
    exact mapped _ f rfl effect
  case keeps =>
    have fresh : c.freshBand mean = b := Fin.ext ((c.freshBand_val mean).trans band.symm)
    have effect := accepts f ap
    rw [Part.applyHeight_relaid polarity relaid tracking last, fresh,
      Part.setBand_same (p := a.toPart.heightSet c) keeps] at effect
    exact mapped _ f rfl effect
  case moves =>
    have fresh : c.freshBand mean = b := Fin.ext ((c.freshBand_val mean).trans band.symm)
    have effect := accepts f ap
    rw [Part.applyHeight_relaid polarity relaid tracking last, fresh,
      Part.setBand_moved (p := a.toPart.heightSet c) moves] at effect
    exact mapped _ f rfl effect
  case turned =>
    have effect := accepts f ap
    rw [Part.applyHeight_turned turned] at effect
    exact mapped _ f rfl effect
  case frame =>
    obtain ⟨h', config, reading, link, loader, holder, line, moved⟩ := a.toPart.applyHeight_heightMoved c
    have effect := accepts f ap
    rw [moved] at effect
    exact ⟨_, effect, config, reading, rfl, rfl, rfl, rfl, rfl, rfl, rfl, rfl, rfl, rfl, rfl, rfl⟩
  case close =>
    exact State.act_refused _ _ _ _ _ _ hs rfl (doHeightConfigure_close (inFields f) close)
  case outside =>
    exact State.act_refused _ _ _ _ _ _ hs rfl (doHeightConfigure_outside bad)

end Sys2Proof.Machine
end

section
/-! PROOF. The bytes on the link: multi-byte fields read back, the tile record (O15), and the envelope (O14). -/

namespace Sys2Proof.Machine

/-! ### Multi-byte fields -/

/-- A 16-bit field is the two bytes that it was made from. -/
@[simp] theorem half_bytes (h : Half) : half (byte h.toNat) (byte (h.toNat / 256)) = h := by
  apply BitVec.eq_of_getLsbD_eq
  intro i hi
  simp only [half, byte, BitVec.getLsbD_append, BitVec.getLsbD_ofNat]
  rw [show (256 : Nat) = 2 ^ 8 by rfl, Nat.testBit_div_two_pow, BitVec.testBit_toNat, BitVec.testBit_toNat]
  by_cases low : i < 8
  · simp [low]
  · simp [low, show i - 8 + 8 = i by omega, show i - 8 < 8 by omega]

theorem half_toNat (lo hi : Byte) : (half lo hi).toNat = hi.toNat * 256 + lo.toNat := by
  rw [half, BitVec.toNat_append, Nat.shiftLeft_eq, Nat.mul_comm, ← Nat.two_pow_add_eq_or_of_lt lo.isLt, Nat.mul_comm]

/-- Two bytes are the bytes of the field they make. -/
@[simp] theorem le16_half (lo hi : Byte) : le16 (half lo hi).toNat = [lo, hi] := by
  have low : byte (hi.toNat * 256 + lo.toNat) = lo := by
    apply BitVec.eq_of_toNat_eq
    rw [byte, BitVec.toNat_ofNat]
    omega
  have high : byte ((hi.toNat * 256 + lo.toNat) / 256) = hi := by
    apply BitVec.eq_of_toNat_eq
    rw [byte, BitVec.toNat_ofNat]
    omega
  rw [le16, half_toNat, low, high]

/-- A 24-bit field is the three bytes that it was made from. -/
theorem three_bytes (w : BitVec 24) :
    byte (w.toNat / 65536) ++ byte (w.toNat / 256) ++ byte w.toNat = w := by
  apply BitVec.eq_of_getLsbD_eq
  intro i hi
  simp only [byte, BitVec.getLsbD_append, BitVec.getLsbD_ofNat]
  rw [show (256 : Nat) = 2 ^ 8 by rfl, show (65536 : Nat) = 2 ^ 16 by rfl]
  simp only [Nat.testBit_div_two_pow, BitVec.testBit_toNat]
  by_cases h1 : i < 8
  · simp [h1]
  by_cases h2 : i - 8 < 8
  · simp [h1, h2, show i - 8 + 8 = i by omega]
  · simp [h1, h2, show i - 8 - 8 + 16 = i by omega, show i - 8 - 8 < 8 by omega]

theorem byte_toNat_of_lt {n : Nat} (h : n < 256) : (byte n).toNat = n := by
  rw [byte, BitVec.toNat_ofNat]
  omega

/-! ### The tile record (O15) -/

theorem nibbles_low (hi lo : BitVec 4) : (hi ++ lo).extractLsb' 0 4 = lo := by
  apply BitVec.eq_of_getLsbD_eq
  intro i h
  rw [BitVec.getLsbD_extractLsb', BitVec.getLsbD_append]
  simp [h]

theorem nibbles_high (hi lo : BitVec 4) : (hi ++ lo).extractLsb' 4 4 = hi := by
  apply BitVec.eq_of_getLsbD_eq
  intro i h
  rw [BitVec.getLsbD_extractLsb', BitVec.getLsbD_append]
  simp [h]

theorem append_nibbles (b : Byte) : b.extractLsb' 4 4 ++ b.extractLsb' 0 4 = b := by
  apply BitVec.eq_of_getLsbD_eq
  intro i h
  rw [BitVec.getLsbD_append]
  by_cases low : i < 4
  · simp [low]
  · simp [low, show i - 4 < 4 by omega, show 4 + (i - 4) = i by omega]

/-- A point is read back from its four bytes. -/
theorem pointAt_eq {b : Nat → Byte} {k : Nat} {p : Point} (x0 : b k = byte p.x.toNat) (x1 : b (k + 1) = byte (p.x.toNat / 256))
    (y0 : b (k + 2) = byte p.y.toNat) (y1 : b (k + 3) = byte (p.y.toNat / 256)) : pointAt b k = p := by
  rw [pointAt, x0, x1, y0, y1, half_bytes, half_bytes]

/-- The fields of a record are read back from its bytes. -/
theorem ofBytes_toBytes (r : TileRecord) : TileRecord.ofBytes r.toBytes = r := by
  obtain ⟨kind, camA, camB, occA, occB, hold, ⟨w0, w1, w2, w3⟩, ⟨a0, a1, a2, a3⟩, ⟨b0, b1, b2, b3⟩⟩ := r
  simp only [TileRecord.ofBytes, TileRecord.ofPlaces, TileRecord.mk.injEq, cornersAt, Corners.mk.injEq]
  refine ⟨rfl, nibbles_low _ _, nibbles_high _ _, nibbles_low _ _, nibbles_high _ _, rfl, ⟨rfl, rfl, rfl, rfl⟩,
    ⟨pointAt_eq rfl rfl rfl rfl, pointAt_eq rfl rfl rfl rfl, pointAt_eq rfl rfl rfl rfl, pointAt_eq rfl rfl rfl rfl⟩,
    pointAt_eq rfl rfl rfl rfl, pointAt_eq rfl rfl rfl rfl, pointAt_eq rfl rfl rfl rfl, pointAt_eq rfl rfl rfl rfl⟩

theorem point_toBytes (b : Nat → Byte) (k : Nat) : (pointAt b k).toBytes = [b k, b (k + 1), b (k + 2), b (k + 3)] := by
  simp only [Point.toBytes, pointAt, le16_half, List.cons_append, List.nil_append]

/-- A record read from forty places has the bytes of those places. -/
theorem toBytes_ofPlaces (b : Nat → Byte) : (TileRecord.ofPlaces b).toBytes = (List.range 40).map b := by
  simp only [TileRecord.toBytes, TileRecord.ofPlaces, cornerBytes, cornersAt, point_toBytes, append_nibbles]
  rfl

theorem length_toBytes (r : TileRecord) : r.toBytes.length = 40 := rfl

theorem map_getD_range (bytes : List Byte) : (List.range bytes.length).map (fun k => bytes[k]?.getD 0) = bytes := by
  apply List.ext_getElem
  · simp
  · intro k h1 h2
    simp [h2]

theorem toBytes_ofBytes {bytes : List Byte} (h : bytes.length = 40) : (TileRecord.ofBytes bytes).toBytes = bytes := by
  rw [TileRecord.ofBytes, toBytes_ofPlaces, ← h]
  exact map_getD_range bytes

/-- Settles O15: the fields are read back from the bytes, and the bytes from the fields. -/
theorem tileRecordRoundTrip : Obligations.TileRecordRoundTrip :=
  ⟨fun r => ⟨ofBytes_toBytes r, length_toBytes r⟩, fun _ h => toBytes_ofBytes h⟩

/-! ### The envelope (O14) -/

/-- The two CRC bytes, high byte first, are the CRC. -/
theorem append_crc (c : BitVec 16) : c.extractLsb' 8 8 ++ c.extractLsb' 0 8 = c := by
  apply BitVec.eq_of_getLsbD_eq
  intro i h
  rw [BitVec.getLsbD_append]
  by_cases low : i < 8
  · simp [low]
  · simp [low, show i - 8 < 8 by omega, show 8 + (i - 8) = i by omega]

theorem length_covered (f : Frame) : f.covered.length = 4 + f.body.length := by
  simp only [Frame.covered, List.length_append, List.length_cons, List.length_nil, length_le16]

theorem length_frameBytes (f : Frame) : f.bytes.length = 6 + f.body.length := by
  simp only [Frame.bytes, List.length_append, length_covered, List.length_cons, List.length_nil]
  omega

/-- The bytes of a frame and what follows, from its kind on. -/
theorem frameBytes_append (f : Frame) (extra : List Byte) :
    f.bytes ++ extra
      = f.kind :: f.tag :: byte f.body.length :: byte (f.body.length / 256) ::
          (f.body ++ ((crc f.covered).extractLsb' 8 8 :: (crc f.covered).extractLsb' 0 8 :: extra)) := by
  simp only [Frame.bytes, Frame.covered, le16, List.append_assoc, List.cons_append, List.nil_append]

/-- The CRC of a frame stands behind what it covers. -/
theorem crcMatches_frame (f : Frame) (extra : List Byte) : crcMatches (f.bytes ++ extra) f.body.length = true := by
  have split : f.bytes ++ extra
      = f.covered ++ ((crc f.covered).extractLsb' 8 8 :: (crc f.covered).extractLsb' 0 8 :: extra) := by
    simp only [Frame.bytes, List.append_assoc, List.cons_append, List.nil_append]
  have high : (f.bytes ++ extra)[4 + f.body.length]? = some ((crc f.covered).extractLsb' 8 8) := by
    rw [split]
    exact getElem?_after (length_covered f) _
  have low : (f.bytes ++ extra)[5 + f.body.length]? = some ((crc f.covered).extractLsb' 0 8) := by
    rw [split, List.append_cons]
    refine getElem?_after ?_ _
    rw [List.length_append, length_covered, List.length_singleton]
    omega
  have covered : (f.bytes ++ extra).take (4 + f.body.length) = f.covered := by
    rw [split, ← length_covered f, List.take_left]
  rw [crcMatches, covered, high, low, Option.getD_some, Option.getD_some, append_crc, beq_self_eq_true]

/-- A frame of a kind below 7Fh and a body of at most 256 bytes passes the checks. -/
theorem checkFrame_bytes {f : Frame} (kind : f.kind.toNat < 0x7F) (short : f.body.length ≤ 256) (extra : List Byte) :
    checkFrame (f.bytes ++ extra) = .passed f.body := by
  have matches' := crcMatches_frame f extra
  have length : (f.bytes ++ extra).length = 6 + f.body.length + extra.length := by
    rw [List.length_append, length_frameBytes]
  have split := frameBytes_append f extra
  have len : ((f.bytes ++ extra)[3]?.getD 0).toNat * 256 + ((f.bytes ++ extra)[2]?.getD 0).toNat = f.body.length := by
    rw [split]
    show (byte (f.body.length / 256)).toNat * 256 + (byte f.body.length).toNat = _
    rw [byte_toNat_of_lt (by omega), byte, BitVec.toNat_ofNat]
    omega
  have body : ((f.bytes ++ extra).drop 4).take f.body.length = f.body := by
    rw [split]
    exact List.take_left
  have kind' : ¬ 0x7F ≤ ((f.bytes ++ extra)[0]?.getD 0).toNat := by
    rw [split]
    exact Nat.not_le.2 kind
  unfold checkFrame
  simp only [len]
  rw [if_neg (by omega), if_neg (by omega), if_neg (by omega), if_neg (by rw [matches']; decide), if_neg kind', body]

/-- Settles O14: the checks pass, and the kind and the tag lead. -/
theorem frameRoundTrip : Obligations.FrameRoundTrip := by
  unfold Obligations.FrameRoundTrip
  refine fun f extra _ kind short => ⟨checkFrame_bytes kind short extra, ?_, ?_, length_frameBytes f⟩
  · rw [frameBytes_append]
    rfl
  · rw [frameBytes_append]
    rfl

end Sys2Proof.Machine
end

section
/-! PROOF. A transaction on the link (R179, R182 to R184): what its end does with the bytes received, and that the body
of each request is read as its arguments. -/

namespace Sys2Proof.Machine

/-! ### The end of a transaction (R184) -/

theorem exec_transactionEnd (mosi : List Byte) (start : TransactionStart) (s : State) :
    exec (.transactionEnd mosi start) s = s.act (Part.endTransaction mosi start) := rfl

/-- The part with what was last shifted out. -/
def Part.shifted (bytes : List Byte) (p : Part) : Part := { p with link := { p.link with miso := bytes } }

theorem Link.join_fill (l : Link) (f : Frame) : (l.join f).fill = l.join f := Link.fill_fill _

theorem Link.raise_fill (l : Link) (k : EventKind) (d : List Byte) : (l.raise k d).fill = l.raise k d :=
  Link.fill_fill _

/-- An answer leaves a link on which nothing waits for an empty slot. -/
theorem Part.answer_fill (kind tag : Byte) (act : Effect) (p : Part) :
    (p.answer kind tag act).link.fill = (p.answer kind tag act).link := by
  simp only [Part.answer]
  split
  · exact Link.raise_fill ..
  · exact Link.join_fill ..

theorem Part.rejectFrame_fill (reason kind tag : Byte) (p : Part) :
    (p.rejectFrame reason kind tag).link.fill = (p.rejectFrame reason kind tag).link := by
  simp only [Part.rejectFrame]
  split
  · exact Link.raise_fill ..
  · exact Link.join_fill ..

section Ends

variable {p : Part} {mosi : List Byte}

theorem Part.endTransaction_lost (h : p.link.receiver = []) : p.endTransaction mosi .lost = p := by
  simp only [Part.endTransaction, Link.shiftOut, ← h]

/-- With the slot empty the bytes are taken while 00h is shifted out. -/
theorem Part.endTransaction_empty (h : p.link.receiver = []) (slot : p.link.slot = none) :
    p.endTransaction mosi .slotEmpty
      = { (p.shifted (List.replicate mosi.length 0)).takeBytes mosi with
          link := ((p.shifted (List.replicate mosi.length 0)).takeBytes mosi).link.fill } := by
  simp only [Part.endTransaction, h, List.nil_append, Link.shiftOut, slot, Part.shifted]

/-- With a record in the slot the bytes are taken while the record is shifted out. -/
theorem Part.endTransaction_held (h : p.link.receiver = []) {o : Outgoing} (slot : p.link.slot = some o) :
    let q := (p.shifted ((o.frame.bytes ++ List.replicate mosi.length 0).take mosi.length)).takeBytes mosi
    p.endTransaction mosi .slotHeld = { q with link := (q.link.leaveAfter mosi.length).fill } := by
  simp only [Part.endTransaction, h, List.nil_append, Link.shiftOut, slot, Part.shifted]

theorem Part.takeBytes_filler (h : mosi[0]?.getD 0 = 0) : p.takeBytes mosi = p := by
  cases mosi with
  | nil => rfl
  | cons kind rest => exact if_pos h

theorem Part.takeBytes_rejected {kind : Byte} {rest : List Byte} {reason : Byte} (h : kind ≠ 0)
    (bad : checkFrame (kind :: rest) = .rejected reason) :
    p.takeBytes (kind :: rest) = p.rejectFrame reason kind (rest[0]?.getD 0) := by
  simp only [Part.takeBytes, if_neg h, bad]
  rfl

/-- A well-framed record is answered as the request that it is. -/
theorem Part.takeBytes_frame {f : Frame} (h : f.kind ≠ 0) (kind : f.kind.toNat < 0x7F) (short : f.body.length ≤ 256) :
    p.takeBytes f.bytes = p.answer f.kind f.tag (serve f.kind.toNat f.body) := by
  have passed := checkFrame_bytes kind short []
  have bytes := frameBytes_append f []
  rw [List.append_nil] at passed bytes
  rw [bytes] at passed ⊢
  simp only [Part.takeBytes, if_neg h, passed]
  rfl

end Ends

/-- The machine with what was last shifted out. -/
def State.shifted (bytes : List Byte) (s : State) : State := { s with link := { s.link with miso := bytes } }

/-- A well-framed record received with the slot empty is answered as its kind and body say. -/
theorem State.exec_frame {s : State} {f : Frame} (hr : s.power.inReset = false) (slot : s.link.slot = none)
    (receiver : s.link.receiver = []) (h : f.kind ≠ 0) (kind : f.kind.toNat < 0x7F) (short : f.body.length ≤ 256) :
    exec (.transactionEnd f.bytes .slotEmpty) s
      = (s.shifted (List.replicate (6 + f.body.length) 0)).act
          (Part.answer f.kind f.tag (serve f.kind.toNat f.body)) := by
  rw [exec_transactionEnd, State.act_apply _ _ hr, State.act_apply _ _ (by exact hr),
    Part.endTransaction_empty receiver slot, Part.takeBytes_frame h kind short, Part.answer_fill, length_frameBytes]
  rfl

/-! ### Request bodies -/

theorem pairs?_bytes (pairs : List (Byte × Byte)) : pairs? (pairs.flatMap fun y => [y.1, y.2]) = some pairs := by
  induction pairs with
  | nil => rfl
  | cons x xs ih =>
    show pairs? (x.1 :: x.2 :: xs.flatMap fun y => [y.1, y.2]) = _
    simp only [pairs?, ih]

theorem lineEntries?_bytes (entries : List LineEntry) :
    lineEntries?
        (entries.flatMap fun y => [y.line, y.direction, y.attr, y.level, y.role, y.active, y.report, y.wake])
      = some entries := by
  induction entries with
  | nil => rfl
  | cons x xs ih =>
    rw [List.flatMap_cons]
    simp only [List.cons_append, List.nil_append, lineEntries?, ih]

theorem tileRecords_bytes (records : List TileRecord) :
    tileRecords records.length (records.flatMap TileRecord.toBytes) = records := by
  induction records with
  | nil => rfl
  | cons r rs ih =>
    rw [List.flatMap_cons, List.length_cons, tileRecords, List.take_left' (length_toBytes r),
      List.drop_left' (length_toBytes r), ofBytes_toBytes, ih]

/-- A STORE_DATA body of at most 256 bytes holds its records, whose number fits in a byte. -/
theorem serveStoreData_bytes (u : Half) (records : List TileRecord)
    (short : (le16 u.toNat ++ [BitVec.ofNat 8 records.length] ++ records.flatMap TileRecord.toBytes).length ≤ 256) :
    serveStoreData (le16 u.toNat ++ [BitVec.ofNat 8 records.length] ++ records.flatMap TileRecord.toBytes)
      = doStoreData u records := by
  have bytes : (records.flatMap TileRecord.toBytes).length = 40 * records.length := length_recordsToBytes records
  simp only [List.length_append, length_le16, List.length_singleton, bytes] at short
  have count : (BitVec.ofNat 8 records.length).toNat = records.length := byte_toNat_of_lt (by omega)
  show (if (records.flatMap TileRecord.toBytes).length = 40 * (BitVec.ofNat 8 records.length).toNat then
      doStoreData (half (byte u.toNat) (byte (u.toNat / 256)))
        (tileRecords (BitVec.ofNat 8 records.length).toNat (records.flatMap TileRecord.toBytes))
    else _) = _
  rw [count, bytes, if_pos rfl, half_bytes, tileRecords_bytes]

/-- A command is the request that a record of this kind, tag and body brings. -/
def Brings (i : Instr) (kind tag : Byte) (body : List Byte) : Prop :=
  kind ≠ 0 ∧ kind.toNat < 0x7F
    ∧ (body.length ≤ 256 → ∀ s : State, exec i s = s.act (Part.answer kind tag (serve kind.toNat body)))

/-- A body without lists or wide fields is taken apart byte by byte. -/
theorem Brings.of_rfl {i : Instr} {kind tag : Byte} {body : List Byte} (h : kind ≠ 0) (small : kind.toNat < 0x7F)
    (served : ∀ s : State, exec i s = s.act (Part.answer kind tag (serve kind.toNat body))) : Brings i kind tag body :=
  ⟨h, small, fun _ => served⟩

/-- A body with lists or wide fields is read as the arguments of the command's effect. -/
theorem Brings.of_serve {i : Instr} {kind tag : Byte} {body : List Byte} {act : Effect} (h : kind ≠ 0)
    (small : kind.toNat < 0x7F) (effect : ∀ s : State, exec i s = s.act (Part.answer kind tag act))
    (served : body.length ≤ 256 → serve kind.toNat body = act) : Brings i kind tag body :=
  ⟨h, small, fun short s => by rw [served short]; exact effect s⟩

section Bodies

variable (tag a b c d : Byte) (u v : Half)

theorem brings_eventConfigure (pairs : List (Byte × Byte)) :
    Brings (.eventConfigure tag pairs) 0x04 tag (pairs.flatMap fun y => [y.1, y.2]) := by
  refine .of_serve (by decide) (by decide) (exec_eventConfigure tag pairs) fun _ => ?_
  show (match pairs? (pairs.flatMap fun y => [y.1, y.2]) with
    | some ps => doEventConfigure ps
    | none => refuse stBadArgument) = _
  rw [pairs?_bytes]

theorem brings_eventClear (kinds : BitVec 24) : Brings (.eventClear tag kinds) 0x05 tag (le24 kinds.toNat) := by
  refine .of_serve (by decide) (by decide) (exec_eventClear tag kinds) fun _ => ?_
  show doEventClear (byte (kinds.toNat / 65536) ++ byte (kinds.toNat / 256) ++ byte kinds.toNat) = _
  rw [three_bytes]

theorem brings_portConfigure :
    Brings (.portConfigure tag a u v b) 0x10 tag (a :: (le16 u.toNat ++ le16 v.toNat ++ [b])) := by
  refine .of_serve (by decide) (by decide) (exec_portConfigure tag a u v b) fun _ => ?_
  show doPortConfigure a (half (byte u.toNat) (byte (u.toNat / 256))) (half (byte v.toNat) (byte (v.toNat / 256))) b = _
  rw [half_bytes, half_bytes]

theorem brings_paceConfigure :
    Brings (.paceConfigure tag a u b c d) 0x18 tag (a :: (le16 u.toNat ++ [b, c, d])) := by
  refine .of_serve (by decide) (by decide) (exec_paceConfigure tag a u b c d) fun _ => ?_
  show doPaceConfigure a (half (byte u.toNat) (byte (u.toNat / 256))) b c d = _
  rw [half_bytes]

theorem brings_balanceSetGain : Brings (.balanceSetGain tag a u) 0x29 tag (a :: le16 u.toNat) := by
  refine .of_serve (by decide) (by decide) (exec_balanceSetGain tag a u) fun _ => ?_
  show doBalanceSetGain a (half (byte u.toNat) (byte (u.toNat / 256))) = _
  rw [half_bytes]

theorem brings_heightConfigure (x : HeightArgs) :
    Brings (.heightConfigure tag x) 0x30 tag
      ([x.polarity, x.bands] ++ le16 x.b1.toNat ++ le16 x.b2.toNat ++ le16 x.b3.toNat
        ++ [x.hysteresis, x.map0, x.map1, x.map2, x.map3, x.mode]) := by
  refine .of_serve (by decide) (by decide) (exec_heightConfigure tag x) fun _ => ?_
  show doHeightConfigure { x with
    b1 := half (byte x.b1.toNat) (byte (x.b1.toNat / 256)), b2 := half (byte x.b2.toNat) (byte (x.b2.toNat / 256))
    b3 := half (byte x.b3.toNat) (byte (x.b3.toNat / 256)) } = _
  rw [half_bytes, half_bytes, half_bytes]

theorem brings_storeData (records : List TileRecord) :
    Brings (.storeData tag u records) 0x39 tag
      (le16 u.toNat ++ [BitVec.ofNat 8 records.length] ++ records.flatMap TileRecord.toBytes) :=
  .of_serve (by decide) (by decide) (exec_storeData tag u records) fun short => serveStoreData_bytes u records short

theorem brings_storeRead : Brings (.storeRead tag a u) 0x3F tag (a :: le16 u.toNat) := by
  refine .of_serve (by decide) (by decide) (exec_storeRead tag a u) fun _ => ?_
  show doStoreRead a (half (byte u.toNat) (byte (u.toNat / 256))) = _
  rw [half_bytes]

theorem exec_lineConfigure (entries : List LineEntry) (s : State) :
    exec (.lineConfigure tag a entries) s = s.act (Part.answer 0x40 tag (doLineConfigure a entries)) := rfl

theorem brings_lineConfigure (entries : List LineEntry) :
    Brings (.lineConfigure tag a entries) 0x40 tag (a :: entries.flatMap fun y =>
      [y.line, y.direction, y.attr, y.level, y.role, y.active, y.report, y.wake]) := by
  refine .of_serve (by decide) (by decide) (exec_lineConfigure tag a entries) fun _ => ?_
  show (match lineEntries? (entries.flatMap fun y =>
      [y.line, y.direction, y.attr, y.level, y.role, y.active, y.report, y.wake]) with
    | some es => doLineConfigure a es
    | none => refuse stBadArgument) = _
  rw [lineEntries?_bytes]

theorem exec_lineWrite (pairs : List (Byte × Byte)) (s : State) :
    exec (.lineWrite tag pairs) s = s.act (Part.answer 0x42 tag (doLineWrite pairs)) := rfl

theorem brings_lineWrite (pairs : List (Byte × Byte)) :
    Brings (.lineWrite tag pairs) 0x42 tag (pairs.flatMap fun y => [y.1, y.2]) := by
  refine .of_serve (by decide) (by decide) (exec_lineWrite tag pairs) fun _ => ?_
  show (match pairs? (pairs.flatMap fun y => [y.1, y.2]) with
    | some ps => doLineWrite ps
    | none => refuse stBadArgument) = _
  rw [pairs?_bytes]

end Bodies

/-- Settles O39: each command is the request that its record brings. -/
theorem transactionBringsRequest : Obligations.TransactionBringsRequest := by
  unfold Obligations.TransactionBringsRequest
  intro s tag a b c d e u v kinds x pairs entries records i kind body hr settled slot receiver short mem
  suffices brings : Brings i kind tag body by
    obtain ⟨h, small, served⟩ := brings
    exact (State.exec_frame (f := { kind := kind, tag := tag, body := body }) hr slot receiver h small short).trans
      (served short _).symm
  simp only [List.mem_cons, Prod.mk.injEq, List.not_mem_nil, or_false] at mem
  obtain ⟨rfl, rfl, rfl⟩ | mem := mem
  · exact .of_rfl (by decide) (by decide) fun _ => rfl
  obtain ⟨rfl, rfl, rfl⟩ | mem := mem
  · exact .of_rfl (by decide) (by decide) fun _ => rfl
  obtain ⟨rfl, rfl, rfl⟩ | mem := mem
  · exact .of_rfl (by decide) (by decide) fun _ => rfl
  obtain ⟨rfl, rfl, rfl⟩ | mem := mem
  · exact brings_eventConfigure tag pairs
  obtain ⟨rfl, rfl, rfl⟩ | mem := mem
  · exact brings_eventClear tag kinds
  obtain ⟨rfl, rfl, rfl⟩ | mem := mem
  · exact brings_portConfigure tag a b u v
  obtain ⟨rfl, rfl, rfl⟩ | mem := mem
  · exact .of_rfl (by decide) (by decide) fun _ => rfl
  obtain ⟨rfl, rfl, rfl⟩ | mem := mem
  · exact .of_rfl (by decide) (by decide) fun _ => rfl
  obtain ⟨rfl, rfl, rfl⟩ | mem := mem
  · exact .of_rfl (by decide) (by decide) fun _ => rfl
  obtain ⟨rfl, rfl, rfl⟩ | mem := mem
  · exact brings_paceConfigure tag a b c d u
  obtain ⟨rfl, rfl, rfl⟩ | mem := mem
  · exact .of_rfl (by decide) (by decide) fun _ => rfl
  obtain ⟨rfl, rfl, rfl⟩ | mem := mem
  · exact .of_rfl (by decide) (by decide) fun _ => rfl
  obtain ⟨rfl, rfl, rfl⟩ | mem := mem
  · exact .of_rfl (by decide) (by decide) fun _ => rfl
  obtain ⟨rfl, rfl, rfl⟩ | mem := mem
  · exact .of_rfl (by decide) (by decide) fun _ => rfl
  obtain ⟨rfl, rfl, rfl⟩ | mem := mem
  · exact .of_rfl (by decide) (by decide) fun _ => rfl
  obtain ⟨rfl, rfl, rfl⟩ | mem := mem
  · exact brings_balanceSetGain tag a u
  obtain ⟨rfl, rfl, rfl⟩ | mem := mem
  · exact .of_rfl (by decide) (by decide) fun _ => rfl
  obtain ⟨rfl, rfl, rfl⟩ | mem := mem
  · exact brings_heightConfigure tag x
  obtain ⟨rfl, rfl, rfl⟩ | mem := mem
  · exact .of_rfl (by decide) (by decide) fun _ => rfl
  obtain ⟨rfl, rfl, rfl⟩ | mem := mem
  · exact .of_rfl (by decide) (by decide) fun _ => rfl
  obtain ⟨rfl, rfl, rfl⟩ | mem := mem
  · exact brings_storeData tag u records
  obtain ⟨rfl, rfl, rfl⟩ | mem := mem
  · exact .of_rfl (by decide) (by decide) fun _ => rfl
  obtain ⟨rfl, rfl, rfl⟩ | mem := mem
  · exact .of_rfl (by decide) (by decide) fun _ => rfl
  obtain ⟨rfl, rfl, rfl⟩ | mem := mem
  · exact .of_rfl (by decide) (by decide) fun _ => rfl
  obtain ⟨rfl, rfl, rfl⟩ | mem := mem
  · exact .of_rfl (by decide) (by decide) fun _ => rfl
  obtain ⟨rfl, rfl, rfl⟩ | mem := mem
  · exact .of_rfl (by decide) (by decide) fun _ => rfl
  obtain ⟨rfl, rfl, rfl⟩ | mem := mem
  · exact brings_storeRead tag a u
  obtain ⟨rfl, rfl, rfl⟩ | mem := mem
  · exact brings_lineConfigure tag a entries
  obtain ⟨rfl, rfl, rfl⟩ | mem := mem
  · exact .of_rfl (by decide) (by decide) fun _ => rfl
  obtain ⟨rfl, rfl, rfl⟩ | mem := mem
  · exact brings_lineWrite tag pairs
  obtain ⟨rfl, rfl, rfl⟩ | mem := mem
  · exact .of_rfl (by decide) (by decide) fun _ => rfl
  obtain ⟨rfl, rfl, rfl⟩ | mem := mem
  · exact .of_rfl (by decide) (by decide) fun _ => rfl
  obtain ⟨rfl, rfl, rfl⟩ := mem
  exact .of_rfl (by decide) (by decide) fun _ => rfl

end Sys2Proof.Machine
end

section
/-! PROOF. The end of a transaction in each of its forms (R179, R181 to R186, R190): damaged frames, bodies of the wrong
length, unknown kinds, filler, and records that leave the slot. -/

namespace Sys2Proof.Machine

/-! ### Bodies of the wrong length (R182) -/

theorem noBody_wrong {act : Effect} {body : List Byte} (h : body.length ≠ 0) :
    noBody act body = refuse stBadArgument := by
  cases body with
  | nil => exact absurd rfl h
  | cons b bs => rfl

theorem oneByte_wrong {act : Byte → Effect} {body : List Byte} (h : body.length ≠ 1) :
    oneByte act body = refuse stBadArgument := by
  unfold oneByte
  split
  · exact absurd rfl h
  · rfl

theorem servePorts_configure_wrong {body : List Byte} (h : body.length ≠ 6) :
    servePorts 0x10 body = refuse stBadArgument := by
  rcases body with _ | ⟨_, _ | ⟨_, _ | ⟨_, _ | ⟨_, _ | ⟨_, _ | ⟨_, _ | ⟨_, _⟩⟩⟩⟩⟩⟩⟩
  case cons.cons.cons.cons.cons.cons.nil => exact absurd rfl h
  all_goals rfl

theorem servePorts_power_wrong {body : List Byte} (h : body.length ≠ 2) :
    servePorts 0x11 body = refuse stBadArgument := by
  rcases body with _ | ⟨_, _ | ⟨_, _ | ⟨_, _⟩⟩⟩
  case cons.cons.nil => exact absurd rfl h
  all_goals rfl

theorem servePorts_standby_wrong {body : List Byte} (h : body.length ≠ 2) :
    servePorts 0x12 body = refuse stBadArgument := by
  rcases body with _ | ⟨_, _ | ⟨_, _ | ⟨_, _⟩⟩⟩
  case cons.cons.nil => exact absurd rfl h
  all_goals rfl

theorem serve_wrongLength {kind : Byte} {n : Nat} {body : List Byte}
    (mem : (kind, n) ∈ [((0x01 : Byte), 0), (0x02, 0), (0x03, 0), (0x05, 3), (0x10, 6), (0x11, 2), (0x12, 2), (0x18, 6),
      (0x19, 0), (0x1A, 0), (0x1B, 0), (0x20, 5), (0x28, 2), (0x29, 3), (0x2A, 0), (0x30, 14), (0x31, 1), (0x38, 1),
      (0x3B, 0), (0x3C, 1), (0x3D, 1), (0x3E, 0), (0x3F, 3), (0x41, 0), (0x49, 1), (0x4A, 1)])
    (h : body.length ≠ n) : serve kind.toNat body = refuse stBadArgument := by
  simp only [List.mem_cons, Prod.mk.injEq, List.not_mem_nil, or_false] at mem
  obtain ⟨rfl, rfl⟩ | mem := mem
  · exact noBody_wrong h
  obtain ⟨rfl, rfl⟩ | mem := mem
  · exact noBody_wrong h
  obtain ⟨rfl, rfl⟩ | mem := mem
  · exact noBody_wrong h
  obtain ⟨rfl, rfl⟩ | mem := mem
  · show serveLink 0x05 body = _
    simp only [serveLink]
    split
    · exact absurd rfl h
    · rfl
  obtain ⟨rfl, rfl⟩ | mem := mem
  · exact servePorts_configure_wrong h
  obtain ⟨rfl, rfl⟩ | mem := mem
  · exact servePorts_power_wrong h
  obtain ⟨rfl, rfl⟩ | mem := mem
  · exact servePorts_standby_wrong h
  obtain ⟨rfl, rfl⟩ | mem := mem
  · show servePace 0x18 body = _
    simp only [servePace]
    split
    · exact absurd rfl h
    · rfl
  obtain ⟨rfl, rfl⟩ | mem := mem
  · exact noBody_wrong h
  obtain ⟨rfl, rfl⟩ | mem := mem
  · exact noBody_wrong h
  obtain ⟨rfl, rfl⟩ | mem := mem
  · exact noBody_wrong h
  obtain ⟨rfl, rfl⟩ | mem := mem
  · show servePicture 0x20 body = _
    simp only [servePicture]
    split
    · exact absurd rfl h
    · rfl
  obtain ⟨rfl, rfl⟩ | mem := mem
  · show servePicture 0x28 body = _
    simp only [servePicture]
    split
    · exact absurd rfl h
    · rfl
  obtain ⟨rfl, rfl⟩ | mem := mem
  · show servePicture 0x29 body = _
    simp only [servePicture]
    split
    · exact absurd rfl h
    · rfl
  obtain ⟨rfl, rfl⟩ | mem := mem
  · exact noBody_wrong h
  obtain ⟨rfl, rfl⟩ | mem := mem
  · show servePicture 0x30 body = _
    simp only [servePicture]
    split
    · exact absurd rfl h
    · rfl
  obtain ⟨rfl, rfl⟩ | mem := mem
  · exact oneByte_wrong h
  obtain ⟨rfl, rfl⟩ | mem := mem
  · exact oneByte_wrong h
  obtain ⟨rfl, rfl⟩ | mem := mem
  · exact noBody_wrong h
  obtain ⟨rfl, rfl⟩ | mem := mem
  · exact oneByte_wrong h
  obtain ⟨rfl, rfl⟩ | mem := mem
  · exact oneByte_wrong h
  obtain ⟨rfl, rfl⟩ | mem := mem
  · exact noBody_wrong h
  obtain ⟨rfl, rfl⟩ | mem := mem
  · show serveStore 0x3F body = _
    simp only [serveStore]
    split
    · exact absurd rfl h
    · rfl
  obtain ⟨rfl, rfl⟩ | mem := mem
  · exact noBody_wrong h
  obtain ⟨rfl, rfl⟩ | mem := mem
  · exact oneByte_wrong h
  obtain ⟨rfl, rfl⟩ := mem
  exact oneByte_wrong h

/-- An odd number of bytes is no list of pairs. -/
theorem pairs?_odd : ∀ {body : List Byte}, body.length % 2 = 1 → pairs? body = none
  | [], h => by cases h
  | [_], _ => rfl
  | _ :: _ :: rest, h => by
    have odd : pairs? rest = none := pairs?_odd (by simp only [List.length_cons] at h; omega)
    simp only [pairs?, odd]

/-- A number of bytes that is no multiple of eight is no list of line entries. -/
theorem lineEntries?_ragged : ∀ {body : List Byte}, body.length % 8 ≠ 0 → lineEntries? body = none
  | [], h => absurd rfl h
  | _ :: _ :: _ :: _ :: _ :: _ :: _ :: _ :: rest, h => by
    have ragged : lineEntries? rest = none := lineEntries?_ragged (by simp only [List.length_cons] at h; omega)
    simp only [lineEntries?, ragged]
  | [_], _ => rfl
  | [_, _], _ => rfl
  | [_, _, _], _ => rfl
  | [_, _, _, _], _ => rfl
  | [_, _, _, _, _], _ => rfl
  | [_, _, _, _, _, _], _ => rfl
  | [_, _, _, _, _, _, _], _ => rfl

theorem serve_odd {kind : Byte} {body : List Byte} (hk : kind = 0x04 ∨ kind = 0x42) (h : body.length % 2 = 1) :
    serve kind.toNat body = refuse stBadArgument := by
  obtain rfl | rfl := hk
  · show serveLink 0x04 body = _
    simp only [serveLink, pairs?_odd h]
  · show serveLines 0x42 body = _
    simp only [serveLines, pairs?_odd h]

theorem serve_ragged {body : List Byte} (h : body.length % 8 ≠ 1) : serve 0x40 body = refuse stBadArgument := by
  show serveLines 0x40 body = _
  cases body with
  | nil => rfl
  | cons auto rest =>
    have ragged : lineEntries? rest = none := lineEntries?_ragged (by simp only [List.length_cons] at h; omega)
    simp only [serveLines, ragged]

theorem serve_badAction {port action : Byte} (h : 2 ≤ action.toNat) :
    serve 0x12 [port, action] = refuse stBadArgument := by
  have enter : action ≠ 1 := by bv_omega
  have leave : action ≠ 0 := by bv_omega
  show (if action = 1 then doStandbyEnter port else if action = 0 then doStandbyLeave port else refuse stBadArgument) = _
  rw [if_neg enter, if_neg leave]

theorem serve_badData {body : List Byte} (h : body.length < 3 ∨ body.length ≠ 3 + 40 * (body[2]?.getD 0).toNat) :
    serve 0x39 body = withNext stBadArgument := by
  show serveStoreData body = _
  rcases body with _ | ⟨f0, _ | ⟨f1, _ | ⟨n, rest⟩⟩⟩
  case cons.cons.cons =>
    have wrong : ¬ rest.length = 40 * n.toNat := by
      rcases h with h | h
      · simp only [List.length_cons] at h
        omega
      · intro e
        apply h
        show rest.length + 1 + 1 + 1 = 3 + 40 * n.toNat
        omega
    exact if_neg wrong
  all_goals rfl

theorem serve_badClose {body : List Byte} (h : body ≠ []) : serve 0x3A body = withNext stBadArgument := by
  cases body with
  | nil => exact absurd rfl h
  | cons b bs => rfl

theorem serve_badPower {body : List Byte} (h : body.length ≠ 1) : serve 0x48 body = withPower stBadArgument := by
  show serveLines 0x48 body = _
  simp only [serveLines]
  split
  · exact absurd rfl h
  · rfl

/-! ### Kinds that name no request (R182) -/

/-- The kinds of the requests. -/
def requestKinds : List Byte :=
  [0x01, 0x02, 0x03, 0x04, 0x05, 0x10, 0x11, 0x12, 0x18, 0x19, 0x1A, 0x1B, 0x20, 0x28, 0x29, 0x2A, 0x30, 0x31, 0x38,
    0x39, 0x3A, 0x3B, 0x3C, 0x3D, 0x3E, 0x3F, 0x40, 0x41, 0x42, 0x48, 0x49, 0x4A]

theorem serve_unknown {kind : Byte} (h : kind ∉ requestKinds) (body : List Byte) :
    serve kind.toNat body = refuse stUnknownRequest := by
  have other : ∀ k ∈ requestKinds, kind.toNat ≠ k.toNat := fun k hk e => h (BitVec.eq_of_toNat_eq e ▸ hk)
  simp only [requestKinds, List.forall_mem_cons, List.not_mem_nil, false_imp_iff, implies_true, and_true] at other
  generalize kind.toNat = n at other ⊢
  unfold serve serveLink servePorts servePace servePicture serveStore serveLines
  repeat' split
  all_goals simp_all

/-! ### Records that leave the slot (R184, R186, R190) -/

theorem Link.leaveAfter_short {l : Link} {o : Outgoing} {n : Nat} (slot : l.slot = some o)
    (short : n < 6 + o.frame.body.length) : l.leaveAfter n = l := by
  simp only [Link.leaveAfter, slot, if_neg (Nat.not_le.2 short)]

theorem Link.leaveAfter_sent {l : Link} {o : Outgoing} {n : Nat} (slot : l.slot = some o)
    (sent : 6 + o.frame.body.length ≤ n) : l.leaveAfter n = l.leave o := by
  simp only [Link.leaveAfter, slot, if_pos sent]

/-- What goes out on MISO in a transaction no longer than the record in the slot. -/
theorem take_frame {f : Frame} {n : Nat} (short : n < 6 + f.body.length) :
    (f.bytes ++ List.replicate n 0).take n = f.bytes.take n :=
  List.take_append_of_le_length (by rw [length_frameBytes]; omega)

/-- What goes out on MISO in a longer one: the record, and then 00h. -/
theorem take_frame_all {f : Frame} {n : Nat} (sent : 6 + f.body.length ≤ n) :
    (f.bytes ++ List.replicate n 0).take n = f.bytes ++ List.replicate (n - (6 + f.body.length)) 0 := by
  rw [List.take_append, List.take_of_length_le (by rw [length_frameBytes]; exact sent), List.take_replicate,
    length_frameBytes, Nat.min_eq_left (Nat.sub_le _ _)]

/-- The reset wait after a reply was sent, as the statement spells it. -/
theorem ResetWait.afterReply_eq (w : ResetWait) (f : Frame) :
    w.afterReply f
      = if f.kind = 0x83 ∧ f.body = [0x00] ∧ w = ResetWait.replyWaiting then ResetWait.replySent else w := by
  have same : (f.acceptsReset = true ∧ w = ResetWait.replyWaiting)
      ↔ (f.kind = 0x83 ∧ f.body = [0x00] ∧ w = ResetWait.replyWaiting) := by
    simp only [Frame.acceptsReset, Bool.and_eq_true, beq_iff_eq, and_assoc]
    rfl
  simp only [ResetWait.afterReply, same]

theorem Part.rejectFrame_room {p : Part} (room : p.link.queue.length < 4) (reason kind tag : Byte) :
    p.rejectFrame reason kind tag
      = { p with link := p.link.join { kind := 0x80, tag := tag, body := [reason, kind] } } := by
  have room' : ¬ p.queueFull = true := by simpa [Part.queueFull] using room
  simp only [Part.rejectFrame, if_neg room']

theorem Part.rejectFrame_full {p : Part} (full : 4 ≤ p.link.queue.length) (reason kind tag : Byte) :
    p.rejectFrame reason kind tag = p.raise .replyOverrun [kind, tag] := by
  have full' : p.queueFull = true := by simpa [Part.queueFull] using full
  simp only [Part.rejectFrame, if_pos full']

theorem Link.fill_slot {l : Link} {o : Outgoing} (h : l.slot = some o) : l.fill.slot = some o := by
  rw [Link.fill_held l o h, h]

/-- A transaction shorter than the record in the slot leaves the slot to it. -/
theorem Part.endTransaction_short {p q : Part} {mosi : List Byte} {o : Outgoing} (receiver : p.link.receiver = [])
    (slot : p.link.slot = some o) (short : mosi.length < 6 + o.frame.body.length)
    (taken : (p.shifted (o.frame.bytes.take mosi.length)).takeBytes mosi = q) (kept : q.link.slot = some o) :
    p.endTransaction mosi .slotHeld = q := by
  have held := Part.endTransaction_held (mosi := mosi) receiver slot
  rw [take_frame short, taken] at held
  rw [held, Link.leaveAfter_short kept short, Link.fill_held _ _ kept]

/-- Filler as long as the record in the slot, or longer, sends the record. -/
theorem Part.endTransaction_sent {p : Part} {mosi : List Byte} {o : Outgoing} (receiver : p.link.receiver = [])
    (slot : p.link.slot = some o) (sent : 6 + o.frame.body.length ≤ mosi.length) (filler : mosi[0]?.getD 0 = 0) :
    p.endTransaction mosi .slotHeld
      = { p with link :=
          (({ p.link with miso := o.frame.bytes ++ List.replicate (mosi.length - (6 + o.frame.body.length)) 0 } : Link).leave
            o).fill } := by
  have held := Part.endTransaction_held (mosi := mosi) receiver slot
  rw [take_frame_all sent, Part.takeBytes_filler filler] at held
  rw [held, Link.leaveAfter_sent (by exact slot) sent]
  rfl

/-! ### The obligation -/

/-- A request of any kind finds no more records queued than were there before it woke the part. -/
theorem State.awake_queue (kind : Byte) (s : State) : (s.awake kind).link.queue.length ≤ s.link.queue.length := by
  simp only [State.awake, Part.wakeByRequest]
  split
  · exact Link.fill_queue_length _
  · exact Nat.le_refl _

/-- A well-framed record whose kind and body bring no effect is refused. -/
theorem State.exec_refused {s : State} {kind tag : Byte} {body reply : List Byte} (hr : s.power.inReset = false)
    (settled : s.link.Settled) (slot : s.link.slot = none) (receiver : s.link.receiver = []) (h : kind ≠ 0)
    (small : kind.toNat < 0x7F) (short : body.length ≤ 256)
    (served : ∀ p : Part, p = ((s.shifted (List.replicate (6 + body.length) 0)).awake kind).toPart →
      serve kind.toNat body p = (reply, p)) :
    exec (.transactionEnd (Frame.bytes { kind := kind, tag := tag, body := body }) .slotEmpty) s
      = .next (((s.shifted (List.replicate (6 + body.length) 0)).awake kind).replied (kind + 0x80) tag reply) := by
  have takes : (s.shifted (List.replicate (6 + body.length) 0)).Takes kind := by
    refine ⟨hr, Nat.lt_of_le_of_lt (State.awake_queue ..) ?_⟩
    show s.link.queue.length < 4
    rw [(settled.2.2 slot).1]
    decide
  rw [State.exec_frame (f := { kind := kind, tag := tag, body := body }) hr slot receiver h small short]
  exact State.act_refused _ _ _ _ _ _ takes rfl (served _ rfl)

/-- Settles O40: the bytes taken by what they are, and the slot by whether its record was sent whole. -/
theorem transactionEnd : Obligations.TransactionEnd := by
  unfold Obligations.TransactionEnd
  refine fun s hr receiver => ⟨fun bytes => ?lost, fun kind rest reason hk bad => ⟨fun o slot short => ⟨fun room => ?rejects,
      fun full => ?overruns⟩, fun settled slot => ?rejectsEmpty⟩,
    fun kind tag body settled slot hk small short => ?refusals, fun bytes filler => ⟨fun settled slot => ?fillerEmpty,
      fun o slot short => ?fillerHeld, fun f slot sent => ?replySent, fun k f slot sent => ?noticeSent⟩⟩
  case lost =>
    exact State.act_same (Part.endTransaction_lost receiver)
  case rejects =>
    rw [exec_transactionEnd, State.act_apply _ _ hr, Part.endTransaction_short (mosi := kind :: rest) receiver slot short
      ((Part.takeBytes_rejected hk bad).trans (Part.rejectFrame_room (by exact room) ..)) (Link.fill_slot (by exact slot))]
    rfl
  case overruns =>
    rw [exec_transactionEnd, State.act_apply _ _ hr, Part.endTransaction_short (mosi := kind :: rest) receiver slot short
      ((Part.takeBytes_rejected hk bad).trans (Part.rejectFrame_full (by exact full) ..)) (Link.fill_slot (by exact slot))]
    rfl
  case rejectsEmpty =>
    have room : s.link.queue.length < 4 := by
      rw [(settled.2.2 slot).1]
      decide
    rw [exec_transactionEnd, State.act_apply _ _ hr, Part.endTransaction_empty receiver slot,
      Part.takeBytes_rejected hk bad, Part.rejectFrame_fill, Part.rejectFrame_room (by exact room)]
    rfl
  case refusals =>
    intro v refused next
    have refuses : ∀ {reply : List Byte}, (∀ p : Part, p = v.toPart → serve kind.toNat body p = (reply, p)) →
        refused reply := State.exec_refused hr settled slot receiver hk small short
    have bad : serve kind.toNat body = refuse stBadArgument → refused [0x04] := fun e =>
      refuses fun p _ => by rw [e]; rfl
    have session : v.store.session = s.store.session := by
      show ((Part.wakeByRequest kind _).store).session = _
      simp only [Part.wakeByRequest]
      split <;> rfl
    have nextIs : next = le16 v.store.nextIndex := by
      simp only [next, Store.nextIndex, session]
    refine ⟨fun n mem wrong => bad (serve_wrongLength mem wrong), ?_, fun hk odd => bad (serve_odd hk odd), ?_, ?_, ?_, ?_,
      fun unknown => refuses fun p _ => by rw [serve_unknown unknown]; rfl⟩
    · rintro port action rfl rfl large
      exact bad (serve_badAction large)
    · rintro rfl ragged
      exact bad (serve_ragged ragged)
    · rintro rfl wrong
      rw [nextIs]
      exact refuses fun p hp => by rw [← hp]; exact congrFun (serve_badData wrong) p
    · rintro rfl wrong
      rw [nextIs]
      exact refuses fun p hp => by rw [← hp]; exact congrFun (serve_badClose wrong) p
    · rintro rfl wrong
      exact refuses fun p hp => by rw [← hp]; exact congrFun (serve_badPower wrong) p
  case fillerEmpty =>
    rw [exec_transactionEnd, State.act_apply _ _ hr, Part.endTransaction_empty receiver slot,
      Part.takeBytes_filler filler]
    have settled' : (s.shifted (List.replicate bytes.length 0)).link.Settled := settled
    have same := Link.fill_of_settled _ settled'
    exact congrArg (fun l : Link => Host.Outcome.next { s with link := l }) same
  case fillerHeld =>
    rw [exec_transactionEnd, State.act_apply _ _ hr,
      Part.endTransaction_short receiver slot short (Part.takeBytes_filler filler) slot]
    rfl
  case replySent =>
    rw [exec_transactionEnd, State.act_apply _ _ hr, Part.endTransaction_sent receiver slot sent filler, Link.leave,
      ResetWait.afterReply_eq]
    rfl
  case noticeSent =>
    rw [exec_transactionEnd, State.act_apply _ _ hr, Part.endTransaction_sent receiver slot sent filler]
    rfl

end Sys2Proof.Machine
end

section
/-! PROOF. What the resets leave and what they keep: the soft reset (O41), and the three full resets with the row or
sector that they cut (O42). -/

namespace Sys2Proof.Machine

/-! ### The soft reset -/

theorem Part.softResetDue_iff (p : Part) :
    p.softResetDue = true ↔ p.link.resetWait = .replySent ∧ p.store.step = none := by
  unfold Part.softResetDue
  rw [Bool.and_eq_true, beq_iff_eq, Option.isNone_iff_eq_none]

theorem Link.atReset_clear (k : EventKind) : Link.atReset.record k = .clear k.defaultPriority := by
  cases k <;> rfl

theorem Part.softReset_port (p : Part) (i : Fin 4) : p.softReset.ports[i] = p.ports[i].afterSoftReset :=
  mapAll_get p.ports Port.afterSoftReset i

theorem Part.softReset_line (p : Part) (i : Fin 8) : p.softReset.lines.line[i] = p.lines.line[i].afterSoftReset :=
  mapAll_get p.lines.line Line.afterSoftReset i

theorem exec_softReset (s : State) : exec .softReset s = s.act fun p => if p.softResetDue then p.softReset else p := rfl

/-- Settles O41: with the conditions met the part is `Part.softReset`, whose units are read off, and without them it is
the same. -/
theorem softReset : Obligations.SoftReset := by
  intro s hr
  refine ⟨fun wait step => ?_, fun undue => ?_⟩
  · have due : s.toPart.softResetDue = true := (Part.softResetDue_iff _).2 ⟨wait, step⟩
    refine ⟨{ s with toPart := s.toPart.softReset }, ?_, rfl, rfl, rfl, rfl, rfl, rfl, rfl, fun k => ?_, fun i => ?_,
      rfl, rfl, rfl, rfl, rfl, rfl, rfl, rfl, fun x hx => List.eq_of_mem_replicate hx, rfl, rfl, rfl, rfl, rfl, rfl,
      rfl, rfl, rfl, rfl, rfl, rfl, s.toPart.softReset_line, rfl, rfl, rfl⟩
    · rw [exec_softReset, State.act_apply _ _ hr, if_pos due]
    · have clear : s.toPart.softReset.link.record k = .clear k.defaultPriority := Link.atReset_clear k
      rw [clear]
      exact ⟨rfl, rfl⟩
    · rw [s.toPart.softReset_port]
      exact ⟨rfl, rfl, rfl, rfl, rfl, rfl, rfl⟩
  · refine (exec_softReset s).trans (State.act_same (if_neg fun due => ?_))
    obtain ⟨wait, step⟩ := (Part.softResetDue_iff _).1 due
    exact undue.elim (absurd wait) (absurd step)

/-! ### What a cut step leaves of the flash -/

theorem cutErase_read_other (n : Nat) (m : Memory) (q : Fin 48) {a : Nat}
    (apart : a < 4096 * q.val ∨ 4096 * (q.val + 1) ≤ a) :
    Memory.read 0xFF (cutErase n m q) a = Memory.read 0xFF m a := by
  have rows : ∀ (rows : List Nat) (m : Memory), (∀ r ∈ rows, r < 16) →
      Memory.read 0xFF (rows.foldl (fun m r => cutErasedRow n m (4096 * q.val + 256 * r)) m) a
        = Memory.read 0xFF m a := by
    intro rows
    induction rows with
    | nil => exact fun _ _ => rfl
    | cons r rows ih =>
      intro m hr
      rw [List.foldl_cons, ih _ fun x hx => hr x (List.mem_cons_of_mem _ hx)]
      unfold cutErasedRow
      split
      · rfl
      · have := hr r List.mem_cons_self
        exact Memory.read_writeAll_other _ _ _ _ _ (by rw [length_anyRow]; omega)
  exact rows _ m fun r hr => List.mem_range.1 hr

theorem cutProgram_read_other (n : Nat) (m : Memory) (k : Fin 8) (r : Nat) {a : Nat}
    (apart : a < 24576 * k.val + 256 * r ∨ 24576 * k.val + 256 * r + 256 ≤ a) :
    Memory.read 0xFF (cutProgram n m k r) a = Memory.read 0xFF m a :=
  Memory.read_writeAll_other _ _ _ _ _ (by rw [length_anyRow]; exact apart)

theorem Part.flashAfterCut_running {p : Part} {c : StepKind} {due : Nat}
    (hs : p.store.step = some { kind := c, phase := .running due }) :
    p.flashAfterCut = cutStep p.draws p.store.flash c := by
  unfold Part.flashAfterCut
  rw [hs]

theorem Part.flashAfterCut_quiet {p : Part} (hs : p.store.stepRunning = false) : p.flashAfterCut = p.store.flash := by
  unfold Part.flashAfterCut
  split
  · next c due e => exact absurd (p.store.stepRunning_iff.2 ⟨c, due, e⟩) (by rw [hs]; decide)
  · rfl

/-! ### The full resets -/

theorem exec_fullReset {s : State} {c : Instr} {cause : ResetCause}
    (h : (c, cause) ∈ [(Instr.powerOnReset, ResetCause.powerOn), (.supplyReset, .supply), (.pinReset, .pin)]) :
    exec c s = .next { s with toPart := s.toPart.beginReset cause } := by
  simp only [List.mem_cons, List.not_mem_nil, or_false, Prod.mk.injEq] at h
  obtain ⟨rfl, rfl⟩ | ⟨rfl, rfl⟩ | ⟨rfl, rfl⟩ := h
  all_goals rfl

theorem exec_fullResetEnd (s : State) : exec .fullResetEnd s = .next { s with toPart := s.toPart.endReset } := rfl

/-- Settles O42: a full reset leaves `Part.flashAfterCut`, which is the flash itself or the flash but for the row or
sector of the step that was cut. -/
theorem fullResets : Obligations.FullResets := by
  refine ⟨fun s c cause h => ?_, fun s hr => ?_, fun s hr => ?_⟩
  · refine ⟨{ s with toPart := s.toPart.beginReset cause }, exec_fullReset h, rfl, rfl, Part.flashAfterCut_quiet,
      fun q due a hs apart => ?_, fun step k r sum due a hs kind apart => ?_, rfl, rfl, rfl, fun i => ?_⟩
    · show Memory.read 0xFF s.toPart.flashAfterCut a = _
      rw [Part.flashAfterCut_running hs]
      exact cutErase_read_other _ _ q apart
    · show Memory.read 0xFF s.toPart.flashAfterCut a = _
      rw [Part.flashAfterCut_running hs]
      obtain rfl | ⟨rfl, rfl⟩ | ⟨rfl, rfl⟩ | ⟨rfl, rfl⟩ | ⟨rfl, rfl⟩ := kind
      all_goals exact cutProgram_read_other _ _ k _ apart
    · rw [s.toPart.beginReset_port]
      exact ⟨rfl, rfl⟩
  · refine ⟨{ s with toPart := Part.afterFullReset s.power.cause s.store.flash s.now s.draws }, ?_, rfl, rfl, rfl, rfl, rfl,
      rfl, rfl, rfl, rfl, rfl, fun i => ?_⟩
    · rw [exec_fullResetEnd, Part.endReset, if_pos hr]
    · rw [Part.afterFullReset_port]
      exact ⟨rfl, rfl⟩
  · rw [exec_fullResetEnd, Part.endReset, if_neg (by rw [hr]; decide)]

end Sys2Proof.Machine
end

section
/-! PROOF. POWER_STATE: what the entries into DOZE and PARKED leave of every unit, and the leaving of PARKED (O37). -/

namespace Sys2Proof.Machine

/-! ### A forced stop and an abandonment, as the ports and lines see them -/

theorem Part.syncTimer_unwatched (p : Part) {q : Port} (h : q.state.watches = false) : p.syncTimer q = q := by
  simp only [Part.syncTimer, h, Bool.false_eq_true, if_false]

/-- A forced stop touches no more of a port than its timer, and that only where the watchdog watches. -/
theorem Part.forceStop_port (p : Part) (i : Fin 4) :
    ∃ t, p.forceStop.ports[i] = { p.ports[i] with timer := t }
      ∧ (p.ports[i].state.watches = false → t = p.ports[i].timer) := by
  unfold Part.forceStop
  split
  · exact ⟨p.ports[i].timer, rfl, fun _ => rfl⟩
  · show ∃ t, p.enterStopped.ports[i] = _ ∧ _
    simp only [Part.enterStopped, Part.setRunState_ports, Part.syncWatchdogs_ports, mapAll_get]
    generalize ({ p with pace := _ } : Part) = r
    obtain ⟨t, ht⟩ := r.syncTimer_spec p.ports[i]
    refine ⟨t, ht, fun h => ?_⟩
    rw [r.syncTimer_unwatched h] at ht
    exact (congrArg Port.timer ht).symm

/-- A forced stop touches no more of a line than its mismatch check. -/
theorem Part.forceStop_line (p : Part) (j : Fin 8) :
    ∃ n f, p.forceStop.lines.line[j] = { p.lines.line[j] with mismatch := n, flag := f } := by
  unfold Part.forceStop
  split
  · exact ⟨_, _, rfl⟩
  · exact Part.follow_line _ _ j

/-- A forced stop keeps the trigger number and the parity. -/
theorem Part.forceStop_pace (p : Part) :
    p.forceStop.pace.trigger = p.pace.trigger ∧ p.forceStop.pace.parity = p.pace.parity := by
  unfold Part.forceStop
  split
  · exact ⟨rfl, rfl⟩
  · simp only [Part.enterStopped, Part.setRunState_pace, and_self]

/-- An abandonment touches no more of a port than its frame buffers. -/
theorem Part.abandon_port (p : Part) (i : Fin 4) : ∃ b, p.abandon.ports[i] = { p.ports[i] with buffers := b } := by
  obtain ⟨_, same⟩ | released := p.abandon_ports
  · exact ⟨p.ports[i].buffers, by rw [same]⟩
  · exact ⟨_, by rw [released, mapAll_get]; rfl⟩

/-! ### The ports at entry into PARKED -/

/-- A port at entry into PARKED: a FAILED one as it was, any other OFF (R35). -/
def Port.parked (q : Port) : Port := if q.state = .failed then q else q.powerDown .off

theorem Port.parked_failed {q : Port} (h : q.state = .failed) : q.parked = q := if_pos h

theorem Port.parked_other {q : Port} (h : q.state ≠ .failed) : q.parked = q.powerDown .off := if_neg h

theorem update_same {α : Type} {n : Nat} {v : Vector α n} {i : Fin n} {f : α → α} (h : f v[i] = v[i]) :
    update v i f = v := by
  unfold update
  rw [h]
  exact Vector.set_getElem_self _

/-- With the gather slot empty, a port parked is told to nobody but the link. -/
theorem Part.portParked_spec (i : Fin 4) {p : Part} (h : p.engine.slot = .empty) :
    ∃ l, p.portParked i = { p with link := l, ports := update p.ports i Port.parked } := by
  unfold Part.portParked
  split
  case isTrue failed =>
    exact ⟨p.link, by rw [update_same (f := Port.parked) (Port.parked_failed failed)]⟩
  case isFalse other =>
    rw [update_congr (f := Port.parked) (g := Port.powerDown .off) (Port.parked_other other)]
    by_cases off : (Port.powerDown .off p.ports[i]).state = p.ports[i].state
    · exact ⟨p.link, Part.changePort_same i _ p off⟩
    · rw [Part.changePort_moved i _ p off, Part.gatherTest_of_empty (by exact h)]
      exact ⟨_, rfl⟩

/-- Four changes, one for each port, are one change of all. -/
theorem update_all {α : Type} (v : Vector α 4) (f : α → α) :
    update (update (update (update v 0 f) 1 f) 2 f) 3 f = mapAll v f := by
  refine Vector.ext fun j hj => ?_
  simp only [update_get_nat, mapAll_get_nat]
  obtain rfl | rfl | rfl | rfl : j = 0 ∨ j = 1 ∨ j = 2 ∨ j = 3 := by omega
  all_goals rfl

theorem Part.portsParked_spec {p : Part} (h : p.engine.slot = .empty) :
    ∃ l, eachPort Part.portParked p = { p with link := l, ports := mapAll p.ports Port.parked } := by
  obtain ⟨l0, e0⟩ := Part.portParked_spec 0 h
  obtain ⟨l1, e1⟩ := Part.portParked_spec (p := { p with link := l0, ports := update p.ports 0 Port.parked }) 1 h
  obtain ⟨l2, e2⟩ := Part.portParked_spec (p := { p with
    link := l1, ports := update (update p.ports 0 Port.parked) 1 Port.parked }) 2 h
  obtain ⟨l3, e3⟩ := Part.portParked_spec (p := { p with
    link := l2, ports := update (update (update p.ports 0 Port.parked) 1 Port.parked) 2 Port.parked }) 3 h
  exact ⟨l3, by simp only [eachPort, e0, e1, e2, e3, update_all]⟩

/-! ### The entries into DOZE and PARKED as a whole -/

/-- The part that a forced stop and an abandonment leave at entry into PARKED, its gather slot cleared. -/
def Part.halted (p : Part) : Part := (p.setPower .parked).forceStop.abandon.setSlot .empty

theorem Part.enterParked_spec (p : Part) :
    ∃ l, p.enterParked = { p.halted with
      link := l, ports := mapAll p.halted.ports Port.parked, height := p.halted.height.stop
      lines := { p.halted.lines with line := mapAll p.halted.lines.line Line.takeSnapshot }
      display := { p.halted.display with held := false } } := by
  obtain ⟨l, e⟩ := Part.portsParked_spec (p := p.halted) rfl
  refine ⟨l, ?_⟩
  unfold Part.enterParked
  rw [show ((p.setPower .parked).forceStop.abandon).setSlot .empty = p.halted from rfl, e]
  rfl

theorem Part.halted_port (p : Part) (i : Fin 4) :
    ∃ t b, p.halted.ports[i] = { p.ports[i] with timer := t, buffers := b }
      ∧ (p.ports[i].state.watches = false → t = p.ports[i].timer) := by
  obtain ⟨t, stopped, kept⟩ := (p.setPower .parked).forceStop_port i
  obtain ⟨b, released⟩ := (p.setPower .parked).forceStop.abandon_port i
  exact ⟨t, b, released.trans (by rw [stopped]; rfl), kept⟩

theorem Part.halted_line (p : Part) (j : Fin 8) :
    ∃ n f, p.halted.lines.line[j] = { p.lines.line[j] with mismatch := n, flag := f } := by
  obtain ⟨n, f, e⟩ := (p.setPower .parked).forceStop_line j
  refine ⟨n, f, ?_⟩
  simp only [Part.halted, Part.setSlot_lines, Part.abandon_lines]
  exact e

theorem Part.enterParked_lines (p : Part) :
    p.enterParked.lines.line = mapAll p.halted.lines.line Line.takeSnapshot := by
  obtain ⟨l, e⟩ := p.enterParked_spec
  rw [e]

theorem Part.enterParked_ports (p : Part) : p.enterParked.ports = mapAll p.halted.ports Port.parked := by
  obtain ⟨l, e⟩ := p.enterParked_spec
  rw [e]

/-- What a FAILED port keeps at entry into PARKED (R35). -/
theorem Part.enterParked_failed {p : Part} {i : Fin 4} (h : p.ports[i].state = .failed) :
    ∃ b, p.enterParked.ports[i] = { p.ports[i] with buffers := b } := by
  obtain ⟨t, b, e, kept⟩ := p.halted_port i
  refine ⟨b, ?_⟩
  rw [p.enterParked_ports, mapAll_get, e, kept (by rw [h]; rfl)]
  exact Port.parked_failed h

/-- What becomes of any other port at entry into PARKED (R35). -/
theorem Part.enterParked_other {p : Part} {i : Fin 4} (h : p.ports[i].state ≠ .failed) :
    ∃ q : Port, p.enterParked.ports[i] = q.powerDown .off := by
  obtain ⟨t, b, e, _⟩ := p.halted_port i
  refine ⟨{ p.ports[i] with timer := t, buffers := b }, ?_⟩
  rw [p.enterParked_ports, mapAll_get, e]
  exact Port.parked_other h

theorem Part.enterParked_state (p : Part) (i : Fin 4) :
    p.enterParked.ports[i].state = if p.ports[i].state = .failed then .failed else .off := by
  split
  case isTrue failed =>
    obtain ⟨b, e⟩ := Part.enterParked_failed failed
    rw [e]
    exact failed
  case isFalse other =>
    obtain ⟨q, e⟩ := Part.enterParked_other other
    rw [e]
    rfl

theorem Part.enterParked_keeps {p : Part} {i : Fin 4} (h : p.ports[i].state = .failed) :
    p.enterParked.ports[i].power = p.ports[i].power ∧ p.enterParked.ports[i].timer = p.ports[i].timer := by
  obtain ⟨b, e⟩ := Part.enterParked_failed h
  rw [e]
  exact ⟨rfl, rfl⟩

theorem Part.enterParked_clears {p : Part} {i : Fin 4} (h : p.ports[i].state ≠ .failed) :
    let q := p.enterParked.ports[i]
    q.power = false ∧ q.timer = .stopped ∧ q.ready = []
      ∧ ∀ b : Fin 3, q.buffers[b].state ≠ .filling ∧ q.buffers[b].state ≠ .ready := by
  obtain ⟨q, e⟩ := Part.enterParked_other h
  rw [e]
  refine ⟨rfl, rfl, rfl, fun b => ?_⟩
  obtain ⟨filling, ready, _⟩ := (q.buffers[b]).dropped_state
  rw [← Port.clearBuffers_get] at filling ready
  exact ⟨filling, ready⟩

theorem Part.enterParked_unpowered {p : Part} (h : p.PortsPowered) (i : Fin 4) : p.enterParked.ports[i].power = false := by
  by_cases failed : p.ports[i].state = .failed
  · have off := h i
    simp only [Port.PowerOk, failed] at off
    exact (Part.enterParked_keeps failed).1.trans off
  · exact (Part.enterParked_clears failed).1

theorem Part.enterParked_engine (p : Part) :
    p.enterParked.engine.inflight = none ∧ p.enterParked.engine.tiles = p.engine.tiles
      ∧ p.enterParked.engine.previous = p.engine.previous := by
  obtain ⟨l, e⟩ := p.enterParked_spec
  rw [e]
  simp [Part.halted, Part.setPower]

theorem Part.enterParked_snapshot (p : Part) (j : Fin 8) :
    p.enterParked.lines.line[j].snapshot
      = if p.lines.line[j].config.out = false ∧ p.lines.line[j].config.wake = true then p.lines.line[j].debounced
        else none := by
  obtain ⟨n, f, e⟩ := p.halted_line j
  rw [p.enterParked_lines, mapAll_get, e]
  simp [Line.takeSnapshot]

theorem Part.enterParked_frame (p : Part) :
    p.enterParked.display = { p.display with held := false } ∧ p.enterParked.loader = p.loader
      ∧ p.enterParked.store = p.store ∧ p.enterParked.supply = p.supply ∧ p.enterParked.balancer = p.balancer := by
  obtain ⟨l, e⟩ := p.enterParked_spec
  rw [e]
  simp [Part.halted, Part.setPower]

theorem Part.enterDoze_port (p : Part) (i : Fin 4) : ∃ t, p.enterDoze.ports[i] = { p.ports[i] with timer := t } := by
  obtain ⟨t, e, _⟩ := (p.setPower .doze).forceStop_port i
  exact ⟨t, e⟩

theorem Part.enterDoze_frame (p : Part) :
    p.enterDoze.engine = { p.engine with slot := .empty } ∧ p.enterDoze.display = { p.display with held := false }
      ∧ p.enterDoze.height = p.height ∧ p.enterDoze.loader = p.loader ∧ p.enterDoze.store = p.store
      ∧ p.enterDoze.supply = p.supply ∧ p.enterDoze.balancer = p.balancer := by
  simp [Part.enterDoze, Part.setPower]

/-! ### POWER_STATE -/

/-- The reply of POWER_STATE in the part as given. -/
def Part.powerReply (status : Byte) (p : Part) : List Byte := [status, p.power.state.code, bit p.supply.low]

section Targets

variable {p : Part}

theorem doPowerState_stays {target : PowerState} (h : p.power.state = target) :
    doPowerState target.code p = (p.powerReply 0x00, p) := by
  cases target with
  | run =>
    show withPower stOk p.powerRun = _
    simp only [Part.powerRun, h]
    rfl
  | doze =>
    show withPower stOk p.powerDoze = _
    simp only [Part.powerDoze, h]
    rfl
  | parked => exact if_pos h

theorem doPowerState_wakes {target : PowerState} (ht : target ≠ .parked) (h : p.power.state = .parked) :
    doPowerState target.code p = ((p.leaveParked target).powerReply 0x00, p.leaveParked target) := by
  cases target with
  | run =>
    show withPower stOk p.powerRun = _
    simp only [Part.powerRun, h]
    rfl
  | doze =>
    show withPower stOk p.powerDoze = _
    simp only [Part.powerDoze, h]
    rfl
  | parked => exact absurd rfl ht

theorem doPowerState_runs (h : p.power.state = .doze) :
    doPowerState 0x00 p = ((p.setPower .run).powerReply 0x00, p.setPower .run) := by
  show withPower stOk p.powerRun = _
  simp only [Part.powerRun, h]
  rfl

theorem doPowerState_dozes (h : p.power.state = .run) :
    doPowerState 0x01 p = (p.enterDoze.powerReply 0x00, p.enterDoze) := by
  show withPower stOk p.powerDoze = _
  simp only [Part.powerDoze, h]
  rfl

theorem doPowerState_busy (h : p.power.state ≠ .parked) (engaged : p.store.session ≠ none ∨ p.store.step ≠ none) :
    doPowerState 0x02 p = (p.powerReply 0x02, p) :=
  (if_neg h).trans (if_pos ((Store.engaged_iff _).2 engaged))

theorem doPowerState_parks (h : p.power.state ≠ .parked) (free : ¬ (p.store.session ≠ none ∨ p.store.step ≠ none)) :
    doPowerState 0x02 p = (p.enterParked.powerReply 0x00, p.enterParked) :=
  (if_neg h).trans (if_neg fun engaged => free ((Store.engaged_iff _).1 engaged))

theorem doPowerState_unnamed {target : Byte} (h : 3 ≤ target.toNat) :
    doPowerState target p = (p.powerReply 0x04, p) := by
  unfold doPowerState
  split
  · omega
  · omega
  · omega
  · rfl

end Targets

/-- Settles O37: by the power state that the request finds and the one that it names. -/
theorem powerState : Obligations.PowerState := by
  unfold Obligations.PowerState
  intro s tag hs
  refine ⟨?staysRun, ?runs, ?dozes, ?busy, ?parks, ?wakes, ?stays, ?unnamed⟩
  case staysRun =>
    intro run
    refine (State.act_refused _ _ _ _ _ _ hs rfl (doPowerState_stays run)).trans ?_
    rw [Part.powerReply, run]
    rfl
  case runs =>
    intro doze
    exact State.act_effect _ _ _ _ _ _ _ hs rfl (doPowerState_runs doze)
  case dozes =>
    intro run
    obtain ⟨stopped, deadline⟩ := ((s.awake 0x48).toPart.setPower .doze).forceStop_quiet
    obtain ⟨trigger, parity⟩ := ((s.awake 0x48).toPart.setPower .doze).forceStop_pace
    obtain ⟨engine, display, height, loader, store, supply, balancer⟩ := (s.awake 0x48).toPart.enterDoze_frame
    refine ⟨_, State.act_effect _ _ _ _ _ _ _ hs rfl (doPowerState_dozes run), Part.enterDoze_power _, stopped, deadline,
      trigger, parity, engine, display, height, loader, store, supply, balancer, fun i => ?_⟩
    obtain ⟨t, e⟩ := (s.awake 0x48).toPart.enterDoze_port i
    simp only [State.replied, e, and_self]
  case busy =>
    intro awake engaged
    exact State.act_refused _ _ _ _ _ _ hs rfl (doPowerState_busy awake engaged)
  case parks =>
    intro awake free
    obtain ⟨stopped, deadline, slot, _⟩ := (s.awake 0x48).toPart.enterParked_quiet
      (by rw [Part.enterParked_power]; exact nofun)
    obtain ⟨inflight, tiles, previous⟩ := (s.awake 0x48).toPart.enterParked_engine
    obtain ⟨display, loader, store, supply, balancer⟩ := (s.awake 0x48).toPart.enterParked_frame
    refine ⟨_, State.act_effect _ _ _ _ _ _ _ hs rfl (doPowerState_parks awake free), ?_⟩
    simp only [State.replied]
    exact ⟨Part.enterParked_power _, stopped, deadline, slot, inflight, tiles, previous, Part.enterParked_state _,
      Part.enterParked_unpowered, fun _ => Part.enterParked_keeps, fun _ => Part.enterParked_clears,
      Part.enterParked_height _, Part.enterParked_snapshot _, display, loader, store, supply, balancer⟩
  case wakes =>
    intro target awake parked
    exact State.act_effect _ _ _ _ _ _ _ hs rfl (doPowerState_wakes awake parked)
  case stays =>
    intro target _ here
    refine (State.act_refused _ _ _ _ _ _ hs rfl (doPowerState_stays here)).trans ?_
    rw [Part.powerReply, here]
    rfl
  case unnamed =>
    intro target far
    exact State.act_refused _ _ _ _ _ _ hs rfl (doPowerState_unnamed far)

end Sys2Proof.Machine
end

section
/-! PROOF. The layer for the vehicle lines: the lines following one change (R143, R146), what a start of the pace and
auto-start leave alone and what they make of power, pace and ports (R50, R54, R150), and a recomputation of REVERSE. -/

namespace Sys2Proof.Machine

/-! ### The outputs following a change of one line -/

/-- Eight changes of which only the `i`th acts are that change. -/
theorem eachLine_one {f : Fin 8 → Part → Part} {i : Fin 8} {p : Part} (before : ∀ j, j ≠ i → f j p = p)
    (after : ∀ j, j ≠ i → f j (f i p) = f i p) : eachLine f p = f i p := by
  have step : ∀ j, f j (if i < j then f i p else p) = if i ≤ j then f i p else p := by
    intro j
    by_cases own : j = i
    · rw [own, if_neg (Fin.lt_irrefl i), if_pos (Fin.le_refl i)]
    · by_cases later : i < j
      · rw [if_pos later, if_pos (Fin.le_of_lt later), after j own]
      · have earlier : ¬ i ≤ j := fun le => later (Fin.lt_def.2 (Nat.lt_of_le_of_ne le fun e => own (Fin.ext e.symm)))
        rw [if_neg later, if_neg earlier, before j own]
  have next : ∀ j k : Fin 8, k.val = j.val + 1 → f k (if i ≤ j then f i p else p) = if i ≤ k then f i p else p := by
    intro j k hk
    have le : (i ≤ j) = (i < k) := propext (by rw [Fin.le_def, Fin.lt_def]; omega)
    simp only [le, step k]
  have first : f 0 p = if i ≤ 0 then f i p else p := by
    rw [← step 0, if_neg (Fin.not_lt_zero i)]
  unfold eachLine
  rw [first, next 0 1 rfl, next 1 2 rfl, next 2 3 rfl, next 3 4 rfl, next 4 5 rfl, next 5 6 rfl, next 6 7 rfl,
    if_pos (by rw [Fin.le_def]; omega)]

/-- The mismatch check of a line started again. -/
def Line.restarted (l : Line) : Line := { l with mismatch := 0, flag := false }

theorem Part.clearMismatch_spec (i : Fin 8) (p : Part) :
    p.clearMismatch i = { p.onLine i Line.restarted with
      link := if p.lines.line[i].flag = true ∧ p.lines.line[i].config.report = true then
          p.link.raise .lineChange [byte i.val, 3]
        else p.link } := by
  unfold Part.clearMismatch
  simp only [Bool.and_eq_true]
  split
  · rfl
  · rfl

/-- A line follows where it is an output before and after, and its drive has changed. -/
def Part.follows (before : Part) (i : Fin 8) (p : Part) : Bool :=
  before.lines.line[i].config.out && p.lines.line[i].config.out && before.driveChanged i p

theorem Part.followLine_eq (before : Part) (i : Fin 8) (p : Part) :
    before.followLine i p = if before.follows i p = true then p.clearMismatch i else p := rfl

/-- What the intended level of a line depends on. -/
theorem Part.intended_congr {p q : Part} {i : Fin 8} (pace : q.pace = p.pace) (supply : q.supply = p.supply)
    (filled : q.lines.filled = p.lines.filled) (awaiting : q.lines.awaiting = p.lines.awaiting)
    (config : q.lines.line[i].config = p.lines.line[i].config) : q.intended i = p.intended i := by
  have ok : q.pictureOk = p.pictureOk := by simp only [Part.pictureOk, pace, supply, filled, awaiting]
  simp only [Part.intended, Part.logicalLevel, config, pace, ok]

theorem Part.clearMismatch_config (i j : Fin 8) (p : Part) :
    (p.clearMismatch i).lines.line[j].config = p.lines.line[j].config := by
  rw [p.clearMismatch_spec]
  show (update p.lines.line i Line.restarted)[j].config = _
  rw [update_get]
  split <;> rfl

/-- Whether a line follows is not changed by another's mismatch check. -/
theorem Part.follows_clearMismatch (before : Part) (i j : Fin 8) (p : Part) :
    before.follows j (p.clearMismatch i) = before.follows j p := by
  have intended : (p.clearMismatch i).intended j = p.intended j :=
    Part.intended_congr (p.clearMismatch_pace i) (p.clearMismatch_supply i) (p.clearMismatch_filled i)
      (p.clearMismatch_awaiting i) (p.clearMismatch_config i j)
  simp only [Part.follows, Part.driveChanged, intended, p.clearMismatch_config]

/-- With no line but the `i`th following, `i` alone does. -/
theorem Part.follow_one {before p : Part} {i : Fin 8} (h : ∀ j, j ≠ i → before.follows j p = false) :
    before.follow p = before.followLine i p := by
  have still : ∀ j q, before.follows j q = false → before.followLine j q = q := fun j q hq => by
    rw [Part.followLine_eq, if_neg (by rw [hq]; decide)]
  refine eachLine_one (fun j hj => still j p (h j hj)) fun j hj => still j _ ?_
  rw [before.followLine_eq i p]
  split
  · rw [Part.follows_clearMismatch]
    exact h j hj
  · exact h j hj

/-- An OUT line with a role is driven from elsewhere; the others are not (R143). -/
def Line.Undriven (l : Line) : Prop := l.config.out = false ∨ l.config.role = .none

/-- A line that is not driven from elsewhere follows nothing but its own record. -/
theorem Part.follows_undriven {before p : Part} {j : Fin 8} (config : before.lines.line[j].config = p.lines.line[j].config)
    (h : p.lines.line[j].Undriven) : before.follows j p = false := by
  obtain input | role := h
  · simp only [Part.follows, input, Bool.and_false, Bool.false_and]
  · have intended : before.intended j = p.intended j := by simp only [Part.intended, Part.logicalLevel, config, role]
    simp only [Part.follows, Part.driveChanged, intended, config, bne_self_eq_false, Bool.or_self, Bool.and_false]

theorem Part.followLine_other {before p : Part} {i j : Fin 8} (h : j ≠ i) :
    (before.followLine i p).lines.line[j] = p.lines.line[j] := by
  rw [Part.followLine_eq]
  split
  · rw [p.clearMismatch_spec]
    show (update _ _ _)[j] = _
    rw [update_get, if_neg h.symm]
  · rfl

theorem Part.follow_undriven {before p : Part} {j : Fin 8} (config : before.lines.line[j].config = p.lines.line[j].config)
    (h : p.lines.line[j].Undriven) : (before.follow p).lines.line[j] = p.lines.line[j] := by
  have step : ∀ (i : Fin 8) (q : Part), q.lines.line[j] = p.lines.line[j] →
      (before.followLine i q).lines.line[j] = p.lines.line[j] := by
    intro i q hq
    by_cases hi : j = i
    · subst hi
      rw [Part.followLine_eq, Part.follows_undriven (by rw [hq, config]) (by rw [hq]; exact h)]
      exact hq
    · exact (Part.followLine_other hi).trans hq
  simp only [Part.follow, eachLine]
  exact step _ _ (step _ _ (step _ _ (step _ _ (step _ _ (step _ _ (step _ _ (step _ _ rfl)))))))

/-! ### What a start of the pace and changes of ports leave alone -/

/-- The records, the line unit's own state, and the units that neither the pace nor the ports reach are kept; of a line
only the mismatch check is not, and only where the line is driven from elsewhere. -/
structure Part.Spares (p q : Part) : Prop where
  line : ∀ j : Fin 8, ∃ n f, q.lines.line[j] = { p.lines.line[j] with mismatch := n, flag := f }
  undriven : ∀ j : Fin 8, p.lines.line[j].Undriven → q.lines.line[j] = p.lines.line[j]
  autoStart : q.lines.autoStart = p.lines.autoStart
  filled : q.lines.filled = p.lines.filled
  awaiting : q.lines.awaiting = p.lines.awaiting
  gains : q.balancer.gains = p.balancer.gains
  store : q.store = p.store
  supply : q.supply = p.supply
  height : q.height = p.height
  reverseOn : q.link.record .reverseOn = p.link.record .reverseOn
  woken : q.link.record .woken = p.link.record .woken

theorem Part.Spares.trans {p q r : Part} (h : p.Spares q) (g : q.Spares r) : p.Spares r where
  line j := by
    obtain ⟨_, _, e⟩ := h.line j
    obtain ⟨n, f, e'⟩ := g.line j
    exact ⟨n, f, e'.trans (by rw [e])⟩
  undriven j hj := (g.undriven j (by rw [h.undriven j hj]; exact hj)).trans (h.undriven j hj)
  autoStart := g.autoStart.trans h.autoStart
  filled := g.filled.trans h.filled
  awaiting := g.awaiting.trans h.awaiting
  gains := g.gains.trans h.gains
  store := g.store.trans h.store
  supply := g.supply.trans h.supply
  height := g.height.trans h.height
  reverseOn := g.reverseOn.trans h.reverseOn
  woken := g.woken.trans h.woken

theorem Part.Spares.of_lines {p q : Part} (lines : q.lines = p.lines) (gains : q.balancer.gains = p.balancer.gains)
    (store : q.store = p.store) (supply : q.supply = p.supply) (height : q.height = p.height)
    (records : ∀ k, k = .reverseOn ∨ k = .woken → q.link.record k = p.link.record k) : p.Spares q where
  line _ := ⟨_, _, by rw [lines]⟩
  undriven _ _ := by rw [lines]
  autoStart := by rw [lines]
  filled := by rw [lines]
  awaiting := by rw [lines]
  gains := gains
  store := store
  supply := supply
  height := height
  reverseOn := records _ (.inl rfl)
  woken := records _ (.inr rfl)

theorem Part.Spares.refl (p : Part) : p.Spares p := .of_lines rfl rfl rfl rfl rfl fun _ _ => rfl

theorem Link.raise_other {l : Link} {j k : EventKind} (d : List Byte) (h : k ≠ j) :
    (l.raise k d).record j = l.record j := by
  unfold Link.record
  rw [l.raise_record, if_neg fun e => h (EventKind.index_injective _ _ e)]

theorem Link.raise_own (l : Link) (k : EventKind) (d : List Byte) :
    ((l.raise k d).record k).pending = true ∧ ((l.raise k d).record k).detail = d := by
  unfold Link.record
  rw [l.raise_record, if_pos rfl]
  exact ⟨rfl, rfl⟩

section
variable (p : Part)

theorem Part.raise_spares {k : EventKind} (d : List Byte) (hr : k ≠ .reverseOn) (hw : k ≠ .woken) :
    p.Spares (p.raise k d) :=
  .of_lines rfl rfl rfl rfl rfl fun _ hj => Link.raise_other d (hj.elim (fun e => e ▸ hr) fun e => e ▸ hw)

theorem Part.tryStart_spares : p.Spares p.tryStart := by
  refine .of_lines p.tryStart_lines p.tryStart_balancer_gains p.tryStart_store p.tryStart_supply p.tryStart_height
    fun j hj => ?_
  obtain e | ⟨d, e⟩ := p.tryStart_link
  · rw [e]
  · rw [e]
    exact Link.raise_other d (by rcases hj with rfl | rfl <;> exact nofun)

/-- A change of pace, ports, engine and power is told to nobody. -/
theorem Part.units_spare (ports : Vector Port 4) (pace : Pace) (engine : Engine) (power : Power) :
    p.Spares { p with ports := ports, pace := pace, engine := engine, power := power } :=
  .of_lines rfl rfl rfl rfl rfl fun _ _ => rfl

theorem Part.closeGather_spares : p.Spares p.closeGather := by
  unfold Part.closeGather
  split
  · exact (p.units_spare _ _ _ _).trans (Part.tryStart_spares (p.setSlot _))
  · exact .refl p

theorem Part.skipReady_spares : p.Spares p.skipReady := by
  unfold Part.skipReady
  split
  · exact p.raise_spares _ nofun nofun
  · exact .refl p

theorem Part.gatherBoundary_spares (n : Half) (stale : Nat) : p.Spares (p.gatherBoundary n stale) := by
  unfold Part.gatherBoundary
  split
  · exact p.units_spare _ _ _ _
  · exact (p.closeGather_spares.trans (Part.skipReady_spares _)).trans (Part.units_spare _ _ _ _ _)

theorem Part.gatherTest_spares : p.Spares p.gatherTest := by
  unfold Part.gatherTest
  split
  · next n stale _ =>
    split
    · exact .trans (q := { p with pace := p.pace.cancel n }.setSlot (.ready n stale)) (p.units_spare _ _ _ _)
        (Part.tryStart_spares _)
    · exact .refl p
  · exact .refl p

theorem Part.changePort_spares (i : Fin 4) (f : Port → Port) : p.Spares (p.changePort i f) := by
  have ports : p.Spares (p.onPort i f) := p.units_spare _ _ _ _
  simp only [Part.changePort]
  split
  · exact ports
  · exact (ports.trans (Part.raise_spares (k := .cameraState) _ _ nofun nofun)).trans (Part.gatherTest_spares _)

/-- Lines that follow a change of something else than their records. -/
theorem Part.follow_spares {before : Part} (lines : before.lines.line = p.lines.line) : p.Spares (before.follow p) where
  line j := before.follow_line p j
  undriven j := Part.follow_undriven (by rw [lines])
  autoStart := before.follow_autoStart p
  filled := before.follow_filled p
  awaiting := before.follow_awaiting p
  gains := congrArg Balancer.gains (before.follow_balancer p)
  store := before.follow_store p
  supply := before.follow_supply p
  height := before.follow_height p
  reverseOn := before.follow_record p _ nofun
  woken := before.follow_record p _ nofun

theorem Part.setRunState_spares (r : RunState) : p.Spares (p.setRunState r) := by
  have paced : p.Spares ({ p with pace := { p.pace with runState := r } }.syncWatchdogs) := p.units_spare _ _ _ _
  exact paced.trans (Part.follow_spares _ (Part.syncWatchdogs_lines _ ▸ rfl))

theorem Part.displayBoundary_spares (m : PaceMode) : p.Spares (p.displayBoundary m) :=
  .of_lines (p.displayBoundary_lines m) (congrArg Balancer.gains (p.displayBoundary_balancer m)) (p.displayBoundary_store m)
    (p.displayBoundary_supply m) (p.displayBoundary_height m) fun _ _ => by rw [p.displayBoundary_link]

theorem Part.boundary_spares : p.Spares p.boundary := by
  have paced : p.Spares { p with pace := p.pace.boundary p.now } := p.units_spare _ _ _ _
  have followed := paced.trans (Part.follow_spares { p with pace := p.pace.boundary p.now } (before := p) rfl)
  unfold Part.boundary
  exact (followed.trans (Part.gatherBoundary_spares _ _ _)).trans (Part.displayBoundary_spares _ _)

theorem Part.startPace_spares : p.Spares p.startPace := by
  unfold Part.startPace
  split
  · exact (p.setRunState_spares _).trans (Part.boundary_spares _)
  · exact p.setRunState_spares _
  · exact .refl p

theorem Part.portPoweredOn_spares (i : Fin 4) : p.Spares (p.portPoweredOn i) := by
  unfold Part.portPoweredOn
  split
  · exact p.changePort_spares i _
  · exact .refl p

/-! ### Auto-start -/

/-- The ports as auto-start leaves them. -/
theorem Part.portPoweredOn_state (i j : Fin 4) :
    (p.portPoweredOn i).ports[j].state
      = if i = j ∧ p.ports[j].state = .off then .powering else p.ports[j].state := by
  unfold Part.portPoweredOn
  by_cases off : p.ports[i].state = .off
  · rw [if_pos off]
    obtain ⟨_, _, e⟩ := p.changePort_port i j fun q => { q.powerUp p.now with attempts := 0 }
    rw [e]
    by_cases hi : i = j
    · subst hi
      simp only [if_true, off, and_self]
      rfl
    · simp only [hi, false_and, if_false]
  · rw [if_neg off, if_neg]
    rintro ⟨rfl, h⟩
    exact off h

theorem Part.portsPoweredOn_state (j : Fin 4) :
    (eachPort Part.portPoweredOn p).ports[j].state
      = if p.ports[j].state = .off then .powering else p.ports[j].state := by
  have one : j = 0 ∨ j = 1 ∨ j = 2 ∨ j = 3 := by omega
  simp only [eachPort, Part.portPoweredOn_state]
  by_cases off : p.ports[j].state = .off
  · obtain rfl | rfl | rfl | rfl := one
    all_goals simp only [off]; rfl
  · simp only [off, and_false, if_false]

theorem Part.startPace_port (j : Fin 4) : p.startPace.ports[j].state = p.ports[j].state := by
  unfold Part.startPace
  split
  · obtain ⟨_, _, e⟩ := (p.setRunState .running).boundary_port j
    obtain ⟨_, e'⟩ := p.setRunState_port .running j
    rw [e, e']
  · obtain ⟨_, e⟩ := p.setRunState_port .running j
    rw [e]
  · rfl

theorem Part.startPace_power : p.startPace.power = p.power := by
  unfold Part.startPace
  split
  · rw [Part.boundary_power, Part.setRunState_power]
  · rw [Part.setRunState_power]
  · rfl

/-- The pace after auto-start (R54). -/
theorem Part.autoStartPace_pace :
    p.autoStartPace.pace.runState = .running ∧ p.autoStartPace.pace.configured.mode = .continuous
      ∧ p.autoStartPace.pace.inForce.mode = .continuous := by
  unfold Part.autoStartPace Part.startPace
  split
  · rw [Part.boundary_pace, Part.setRunState_pace]
    exact ⟨rfl, rfl, rfl⟩
  · rw [Part.setRunState_pace]
    exact ⟨rfl, rfl, rfl⟩
  · next running => exact ⟨running, rfl, rfl⟩

/-- The part in RUN, as auto-start finds or brings it. -/
def Part.broughtToRun : Part := if p.power.state = .doze then p.setPower .run else p

theorem Part.broughtToRun_spares : p.Spares p.broughtToRun := by
  unfold Part.broughtToRun
  split
  · exact p.units_spare _ _ _ _
  · exact .refl p

theorem Part.broughtToRun_power (h : p.power.state ≠ .parked) : p.broughtToRun.power = { p.power with state := .run } := by
  unfold Part.broughtToRun
  split
  · rfl
  · next doze =>
    have run : p.power.state = .run := by revert h doze; cases p.power.state <;> simp
    rw [← run]

theorem Part.broughtToRun_ports : p.broughtToRun.ports = p.ports := by
  unfold Part.broughtToRun
  split <;> rfl

theorem Part.autoStart_eq : p.autoStart = (eachPort Part.portPoweredOn p.broughtToRun).autoStartPace := rfl

theorem Part.autoStartPace_eq : p.autoStartPace = Part.startPace { p with pace := { p.pace with
    configured := { p.pace.configured with mode := .continuous }
    inForce := { p.pace.inForce with mode := .continuous } } } := rfl

theorem Part.portsPoweredOn_spares : p.Spares (eachPort Part.portPoweredOn p) :=
  (((p.portPoweredOn_spares 0).trans (Part.portPoweredOn_spares _ 1)).trans (Part.portPoweredOn_spares _ 2)).trans
    (Part.portPoweredOn_spares _ 3)

theorem Part.autoStartPace_spares : p.Spares p.autoStartPace := by
  rw [Part.autoStartPace_eq]
  exact (p.units_spare _ _ _ _).trans (Part.startPace_spares { p with pace := _ })

theorem Part.autoStart_spares : p.Spares p.autoStart := by
  rw [Part.autoStart_eq]
  exact (p.broughtToRun_spares.trans (Part.portsPoweredOn_spares _)).trans (Part.autoStartPace_spares _)

theorem Part.autoStart_power (h : p.power.state ≠ .parked) : p.autoStart.power = { p.power with state := .run } := by
  rw [Part.autoStart_eq, Part.autoStartPace_eq, Part.startPace_power, ← p.broughtToRun_power h]
  simp only [eachPort, Part.portPoweredOn_power]

theorem Part.autoStart_port (j : Fin 4) :
    p.autoStart.ports[j].state = if p.ports[j].state = .off then .powering else p.ports[j].state := by
  have powered := Part.portsPoweredOn_state p.broughtToRun j
  rw [p.broughtToRun_ports] at powered
  rw [Part.autoStart_eq, Part.autoStartPace_eq, Part.startPace_port, ← powered]

theorem Part.autoStart_pace :
    p.autoStart.pace.runState = .running ∧ p.autoStart.pace.configured.mode = .continuous
      ∧ p.autoStart.pace.inForce.mode = .continuous := by
  rw [Part.autoStart_eq]
  exact Part.autoStartPace_pace _

end

/-! ### A recomputation of REVERSE -/

theorem Part.reverseChange_same {before : Bool} {i : Fin 8} {p : Part} (h : before = true ∨ p.reverse = false) :
    p.reverseChange before i = p := by
  unfold Part.reverseChange
  rcases h with h | h <;> simp [h]

theorem Part.reverseChange_rises {i : Fin 8} {p : Part} (h : p.reverse = true) :
    p.reverseChange false i = p.reverseOn i := by
  unfold Part.reverseChange
  simp [h]

theorem Part.reverseOn_disabled {i : Fin 8} {p : Part} (h : p.lines.autoStart = false) :
    p.reverseOn i = p.raise .reverseOn [byte i.val, 2] := by
  unfold Part.reverseOn
  simp [h]

theorem Part.reverseOn_parked {i : Fin 8} {p : Part} (on : p.lines.autoStart = true) (h : p.power.state = .parked) :
    p.reverseOn i = p.raise .reverseOn [byte i.val, 3] := by
  unfold Part.reverseOn
  simp [on, h]

theorem Part.reverseOn_applied {i : Fin 8} {p : Part} (on : p.lines.autoStart = true) (h : p.power.state ≠ .parked) :
    p.reverseOn i = (p.raise .reverseOn [byte i.val, 1]).autoStart := by
  unfold Part.reverseOn
  simp [on, h]

/-- Some asserted IN line has role REVERSE. -/
theorem Part.reverse_iff (p : Part) :
    p.reverse = true ↔ ∃ i : Fin 8, p.lines.line[i].asserted = true ∧ p.lines.line[i].config.role = .reverse := by
  simp [Part.reverse, Lines.anyAsserted]

/-- A REVERSE that comes with a change of one line is asserted by that line. -/
theorem Part.reverse_by {p q : Part} {i : Fin 8} (other : ∀ j : Fin 8, j ≠ i → q.lines.line[j] = p.lines.line[j])
    (before : p.reverse = false) (after : q.reverse = true) :
    q.lines.line[i].asserted = true ∧ q.lines.line[i].config.role = .reverse := by
  obtain ⟨j, asserted, role⟩ := (Part.reverse_iff _).1 after
  by_cases own : j = i
  · exact own ▸ ⟨asserted, role⟩
  · rw [other j own] at asserted role
    rw [(Part.reverse_iff p).2 ⟨j, asserted, role⟩] at before
    cases before

end Sys2Proof.Machine
end

section
/-! PROOF. LINE_WRITE and LINE_CONFIGURE of one line (O36, O35). -/

namespace Sys2Proof.Machine

/-! ### A line that nothing changed does not follow -/

theorem Part.follows_same {before p : Part} {j : Fin 8} (pace : p.pace = before.pace) (supply : p.supply = before.supply)
    (filled : p.lines.filled = before.lines.filled) (awaiting : p.lines.awaiting = before.lines.awaiting)
    (config : p.lines.line[j].config = before.lines.line[j].config) : before.follows j p = false := by
  have intended := Part.intended_congr pace supply filled awaiting config
  simp only [Part.follows, Part.driveChanged, intended, config, bne_self_eq_false, Bool.or_self, Bool.and_false]

/-- A line's drive is its record's: the intended level changes with nothing else while the other units stay. -/
theorem Part.follows_drive {before p : Part} {j : Fin 8} (pace : p.pace = before.pace) (supply : p.supply = before.supply)
    (filled : p.lines.filled = before.lines.filled) (awaiting : p.lines.awaiting = before.lines.awaiting) :
    before.follows j p = true ↔ before.lines.line[j].config.out = true ∧ p.lines.line[j].config.out = true
      ∧ p.lines.line[j].config.drive ≠ before.lines.line[j].config.drive := by
  have moved : before.driveChanged j p = true ↔ p.lines.line[j].config.drive ≠ before.lines.line[j].config.drive := by
    constructor
    · intro changed same
      obtain ⟨attr, role, level⟩ := Prod.mk.inj same |>.imp id Prod.mk.inj
      have ok : p.pictureOk = before.pictureOk := by simp only [Part.pictureOk, pace, supply, filled, awaiting]
      have intended : p.intended j = before.intended j := by
        simp only [Part.intended, Part.logicalLevel, attr, role, level, pace, ok]
      simp only [Part.driveChanged, intended, same, bne_self_eq_false, Bool.or_self, Bool.false_eq_true] at changed
    · intro differ
      simp only [Part.driveChanged, Bool.or_eq_true, bne_iff_ne]
      exact .inr differ.symm
  simp only [Part.follows, Bool.and_eq_true, moved, and_assoc]

/-! ### LINE_WRITE -/

theorem levels?_one (i : Fin 8) (level : Bool) : levels? [(BitVec.ofNat 8 i.val, bit level)] = some [(i, level)] := by
  cases level <;> simp [levels?, bit?, bit]

theorem Line.writable_iff (l : Line) : l.writable = true ↔ l.config.out = true ∧ l.config.role = .none := by
  simp [Line.writable]

section
variable {p : Part} {i : Fin 8}

/-- The part with one line's level written. -/
def Part.written (i : Fin 8) (level : Bool) (p : Part) : Part := p.follow (p.onLine i (Line.withLevel level))

theorem doLineWrite_one (level : Bool) (out : p.lines.line[i].config.out = true) (role : p.lines.line[i].config.role = .none) :
    doLineWrite [(BitVec.ofNat 8 i.val, bit level)] p
      = ([0x00, byte i.val, bit ((p.written i level).intended i)], p.written i level) := by
  have writable := (Line.writable_iff _).2 ⟨out, role⟩
  simp only [doLineWrite, levels?_one]
  rw [if_neg (by simp), if_pos (by rw [List.all_cons, writable]; rfl)]
  rfl

theorem doLineWrite_refused (level : Bool) (h : p.lines.line[i].config.out = false ∨ p.lines.line[i].config.role ≠ .none) :
    doLineWrite [(BitVec.ofNat 8 i.val, bit level)] p = ([0x03], p) := by
  have fixed : p.lines.line[i].writable ≠ true := fun w => by
    obtain ⟨out, role⟩ := (Line.writable_iff _).1 w
    exact h.elim (fun e => by rw [e] at out; cases out) (absurd role)
  simp only [doLineWrite, levels?_one]
  rw [if_neg (by simp), if_neg (by rw [List.all_cons]; simp only [List.all_nil, Bool.and_true]; exact fixed)]
  rfl

theorem Part.written_eq (level : Bool) : p.written i level = p.followLine i (p.onLine i (Line.withLevel level)) :=
  Part.follow_one fun j hj => Part.follows_same rfl rfl rfl rfl (by
    show (update p.lines.line i (Line.withLevel level))[j].config = _
    rw [update_get, if_neg hj.symm])

theorem Part.onLine_get (f : Line → Line) (j : Fin 8) :
    (p.onLine i f).lines.line[j] = if i = j then f p.lines.line[j] else p.lines.line[j] := update_get _ _ _ _

theorem Part.written_follows (level : Bool) (out : p.lines.line[i].config.out = true) :
    p.follows i (p.onLine i (Line.withLevel level)) = true ↔ level ≠ p.lines.line[i].config.level := by
  have line : (p.onLine i (Line.withLevel level)).lines.line[i] = p.lines.line[i].withLevel level := by
    rw [Part.onLine_get, if_pos rfl]
  refine (Part.follows_drive (before := p) (p := p.onLine i (Line.withLevel level)) rfl rfl rfl rfl).trans ?_
  rw [line]
  refine ⟨fun ⟨_, _, drive⟩ same => drive ?_, fun differ => ⟨out, out, fun drive => differ ?_⟩⟩
  · simp only [LineConfig.drive, Line.withLevel, same]
  · exact (Prod.mk.inj (Prod.mk.inj drive).2).2

theorem Part.written_line (level : Bool) (out : p.lines.line[i].config.out = true) :
    (p.written i level).lines.line[i] = { p.lines.line[i] with
      config := { p.lines.line[i].config with level := level }
      mismatch := if level = p.lines.line[i].config.level then p.lines.line[i].mismatch else 0
      flag := p.lines.line[i].flag && (level == p.lines.line[i].config.level) } := by
  rw [Part.written_eq, Part.followLine_eq]
  by_cases same : level = p.lines.line[i].config.level
  · rw [if_neg fun follows => (Part.written_follows level out).1 follows same, Part.onLine_get, if_pos rfl]
    simp only [Line.withLevel, ← same, if_true, beq_self_eq_true, Bool.and_true]
  · rw [if_pos ((Part.written_follows level out).2 same), Part.clearMismatch_spec]
    show (Part.onLine i Line.restarted _).lines.line[i] = _
    rw [Part.onLine_get, if_pos rfl, Part.onLine_get, if_pos rfl, if_neg same, beq_eq_false_iff_ne.2 same, Bool.and_false]
    rfl

theorem Part.written_other (level : Bool) {j : Fin 8} (hj : j ≠ i) : (p.written i level).lines.line[j] = p.lines.line[j] := by
  rw [Part.written_eq, Part.followLine_other hj, Part.onLine_get, if_neg hj.symm]

theorem Part.written_frame (level : Bool) :
    { p.written i level with link := p.link, lines := p.lines } = p := by
  rw [Part.written_eq, Part.followLine_eq]
  split
  · rw [Part.clearMismatch_spec]
    rfl
  · rfl

theorem Part.written_intended (level : Bool) (out : p.lines.line[i].config.out = true)
    (role : p.lines.line[i].config.role = .none) :
    (p.written i level).intended i = (level != (p.lines.line[i].config.attr == .inverted)) := by
  simp only [Part.intended, Part.logicalLevel, Part.written_line level out, role]

end

/-- Settles O36: the written line alone follows, and only where its level changes. -/
theorem lineWrite : Obligations.LineWrite := by
  unfold Obligations.LineWrite
  intro s tag i level hs
  refine ⟨fun out role => ?_, fun fixed => ?_, ?_⟩
  · refine ⟨_, State.act_effect _ _ _ _ _ _ _ hs rfl (doLineWrite_one level out role), Part.written_line level out,
      fun j hj => Part.written_other level hj, Part.written_intended level out role, ?_⟩
    exact congrArg (fun p : Part => ({ s.awake 0x42 with toPart := p } : State)) (Part.written_frame level)
  · exact State.act_refused _ _ _ _ _ _ hs rfl (doLineWrite_refused level fixed)
  · exact State.act_refused _ _ _ _ _ _ hs rfl rfl

end Sys2Proof.Machine
end

section
/-! PROOF. LINE_CONFIGURE of one line (O35): the bytes of an entry and the record they name, the line configured and
following, and REVERSE recomputed. -/

namespace Sys2Proof.Machine

/-! ### The bytes of an entry (R143) -/

theorem bit_named {b : Byte} (h : b.toNat < 2) : ∃ v, b = bit v := ⟨b == 1, (bit_beq_one h).symm⟩

theorem bit_is_one (v : Bool) : (bit v == 1) = v := by cases v <;> rfl

theorem bit_eq_one_iff (v : Bool) : bit v = 1 ↔ v = true := by cases v <;> decide

theorem bit?_bit (v : Bool) : bit? (bit v) = some v := by cases v <;> rfl

theorem lineAttr?_code (a : LineAttr) : lineAttr? a.code = some a := by cases a <;> rfl

theorem lineAttr?_some {b : Byte} {a : LineAttr} (h : lineAttr? b = some a) : b = a.code := by
  unfold lineAttr? at h
  split at h
  case h_5 => cases h
  all_goals
    next e =>
      cases h
      exact BitVec.eq_of_toNat_eq e

theorem attr_named {b : Byte} (h : b.toNat ≤ 3) : ∃ a : LineAttr, b = a.code := by
  obtain rfl | rfl | rfl | rfl : b = 0 ∨ b = 1 ∨ b = 2 ∨ b = 3 := by bv_omega
  · exact ⟨.floating, rfl⟩
  · exact ⟨.biased, rfl⟩
  · exact ⟨.plain, rfl⟩
  · exact ⟨.inverted, rfl⟩

theorem LineAttr.code_injective {a b : LineAttr} (h : a.code = b.code) : a = b :=
  Option.some.inj ((lineAttr?_code a).symm.trans ((congrArg lineAttr? h).trans (lineAttr?_code b)))

theorem lineRole?_code (r : LineRole) : lineRole? r.code = some r := by
  match r with
  | .none | .reverse | .parity | .pictureOk | .occlude 0 | .occlude 1 | .occlude 2 | .occlude 3 => rfl

theorem lineRole?_some {b : Byte} {r : LineRole} (h : lineRole? b = some r) : b = r.code := by
  unfold lineRole? at h
  split at h
  case h_9 => cases h
  all_goals
    next e =>
      cases h
      exact BitVec.eq_of_toNat_eq e

theorem role_named {b : Byte} (h : b.toNat ≤ 7) : ∃ r : LineRole, b = r.code := by
  obtain rfl | rfl | rfl | rfl | rfl | rfl | rfl | rfl : b = 0 ∨ b = 1 ∨ b = 2 ∨ b = 3 ∨ b = 4 ∨ b = 5 ∨ b = 6 ∨ b = 7 := by
    bv_omega
  · exact ⟨.none, rfl⟩
  · exact ⟨.occlude 0, rfl⟩
  · exact ⟨.occlude 1, rfl⟩
  · exact ⟨.occlude 2, rfl⟩
  · exact ⟨.occlude 3, rfl⟩
  · exact ⟨.reverse, rfl⟩
  · exact ⟨.parity, rfl⟩
  · exact ⟨.pictureOk, rfl⟩

theorem LineRole.code_injective {a b : LineRole} (h : a.code = b.code) : a = b :=
  Option.some.inj ((lineRole?_code a).symm.trans ((congrArg lineRole? h).trans (lineRole?_code b)))

/-- The attributes of a direction, by their codes. -/
theorem LineAttr.fits_iff (out : Bool) (a : LineAttr) :
    a.fits out = true ↔ if out = true then 2 ≤ a.code.toNat ∧ a.code.toNat ≤ 3 else a.code.toNat ≤ 1 := by
  cases out <;> cases a <;> decide

/-- The roles of a direction, by their codes. -/
theorem LineRole.fits_iff (out : Bool) (r : LineRole) :
    r.fits out = true ↔ if out = true then r.code = 0 ∨ r.code = 6 ∨ r.code = 7 else r.code.toNat ≤ 5 := by
  match r with
  | .none | .reverse | .parity | .pictureOk | .occlude 0 | .occlude 1 | .occlude 2 | .occlude 3 => cases out <;> decide

/-- The line kind whose level is not used, and the roles that drive the pad instead of it, by their codes. -/
theorem LineAttr.floating_iff (a : LineAttr) : a.code = 0 ↔ a = .floating := by cases a <;> decide

theorem LineRole.drives_iff (r : LineRole) : 6 ≤ r.code.toNat ↔ r.drives = true := by
  match r with
  | .none | .reverse | .parity | .pictureOk | .occlude 0 | .occlude 1 | .occlude 2 | .occlude 3 => decide

/-- An entry of LINE_CONFIGURE whose values lie in their fields and belong to its direction (R143, R152). -/
def EntryAllowed (e : LineEntry) : Prop :=
  e.line.toNat < 8 ∧ e.direction.toNat < 2 ∧ e.level.toNat < 2 ∧ e.active.toNat < 2 ∧ e.report.toNat < 2 ∧ e.wake.toNat < 2
    ∧ (if (e.direction == 1) = true then
        2 ≤ e.attr.toNat ∧ e.attr.toNat ≤ 3 ∧ (e.role = 0 ∨ e.role = 6 ∨ e.role = 7) ∧ e.wake = 0
      else e.attr.toNat ≤ 1 ∧ e.role.toNat ≤ 5)

/-- The level of an entry as it is stored. -/
def entryLevel (e : LineEntry) : Byte := if e.attr = 0 ∨ 6 ≤ e.role.toNat then 0x00 else e.level

/-- Record `c` is what entry `e` names, an unused level as LOW and an output's active level as HIGH (R143). -/
structure LineConfig.Records (c : LineConfig) (e : LineEntry) : Prop where
  out : c.out = (e.direction == 1)
  direction : bit c.out = e.direction
  attr : c.attr.code = e.attr
  role : c.role.code = e.role
  level : bit c.level = (entryLevel e)
  active : bit c.active = if (e.direction == 1) = true then 0x01 else e.active
  report : bit c.report = e.report
  wake : bit c.wake = e.wake

theorem LineConfig.Records.bytes {c : LineConfig} {e : LineEntry} (h : c.Records e) :
    c.bytes = [e.direction, e.attr, (entryLevel e), e.role, if (e.direction == 1) = true then 0x01 else e.active, e.report,
      e.wake] := by
  rw [LineConfig.bytes, h.direction, h.attr, h.level, h.role, h.active, h.report, h.wake]

theorem LineConfig.Records.not_reverse {c : LineConfig} {e : LineEntry} (h : c.Records e) (role : e.role ≠ 5) :
    c.role ≠ .reverse := fun reverse => role (by rw [← h.role, reverse]; rfl)

/-- The drive of a record and its three bytes determine each other. -/
theorem LineConfig.Records.drive_iff {c d : LineConfig} {e : LineEntry} (h : c.Records e) :
    c.drive = d.drive ↔ (d.bytes.drop 1).take 3 = [e.attr, (entryLevel e), e.role] := by
  rw [← h.attr, ← h.level, ← h.role]
  show _ ↔ [d.attr.code, bit d.level, d.role.code] = _
  constructor
  · intro same
    obtain ⟨attr, rest⟩ := Prod.mk.inj same
    obtain ⟨role, level⟩ := Prod.mk.inj rest
    rw [attr, role, level]
  · intro same
    simp only [List.cons.injEq, and_true] at same
    obtain ⟨attr, level, role⟩ := same
    rw [LineConfig.drive, LineConfig.drive, LineAttr.code_injective attr, LineRole.code_injective role]
    rw [← bit_is_one d.level, level, bit_is_one]

theorem entry?_some {e : LineEntry} {x : Fin 8 × LineConfig} (h : entry? e = some x) : EntryAllowed e := by
  unfold entry? at h
  split at h
  case h_2 => cases h
  case h_1 i out a level role active report wake hi hout ha hlevel hrole hactive hreport hwake =>
    split at h
    case isFalse => cases h
    case isTrue fit =>
      simp only [Bool.and_eq_true, Bool.not_eq_true', Bool.and_eq_false_imp] at fit
      obtain ⟨⟨attr, role'⟩, quiet⟩ := fit
      obtain ⟨o, ho⟩ := bit_named (bit?_some hout)
      obtain ⟨w, hw⟩ := bit_named (bit?_some hwake)
      obtain rfl : o = out := by rw [ho, bit?_bit] at hout; exact Option.some.inj hout
      obtain rfl : w = wake := by rw [hw, bit?_bit] at hwake; exact Option.some.inj hwake
      rw [LineAttr.fits_iff, ← lineAttr?_some ha] at attr
      rw [LineRole.fits_iff, ← lineRole?_some hrole] at role'
      refine ⟨set?_some hi, bit?_some hout, bit?_some hlevel, bit?_some hactive, bit?_some hreport, bit?_some hwake, ?_⟩
      rw [ho, bit_is_one]
      split at attr
      case isTrue on =>
        rw [if_pos on] at role' ⊢
        exact ⟨attr.1, attr.2, role', by rw [hw, quiet on]; rfl⟩
      case isFalse off =>
        rw [if_neg off] at role' ⊢
        exact ⟨attr, role'⟩

theorem entry?_allowed {e : LineEntry} {i : Fin 8} (h : EntryAllowed e) (hi : e.line = BitVec.ofNat 8 i.val) :
    ∃ c : LineConfig, entry? e = some (i, c) ∧ c.Records e := by
  obtain ⟨line, direction, attr, level, role, active, report, wake⟩ := e
  obtain ⟨_, hout, hlevel, hactive, hreport, hwake, fit⟩ := h
  obtain ⟨out, rfl⟩ := bit_named hout
  obtain ⟨lev, rfl⟩ := bit_named hlevel
  obtain ⟨act, rfl⟩ := bit_named hactive
  obtain ⟨rep, rfl⟩ := bit_named hreport
  obtain ⟨wak, rfl⟩ := bit_named hwake
  simp only [bit_is_one] at fit
  obtain ⟨a, rfl⟩ := attr_named (b := attr) (by split at fit <;> omega)
  obtain ⟨r, rfl⟩ := role_named (b := role) (by
    split at fit
    · obtain ⟨_, _, rfl | rfl | rfl, _⟩ := fit <;> decide
    · omega)
  obtain rfl : line = _ := hi
  have attr : a.fits out = true := by
    rw [LineAttr.fits_iff]
    split at fit
    · next on => rw [if_pos on]; exact ⟨fit.1, fit.2.1⟩
    · next off => rw [if_neg off]; exact fit.1
  have role : r.fits out = true := by
    rw [LineRole.fits_iff]
    split at fit
    · next on => rw [if_pos on]; exact fit.2.2.1
    · next off => rw [if_neg off]; exact fit.2
  have quiet : (out && wak) = false := by
    split at fit
    · obtain ⟨_, _, _, off⟩ := fit
      cases wak
      · simp
      · exact absurd off (by decide)
    · next off => rw [Bool.eq_false_iff.2 off, Bool.false_and]
  refine ⟨LineConfig.stored { out := out, attr := a, level := lev, role := r, active := act, report := rep, wake := wak },
    ?_, (bit_is_one out).symm, rfl, rfl, rfl, ?_, ?_, rfl, rfl⟩
  · simp only [entry?, set?_ofNat, bit?_bit, lineAttr?_code, lineRole?_code, attr, role, quiet, Bool.not_false, Bool.and_self,
      if_true]
  · simp only [LineConfig.stored, entryLevel, LineAttr.floating_iff, LineRole.drives_iff]
    by_cases float : a = .floating
    · simp [float, bit]
    · cases r.drives <;> simp [float, bit]
  · simp only [LineConfig.stored, bit_is_one]
    cases out <;> rfl

/-! ### One line configured -/

/-- A line after its record becomes `c`, an output whose drive changes with its mismatch check started again (R152). -/
def Line.reconfigured (parked : Bool) (c : LineConfig) (l : Line) : Line :=
  if l.config.out = true ∧ c.out = true ∧ c.drive ≠ l.config.drive then (l.configure parked c).restarted
  else l.configure parked c

theorem Line.configure_turned {parked : Bool} {c : LineConfig} {l : Line} (h : l.config.out ≠ c.out) :
    l.configure parked c = { l with
      config := c, prev := none, debounced := none, mismatch := 0, flag := false, snapshot := l.newSnapshot parked c } := by
  simp only [Line.configure, beq_eq_false_iff_ne.2 h, Bool.false_eq_true, if_false, Bool.false_and]

theorem Line.configure_kept {parked : Bool} {c : LineConfig} {l : Line} (h : l.config.out = c.out) :
    l.configure parked c = { l with config := c, snapshot := l.newSnapshot parked c } := by
  simp only [Line.configure, h, beq_self_eq_true, if_true, Bool.true_and]

theorem Line.newSnapshot_eq (parked : Bool) (c : LineConfig) (l : Line) :
    l.newSnapshot parked c
      = if parked = true ∧ c.out = false ∧ c.wake = true then (if l.config.wake then l.snapshot else l.debounced)
        else none := by
  unfold Line.newSnapshot
  cases parked <;> cases c.out <;> cases c.wake <;> rfl

theorem Part.newSnapshot_eq {c : LineConfig} {e : LineEntry} (h : c.Records e) (p : Part) (l : Line) :
    l.newSnapshot (p.power.state == PowerState.parked) c
      = if p.power.state = PowerState.parked ∧ (e.direction == 1) = false ∧ e.wake = 1 then
          (if l.config.wake then l.snapshot else l.debounced)
        else none := by
  rw [Line.newSnapshot_eq]
  exact ite_congr (propext (by rw [beq_iff_eq, ← h.out, ← h.wake, bit_eq_one_iff])) (fun _ => rfl) fun _ => rfl

/-- What LINE_CONFIGURE makes of the line it names. -/
theorem Line.reconfigured_spec {parked : Bool} {c : LineConfig} {e : LineEntry} (h : c.Records e) (l : Line) :
    let m := l.reconfigured parked c
    let out := e.direction == 1
    let same := (l.config.bytes.drop 1).take 3 = [e.attr, entryLevel e, e.role]
    m.config = c ∧ m.raw = l.raw
      ∧ (l.config.out ≠ out → m.prev = none ∧ m.debounced = none ∧ m.mismatch = 0 ∧ m.flag = false)
      ∧ (l.config.out = out → m.prev = l.prev ∧ m.debounced = l.debounced)
      ∧ (l.config.out = out → out = false ∨ same → m.mismatch = l.mismatch ∧ m.flag = l.flag)
      ∧ (l.config.out = true → out = true → ¬ same → m.mismatch = 0 ∧ m.flag = false)
      ∧ m.snapshot = l.newSnapshot parked c := by
  rw [← h.out, ← h.drive_iff]
  unfold Line.reconfigured
  by_cases kept : l.config.out = c.out
  · rw [Line.configure_kept kept]
    split
    case isTrue starts =>
      obtain ⟨_, out, drive⟩ := starts
      exact ⟨rfl, rfl, fun turned => absurd kept turned, fun _ => ⟨rfl, rfl⟩,
        fun _ still => still.elim (fun e => by rw [e] at out; cases out) fun e => absurd e.symm drive.symm,
        fun _ _ _ => ⟨rfl, rfl⟩, rfl⟩
    case isFalse stays =>
      exact ⟨rfl, rfl, fun turned => absurd kept turned, fun _ => ⟨rfl, rfl⟩, fun _ _ => ⟨rfl, rfl⟩,
        fun was out drive => absurd ⟨was, out, drive⟩ stays, rfl⟩
  · rw [Line.configure_turned kept, if_neg fun ⟨was, out, _⟩ => kept (was.trans out.symm)]
    exact ⟨rfl, rfl, fun _ => ⟨rfl, rfl, rfl, rfl⟩, fun e => absurd e kept, fun e => absurd e kept,
      fun was out => absurd (was.trans out.symm) kept, rfl⟩

section
variable (auto : Bool) (i : Fin 8) (c : LineConfig) (p : Part)

/-- The auto-start setting and one line's record replaced. -/
def Part.lineSet : Part :=
  { p with lines := { p.lines with autoStart := auto } }.onLine i (Line.configure (p.power.state == PowerState.parked) c)

/-- The same with the outputs following. -/
def Part.lineConfigured : Part := p.follow (p.lineSet auto i c)

theorem Part.applyLines_one :
    p.applyLines auto [(i, c)]
      = (p.lineConfigured auto i c).reverseChange p.reverse (p.lineConfigured auto i c).lines.reverseLine := rfl

theorem Part.lineSet_get (j : Fin 8) :
    (p.lineSet auto i c).lines.line[j]
      = if i = j then p.lines.line[j].configure (p.power.state == PowerState.parked) c else p.lines.line[j] :=
  update_get _ _ _ _

theorem Part.lineConfigured_eq : p.lineConfigured auto i c = p.followLine i (p.lineSet auto i c) :=
  Part.follow_one fun j hj => Part.follows_same rfl rfl rfl rfl (by rw [Part.lineSet_get, if_neg hj.symm])

theorem Part.lineSet_follows :
    p.follows i (p.lineSet auto i c) = true
      ↔ p.lines.line[i].config.out = true ∧ c.out = true ∧ c.drive ≠ p.lines.line[i].config.drive := by
  have config : (p.lineSet auto i c).lines.line[i].config = c := by
    rw [Part.lineSet_get, if_pos rfl]
    rfl
  refine (Part.follows_drive (before := p) (p := p.lineSet auto i c) rfl rfl rfl rfl).trans ?_
  rw [config]

theorem Part.lineConfigured_line :
    (p.lineConfigured auto i c).lines.line[i] = p.lines.line[i].reconfigured (p.power.state == PowerState.parked) c := by
  rw [Part.lineConfigured_eq, Part.followLine_eq, Line.reconfigured]
  simp only [Part.lineSet_follows]
  split
  · rw [Part.clearMismatch_spec]
    show (Part.onLine i Line.restarted _).lines.line[i] = _
    rw [Part.onLine_get, if_pos rfl, Part.lineSet_get, if_pos rfl]
  · rw [Part.lineSet_get, if_pos rfl]

theorem Part.lineConfigured_other {j : Fin 8} (hj : j ≠ i) :
    (p.lineConfigured auto i c).lines.line[j] = p.lines.line[j] := by
  rw [Part.lineConfigured_eq, Part.followLine_other hj, Part.lineSet_get, if_neg hj.symm]

theorem Part.lineConfigured_frame :
    { p.lineConfigured auto i c with link := p.link, lines := p.lines } = p := by
  rw [Part.lineConfigured_eq, Part.followLine_eq]
  split
  · rw [Part.clearMismatch_spec]
    rfl
  · rfl

theorem Part.lineConfigured_unit :
    (p.lineConfigured auto i c).lines.autoStart = auto ∧ (p.lineConfigured auto i c).lines.filled = p.lines.filled
      ∧ (p.lineConfigured auto i c).lines.awaiting = p.lines.awaiting :=
  ⟨Part.follow_autoStart _ _, Part.follow_filled _ _, Part.follow_awaiting _ _⟩

theorem Part.lineConfigured_link :
    (p.lineConfigured auto i c).link
      = if p.lines.line[i].config.out = true ∧ c.out = true ∧ c.drive ≠ p.lines.line[i].config.drive
            ∧ p.lines.line[i].flag = true ∧ c.report = true then p.link.raise .lineChange [byte i.val, 3]
        else p.link := by
  have line : (p.lineSet auto i c).lines.line[i] = p.lines.line[i].configure (p.power.state == PowerState.parked) c := by
    rw [Part.lineSet_get, if_pos rfl]
  rw [Part.lineConfigured_eq, Part.followLine_eq]
  simp only [Part.lineSet_follows]
  split
  case isTrue starts =>
    obtain ⟨was, out, drive⟩ := starts
    rw [Part.clearMismatch_spec]
    show (if (p.lineSet auto i c).lines.line[i].flag = true ∧ (p.lineSet auto i c).lines.line[i].config.report = true then
      p.link.raise .lineChange [byte i.val, 3] else p.link) = _
    rw [line, Line.configure_kept (was.trans out.symm)]
    simp only [was, out, drive, ne_eq, not_false_eq_true, true_and]
  case isFalse stays =>
    rw [if_neg fun ⟨was, out, drive, _⟩ => stays ⟨was, out, drive⟩]
    rfl

/-- The restart of a mismatch check, as the bytes of the entry tell it. -/
theorem Part.lineConfigured_told {c : LineConfig} {e : LineEntry} {i : Fin 8} (h : c.Records e)
    (hi : e.line = BitVec.ofNat 8 i.val) :
    (p.lineConfigured auto i c).link
      = if p.lines.line[i].config.out = true ∧ (e.direction == 1) = true
            ∧ ¬ (p.lines.line[i].config.bytes.drop 1).take 3 = [e.attr, entryLevel e, e.role]
            ∧ p.lines.line[i].flag = true ∧ e.report = 1 then p.link.raise .lineChange [e.line, 0x03]
        else p.link := by
  rw [Part.lineConfigured_link, hi]
  exact ite_congr (propext (by rw [← h.out, ← h.drive_iff, ← h.report, bit_eq_one_iff])) (fun _ => rfl) fun _ => rfl

/-- A REVERSE that comes with a line's new record is that line's. -/
theorem Part.lineConfigured_rises (before : p.reverse = false) (after : (p.lineConfigured auto i c).reverse = true) :
    c.out = false ∧ c.role = .reverse := by
  obtain ⟨asserted, role⟩ := Part.reverse_by (fun j hj => p.lineConfigured_other auto i c hj) before after
  have config : (p.lineConfigured auto i c).lines.line[i].config = c := by
    rw [Part.lineConfigured_line, Line.reconfigured]
    split <;> rfl
  simp only [Line.asserted, config, Bool.and_eq_true, Bool.not_eq_true'] at asserted
  rw [config] at role
  exact ⟨asserted.1.1, role⟩

/-- Where the new record does not bring REVERSE, LINE_CONFIGURE ends with the outputs following. -/
theorem Part.applyLines_quiet (h : c.role ≠ .reverse ∨ p.reverse = true) :
    p.applyLines auto [(i, c)] = p.lineConfigured auto i c := by
  rw [Part.applyLines_one]
  refine Part.reverseChange_same ?_
  refine Classical.byContradiction fun both => ?_
  simp only [not_or, Bool.not_eq_true, Bool.not_eq_false] at both
  obtain ⟨before, after⟩ := both
  obtain ⟨_, role⟩ := p.lineConfigured_rises auto i c before after
  exact h.elim (absurd role) fun on => by rw [on] at before; cases before

end

/-- A recomputation of REVERSE raises REVERSE_ON, or nothing, and then starts what spares the other units. -/
theorem Part.reverseOn_spares (i : Fin 8) (p : Part) : ∃ d, (p.raise .reverseOn d).Spares (p.reverseOn i) := by
  unfold Part.reverseOn
  split
  · split
    · exact ⟨_, .refl _⟩
    · exact ⟨_, Part.autoStart_spares _⟩
  · exact ⟨_, .refl _⟩

theorem Part.reverseChange_spares (before : Bool) (i : Fin 8) (p : Part) :
    ∃ l, ({ p with link := l } : Part).Spares (p.reverseChange before i) := by
  unfold Part.reverseChange
  split
  · obtain ⟨d, h⟩ := p.reverseOn_spares i
    exact ⟨_, h⟩
  · exact ⟨p.link, .refl p⟩

section
variable (auto : Bool) (i : Fin 8) (c : LineConfig) (p : Part)

theorem Part.applyLines_spares :
    ∃ l, ({ p.lineConfigured auto i c with link := l } : Part).Spares (p.applyLines auto [(i, c)]) :=
  Part.reverseChange_spares _ _ _

/-- The line that LINE_CONFIGURE names is not touched again. -/
theorem Part.applyLines_line :
    (p.applyLines auto [(i, c)]).lines.line[i] = p.lines.line[i].reconfigured (p.power.state == PowerState.parked) c := by
  rw [← Part.lineConfigured_line]
  by_cases quiet : c.role ≠ .reverse ∨ p.reverse = true
  · rw [Part.applyLines_quiet auto i c p quiet]
  · obtain ⟨l, spares⟩ := p.applyLines_spares auto i c
    by_cases after : (p.lineConfigured auto i c).reverse = true
    · simp only [not_or, Bool.not_eq_true] at quiet
      obtain ⟨out, _⟩ := p.lineConfigured_rises auto i c quiet.2 after
      refine spares.undriven i (.inl ?_)
      show (p.lineConfigured auto i c).lines.line[i].config.out = false
      rw [Part.lineConfigured_line, Line.reconfigured]
      split <;> exact out
    · rw [Part.applyLines_one, Part.reverseChange_same (.inr (Bool.eq_false_iff.2 after))]

/-- With auto-start OFF, no line but the named one and no unit but the link is touched. -/
theorem Part.applyLines_off :
    (p.applyLines false [(i, c)]).lines.line = (p.lineConfigured false i c).lines.line
      ∧ { p.applyLines false [(i, c)] with link := p.link, lines := p.lines } = p := by
  rw [Part.applyLines_one]
  unfold Part.reverseChange
  split
  · rw [Part.reverseOn_disabled (p.lineConfigured_unit false i c).1]
    exact ⟨rfl, p.lineConfigured_frame false i c⟩
  · exact ⟨rfl, p.lineConfigured_frame false i c⟩

end

/-! ### LINE_CONFIGURE -/

theorem doLineConfigure_one {auto : Byte} {e : LineEntry} {i : Fin 8} {c : LineConfig} (hauto : auto.toNat < 2)
    (he : entry? e = some (i, c)) (p : Part) :
    doLineConfigure auto [e] p
      = (0x00 :: auto :: (List.finRange 8).flatMap fun j => (p.applyLines (auto == 1) [(i, c)]).lines.line[j].config.bytes,
        p.applyLines (auto == 1) [(i, c)]) := by
  obtain ⟨_, spares⟩ := p.applyLines_spares (auto == 1) i c
  have kept : (p.applyLines (auto == 1) [(i, c)]).lines.autoStart = (auto == 1) :=
    spares.autoStart.trans (p.lineConfigured_unit _ i c).1
  have once : [i].Nodup := List.pairwise_singleton _ _
  simp only [doLineConfigure, bit?_of_lt_two hauto, entries?, he, List.map_cons, List.map_nil, once, if_true, kept, bit_beq_one hauto]
  rfl

theorem doLineConfigure_refused {auto : Byte} {e : LineEntry} (h : ¬ (auto.toNat < 2 ∧ EntryAllowed e)) (p : Part) :
    doLineConfigure auto [e] p = ([0x04], p) := by
  unfold doLineConfigure
  split
  · next hauto hentries =>
    refine absurd ⟨bit?_some hauto, ?_⟩ h
    cases he : entry? e with
    | none => simp only [entries?, he, reduceCtorEq] at hentries
    | some x => exact entry?_some he
  · rfl

/-- Settles O35: an entry that is allowed names a record, which the line takes, and the line is not touched again by what
REVERSE brings. -/
theorem lineConfigure : Obligations.LineConfigure := by
  unfold Obligations.LineConfigure
  intro s tag auto e i hs
  refine ⟨fun ⟨hauto, allowed⟩ hi => ?_, fun refused => ?_⟩
  · obtain ⟨c, he, records⟩ := entry?_allowed allowed hi
    refine ⟨_, State.act_effect _ _ _ _ _ _ _ hs rfl (doLineConfigure_one hauto he _), ?_⟩
    obtain ⟨l, spares⟩ := (s.awake 0x40).toPart.applyLines_spares (auto == 1) i c
    obtain ⟨autoStart, filled, awaiting⟩ := (s.awake 0x40).toPart.lineConfigured_unit (auto == 1) i c
    have frame := (s.awake 0x40).toPart.lineConfigured_frame (auto == 1) i c
    have gains : Balancer.gains _ = _ := congrArg (fun p : Part => p.balancer.gains) frame
    have store : Part.store _ = _ := congrArg Part.store frame
    have supply : Part.supply _ = _ := congrArg Part.supply frame
    have other := fun (j : Fin 8) hj => (s.awake 0x40).toPart.lineConfigured_other (auto == 1) i c (j := j) hj
    obtain ⟨config, raw, turned, kept, still, restarts, snapshot⟩ :=
      Line.reconfigured_spec (parked := (s.awake 0x40).power.state == PowerState.parked) records (s.awake 0x40).lines.line[i]
    have line := (s.awake 0x40).toPart.applyLines_line (auto == 1) i c
    rw [← line] at config raw turned kept still restarts snapshot
    refine ⟨spares.autoStart.trans autoStart, spares.filled.trans filled, spares.awaiting.trans awaiting,
      ⟨(congrArg LineConfig.bytes config).trans records.bytes, raw, turned, kept, still, restarts,
        snapshot.trans (Part.newSnapshot_eq records _ _)⟩, fun j hj => ⟨?_, fun undriven => ?_⟩, fun quiet => ?_,
      fun quiet => ?_, spares.gains.trans gains, spares.store.trans store, spares.supply.trans supply⟩
    · obtain ⟨n, f, e'⟩ := spares.line j
      have kept := e'.trans (congrArg (fun l : Line => { l with mismatch := n, flag := f }) (other j hj))
      exact kept.trans (by simp only [State.replied, kept])
    · exact (spares.undriven j (by rw [show _ = _ from other j hj]; exact undriven)).trans (other j hj)
    · obtain quiet | off : (c.role ≠ .reverse ∨ (s.awake 0x40).toPart.reverse = true) ∨ (auto == 1) = false := by
        obtain role | on | rfl := quiet
        · exact .inl (.inl (records.not_reverse role))
        · exact .inl (.inr on)
        · exact .inr rfl
      · rw [Part.applyLines_quiet _ _ _ _ quiet]
        exact ⟨other, congrArg (fun p : Part => ({ s.awake 0x40 with toPart := p } : State)) frame⟩
      · obtain ⟨lines, frame⟩ := (s.awake 0x40).toPart.applyLines_off i c
        rw [off] at other ⊢
        exact ⟨fun j hj => (show _ from by rw [State.replied, lines]; exact other j hj),
          congrArg (fun p : Part => ({ s.awake 0x40 with toPart := p } : State)) frame⟩
    · have quiet' : c.role ≠ .reverse ∨ (s.awake 0x40).toPart.reverse = true := quiet.imp records.not_reverse id
      rw [Part.applyLines_quiet _ _ _ _ quiet']
      exact congrArg (fun l : Link => l.join _) ((s.awake 0x40).toPart.lineConfigured_told (auto == 1) records hi)
  · exact State.act_refused _ _ _ _ _ _ hs rfl (doLineConfigure_refused refused _)

end Sys2Proof.Machine
end

section
/-! PROOF. The events of the vehicle lines: first samples, accepted changes, wakes and REVERSE (R144, R149 to R151), the
mismatch check (R146), and a sample of all eight lines (O56, O57, O58). -/

namespace Sys2Proof.Machine

/-! ### REVERSE, as a sample changes it -/

theorem Part.reverse_congr {p q : Part} (config : ∀ j : Fin 8, q.lines.line[j].config = p.lines.line[j].config)
    (debounced : ∀ j : Fin 8, q.lines.line[j].debounced = p.lines.line[j].debounced) : q.reverse = p.reverse := by
  have iff : q.reverse = true ↔ p.reverse = true := by
    simp only [Part.reverse_iff, Line.asserted, config, debounced]
  exact Bool.eq_iff_iff.2 iff

/-- What REVERSE_ON tells: APPLIED, DISABLED or PARKED (R150). -/
def Part.reverseCode (p : Part) : Byte :=
  if p.lines.autoStart then (if p.power.state = .parked then 3 else 1) else 2

section
variable (i : Fin 8) (p : Part)

/-- The part with REVERSE_ON raised for a line. -/
def Part.reverseTold : Part := p.raise .reverseOn [byte i.val, p.reverseCode]

theorem Part.reverseOn_quiet (h : p.lines.autoStart = false ∨ p.power.state = .parked) :
    p.reverseOn i = p.reverseTold i := by
  unfold Part.reverseTold Part.reverseCode
  cases on : p.lines.autoStart with
  | false => exact Part.reverseOn_disabled on
  | true =>
    have parked : p.power.state = .parked := h.resolve_left (by rw [on]; decide)
    rw [if_pos rfl, if_pos parked]
    exact Part.reverseOn_parked on parked

/-- Where auto-start does not act, REVERSE_ON is all. -/
theorem Part.reverseOn_same (h : p.lines.autoStart = false ∨ p.power.state = .parked) :
    (p.reverseOn i).power = p.power ∧ (p.reverseOn i).pace = p.pace ∧ (p.reverseOn i).ports = p.ports
      ∧ (p.reverseOn i).engine = p.engine := by
  rw [p.reverseOn_quiet i h]
  exact ⟨rfl, rfl, rfl, rfl⟩

theorem Part.reverseOn_starts (on : p.lines.autoStart = true) (h : p.power.state ≠ .parked) :
    p.reverseOn i = (p.reverseTold i).autoStart := by
  unfold Part.reverseTold Part.reverseCode
  rw [if_pos on, if_neg h]
  exact Part.reverseOn_applied on h

/-- What auto-start makes of power, pace and ports (R54, R150). -/
theorem Part.reverseOn_applies (on : p.lines.autoStart = true) (h : p.power.state ≠ .parked) :
    let t := p.reverseOn i
    t.power = { p.power with state := .run } ∧ t.pace.runState = .running ∧ t.pace.configured.mode = .continuous
      ∧ t.pace.inForce.mode = .continuous
      ∧ ∀ j : Fin 4, t.ports[j].state = if p.ports[j].state = .off then .powering else p.ports[j].state := by
  rw [p.reverseOn_starts i on h]
  obtain ⟨running, configured, inForce⟩ := (p.reverseTold i).autoStart_pace
  exact ⟨(p.reverseTold i).autoStart_power h, running, configured, inForce, (p.reverseTold i).autoStart_port⟩

theorem Part.reverseCode_quiet (h : p.lines.autoStart = false ∨ p.power.state = .parked) :
    p.reverseCode = if p.lines.autoStart then 0x03 else 0x02 := by
  unfold Part.reverseCode
  split
  case isTrue on => exact if_pos (h.resolve_left (by rw [on]; decide))
  case isFalse => rfl

theorem Part.reverseCode_starts (on : p.lines.autoStart = true) (h : p.power.state ≠ .parked) : p.reverseCode = 0x01 := by
  rw [Part.reverseCode, if_pos on, if_neg h]

theorem Part.reverseOn_tells : (p.reverseTold i).Spares (p.reverseOn i) := by
  by_cases quiet : p.lines.autoStart = false ∨ p.power.state = .parked
  · rw [p.reverseOn_quiet i quiet]
    exact .refl _
  · simp only [not_or, Bool.not_eq_false] at quiet
    obtain ⟨on, awake⟩ := quiet
    rw [p.reverseOn_starts i on awake]
    exact Part.autoStart_spares _

/-- REVERSE_ON stands in its record whatever follows it. -/
theorem Part.reverseOn_record :
    ((p.reverseOn i).link.record .reverseOn).pending = true
      ∧ ((p.reverseOn i).link.record .reverseOn).detail = [byte i.val, p.reverseCode] := by
  rw [(p.reverseOn_tells i).reverseOn]
  exact p.link.raise_own .reverseOn _

theorem Part.reverseOn_woken : (p.reverseOn i).link.record .woken = p.link.record .woken :=
  (p.reverseOn_tells i).woken.trans (Link.raise_other _ nofun)

theorem Part.reverseOn_debounced (j : Fin 8) : (p.reverseOn i).lines.line[j].debounced = p.lines.line[j].debounced := by
  obtain ⟨_, _, e⟩ := (p.reverseOn_tells i).line j
  rw [e]
  rfl

theorem Part.reverseOn_snapshot (j : Fin 8) : (p.reverseOn i).lines.line[j].snapshot = p.lines.line[j].snapshot := by
  obtain ⟨_, _, e⟩ := (p.reverseOn_tells i).line j
  rw [e]
  rfl

end

/-! ### A sample of one input (R144, R149 to R151) -/

section
variable (i : Fin 8) (level : Bool) (p : Part)

/-- An input after its first sample, read while PARKED or not. -/
def Line.firstTaken (level : Bool) (parked : Bool) (l : Line) : Line :=
  ({ l with prev := some level, raw := level } : Line).firstSample level parked

/-- An input after an accepted change. -/
def Line.changed (level : Bool) (l : Line) : Line := { l with prev := some level, raw := level, debounced := some level }

theorem Part.onLine_onLine (f g : Line → Line) : (p.onLine i f).onLine i g = p.onLine i (g ∘ f) := by
  simp only [Part.onLine, update_update]

theorem Part.onLine_congr {p : Part} {i : Fin 8} {f g : Line → Line} (h : f p.lines.line[i] = g p.lines.line[i]) :
    p.onLine i f = p.onLine i g := by
  simp only [Part.onLine, update_congr h]

/-- A line read at a level that is not accepted asserts what it asserted. -/
theorem Part.read_reverse :
    (p.onLine i fun l => { l with prev := some level, raw := level }).reverse = p.reverse := by
  refine Part.reverse_congr (fun j => ?_) fun j => ?_
  all_goals
    rw [Part.onLine_get]
    split <;> rfl

theorem Part.sampleIn_first {p : Part} (out : p.lines.line[i].config.out = false) (h : p.lines.line[i].debounced = none) :
    p.sampleIn i level = (p.onLine i (Line.firstTaken level (p.power.state == PowerState.parked))).reverseChange p.reverse i := by
  simp only [Part.sampleIn, out, Bool.false_eq_true, if_false, h, Part.takeFirstSample, Part.read_reverse,
    Part.onLine_onLine]
  rfl

/-- The part after an accepted change, before what it wakes and tells. -/
def Part.changed : Part := p.onLine i (Line.changed level)

/-- Where the wake of an accepted change leads (R164). -/
def Part.wakesTo : PowerState := if p.lines.autoStart && !p.reverse && (p.changed i level).reverse then .run else .doze

/-- The part after an accepted change and its wake. -/
def Part.changedAwake : Part :=
  if p.wakesBy i level then (p.changed i level).wake 1 (byte i.val) (p.wakesTo i level) else p.changed i level

theorem Part.sampleIn_changes {p : Part} (out : p.lines.line[i].config.out = false)
    (h : p.lines.line[i].debounced = some (!level)) (prev : p.lines.line[i].prev = some level) :
    p.sampleIn i level = ((p.changedAwake i level).reportLine i (bit level)).reverseChange p.reverse i := by
  have differs : ¬ level = !level := by cases level <;> decide
  have wakes : (p.onLine i fun l => { l with prev := some level, raw := level }).wakesBy i level = p.wakesBy i level := by
    simp only [Part.wakesBy, Part.onLine_get, if_true]
    rfl
  simp only [Part.sampleIn, out, Bool.false_eq_true, if_false, h, prev, differs, ne_eq, not_false_eq_true, and_self, if_true,
    Part.acceptChange,
    Part.read_reverse, Part.onLine_onLine, wakes]
  rfl

theorem Part.changed_line (j : Fin 8) :
    (p.changed i level).lines.line[j] = if i = j then p.lines.line[j].changed level else p.lines.line[j] :=
  Part.onLine_get _ _

/-- What the wake of an accepted change keeps of the lines. -/
theorem Part.changedAwake_line (j : Fin 8) :
    (p.changedAwake i level).lines.line[j]
      = if p.wakesBy i level = true then (p.changed i level).lines.line[j].dropSnapshot else (p.changed i level).lines.line[j] := by
  unfold Part.changedAwake
  split
  · exact mapAll_get _ _ _
  · rfl

theorem Part.reportLine_line (what : Byte) : (p.reportLine i what).lines = p.lines := by
  unfold Part.reportLine
  split <;> rfl

theorem Part.reported_reverse : ((p.changedAwake i level).reportLine i (bit level)).reverse = (p.changed i level).reverse := by
  refine Part.reverse_congr (fun j => ?_) fun j => ?_
  all_goals
    rw [Part.reportLine_line, Part.changedAwake_line]
    split <;> rfl

/-- An accepted change, or a first sample, asserts REVERSE only at the active level of an input with that role. -/
theorem Part.asserts_no_reverse {p q : Part} {i : Fin 8} {level : Bool}
    (other : ∀ j : Fin 8, j ≠ i → q.lines.line[j] = p.lines.line[j])
    (config : q.lines.line[i].config = p.lines.line[i].config) (debounced : q.lines.line[i].debounced = some level)
    (h : p.lines.line[i].config.role ≠ .reverse ∨ level ≠ p.lines.line[i].config.active ∨ p.reverse = true) :
    p.reverse = true ∨ q.reverse = false := by
  refine Classical.byContradiction fun both => ?_
  simp only [not_or, Bool.not_eq_true, Bool.not_eq_false] at both
  obtain ⟨before, after⟩ := both
  obtain ⟨asserted, role⟩ := Part.reverse_by other before after
  simp only [Line.asserted, config, debounced, Bool.and_eq_true, beq_iff_eq, Option.some.injEq] at asserted
  rw [config] at role
  obtain e | e | e := h
  · exact e role
  · exact e asserted.2
  · rw [e] at before
    cases before

theorem Part.asserts_reverse {q : Part} {i : Fin 8} {level : Bool} (out : q.lines.line[i].config.out = false)
    (role : q.lines.line[i].config.role = .reverse) (active : level = q.lines.line[i].config.active)
    (debounced : q.lines.line[i].debounced = some level) : q.reverse = true := by
  refine (Part.reverse_iff q).2 ⟨i, ?_, role⟩
  simp only [Line.asserted, out, role, debounced, active, beq_self_eq_true, Bool.not_false, Bool.true_and, Bool.and_true]
  decide

end

/-! ### A sample of one output (R146, R149) -/

section
variable {p : Part} {i : Fin 8}

theorem Part.sampleOut_differs (out : p.lines.line[i].config.out = true) (second : p.lines.line[i].mismatch = 1)
    (flag : p.lines.line[i].flag = false) :
    p.sampleOut i (!p.intended i)
      = (p.onLine i fun l => { l with raw := !p.intended i, mismatch := 2, flag := true }).reportLine i 2 := by
  have differs : ¬ (!p.intended i) = p.intended i := by cases p.intended i <;> decide
  simp only [Part.sampleOut, out, if_true, differs, if_false, flag, second, Part.onLine_onLine, Nat.le_refl, decide_true,
    Bool.not_false, Bool.and_self]
  refine congrArg (Part.reportLine i 2) (Part.onLine_congr ?_)
  simp only [Function.comp_apply, second, flag, Nat.le_refl, decide_true, Bool.or_true, Nat.reduceAdd, Nat.min_self]

theorem Part.sampleOut_agrees (out : p.lines.line[i].config.out = true) :
    p.sampleOut i (p.intended i) = (p.onLine i fun l => { l with raw := p.intended i }).clearMismatch i := by
  simp only [Part.sampleOut, out, if_true]

theorem Part.clearMismatch_flagged (flag : p.lines.line[i].flag = true) :
    p.clearMismatch i = (p.onLine i Line.restarted).reportLine i 3 := by
  have report : (p.onLine i Line.restarted).lines.line[i].config.report = p.lines.line[i].config.report := by
    rw [Part.onLine_get, if_pos rfl]
    rfl
  rw [Part.clearMismatch_spec, Part.reportLine, report, flag]
  simp only [true_and]
  split <;> rfl

/-- A change of one line that is reported where the line reports. -/
theorem State.told_line {s : State} {f : Line → Line} {m : Line} (what : Byte) (value : f s.lines.line[i] = m)
    (report : m.config.report = s.lines.line[i].config.report) :
    let t : State := { s with lines := { s.lines with line := update s.lines.line i fun _ => m } }
    ({ s with toPart := (s.toPart.onLine i f).reportLine i what } : State)
      = if s.lines.line[i].config.report then t.raised .lineChange [BitVec.ofNat 8 i.val, what] else t := by
  have put : s.toPart.onLine i f = s.toPart.onLine i fun _ => m := Part.onLine_congr value
  have reports : (s.toPart.onLine i fun _ => m).lines.line[i].config.report = s.lines.line[i].config.report := by
    rw [Part.onLine_get, if_pos rfl]
    exact report
  rw [put, Part.reportLine, reports]
  split <;> rfl

theorem Part.sampleOut_input (level : Bool) (out : p.lines.line[i].config.out = false) : p.sampleOut i level = p := by
  simp only [Part.sampleOut, out, Bool.false_eq_true, if_false]

end

/-! ### The events of one line -/

theorem exec_lineFirstSample (i : Fin 8) (level : Bool) (s : State) :
    exec (.lineFirstSample i level) s
      = s.act fun p => if p.lines.line[i].debounced = none then p.sampleIn i level else p := rfl

theorem exec_lineAcceptedChange (i : Fin 8) (level : Bool) (s : State) :
    exec (.lineAcceptedChange i level) s = s.act fun p =>
      if p.lines.line[i].debounced = some (!level) ∧ p.lines.line[i].prev = some level then p.sampleIn i level else p := rfl

theorem exec_outputMismatch (i : Fin 8) (s : State) :
    exec (.outputMismatch i) s = s.act fun p =>
      if 1 ≤ p.lines.line[i].mismatch ∧ p.lines.line[i].flag = false then p.sampleOut i (!p.intended i) else p := rfl

theorem exec_mismatchCleared (i : Fin 8) (s : State) :
    exec (.mismatchCleared i) s = s.act fun p => p.sampleOut i (p.intended i) := rfl

/-- The state after an accepted change. -/
theorem exec_accepted {s : State} {i : Fin 8} {level : Bool} (hr : s.power.inReset = false)
    (out : s.lines.line[i].config.out = false) (h : s.lines.line[i].debounced = some (!level))
    (prev : s.lines.line[i].prev = some level) :
    exec (.lineAcceptedChange i level) s = .next { s with toPart :=
      ((s.toPart.changedAwake i level).reportLine i (bit level)).reverseChange s.toPart.reverse i } := by
  rw [exec_lineAcceptedChange, State.act_apply _ _ hr, if_pos ⟨h, prev⟩, Part.sampleIn_changes i level out h prev]

/-- The state after a first sample. -/
theorem exec_first {s : State} {i : Fin 8} {level : Bool} (hr : s.power.inReset = false)
    (out : s.lines.line[i].config.out = false) (h : s.lines.line[i].debounced = none) :
    exec (.lineFirstSample i level) s = .next { s with toPart :=
      (s.toPart.onLine i (Line.firstTaken level (s.power.state == PowerState.parked))).reverseChange s.toPart.reverse i } := by
  rw [exec_lineFirstSample, State.act_apply _ _ hr, if_pos h, Part.sampleIn_first i level out h]

theorem Part.changedAwake_asleep {i : Fin 8} {level : Bool} {p : Part}
    (h : p.power.state ≠ .parked ∨ p.lines.line[i].snapshot ≠ some (!level)) :
    p.wakesBy i level = false ∧ p.changedAwake i level = p.changed i level := by
  have still : p.wakesBy i level = false := by
    simp only [Part.wakesBy, Bool.and_eq_false_iff, beq_eq_false_iff_ne]
    exact h
  exact ⟨still, by rw [Part.changedAwake, still]; rfl⟩

/-- A first sample, or an accepted change, that does not assert REVERSE. -/
theorem Part.onLine_quiet {p : Part} {i : Fin 8} {level : Bool} {f : Line → Line}
    (config : (f p.lines.line[i]).config = p.lines.line[i].config) (debounced : (f p.lines.line[i]).debounced = some level)
    (h : p.lines.line[i].config.role ≠ .reverse ∨ level ≠ p.lines.line[i].config.active ∨ p.reverse = true) :
    p.reverse = true ∨ (p.onLine i f).reverse = false := by
  refine Part.asserts_no_reverse (i := i) (level := level) (fun j hj => ?_) ?_ ?_ h
  · rw [Part.onLine_get, if_neg hj.symm]
  · rw [Part.onLine_get, if_pos rfl, config]
  · rw [Part.onLine_get, if_pos rfl, debounced]

/-- A first sample, or an accepted change, that asserts REVERSE. -/
theorem Part.onLine_rises {p : Part} {i : Fin 8} {level : Bool} {f : Line → Line}
    (config : (f p.lines.line[i]).config = p.lines.line[i].config) (debounced : (f p.lines.line[i]).debounced = some level)
    (out : p.lines.line[i].config.out = false) (role : p.lines.line[i].config.role = .reverse)
    (active : level = p.lines.line[i].config.active) : (p.onLine i f).reverse = true := by
  have line : (p.onLine i f).lines.line[i] = f p.lines.line[i] := by rw [Part.onLine_get, if_pos rfl]
  refine Part.asserts_reverse (i := i) (level := level) ?_ ?_ ?_ ?_
  · rw [line, config, out]
  · rw [line, config, role]
  · rw [line, config, active]
  · rw [line, debounced]

/-- Settles O56: a change that does not assert REVERSE is the line's own, and one that does is told and starts what
auto-start says. -/
theorem lineEvents : Obligations.LineEvents := by
  unfold Obligations.LineEvents
  intro s i hr
  refine ⟨fun level out apart => ⟨fun first => ?first, fun h prev asleep => ?accepted⟩, fun out role first before => ?rises,
    fun level later => ?notFirst, fun level other => ?notSecond, fun out second flag => ?mismatch, fun none => ?noMismatch,
    fun out flag => ?cleared, fun out => ?input⟩
  case first =>
    rw [exec_first hr out first, Part.reverseChange_same (Part.onLine_quiet rfl rfl apart)]
    refine congrArg (fun v => Host.Outcome.next { s with lines := { s.lines with line := v } }) (update_congr ?_)
    simp [Line.firstTaken, Line.firstSample, and_assoc]
  case accepted =>
    have quiet := Part.onLine_quiet (p := s.toPart) (i := i) (f := Line.changed level) rfl rfl apart
    rw [← Part.changed, ← Part.reported_reverse] at quiet
    rw [exec_accepted hr out h prev, Part.reverseChange_same quiet, (Part.changedAwake_asleep asleep).2]
    exact congrArg Host.Outcome.next (State.told_line _ rfl rfl)
  case rises =>
    have after : (s.toPart.onLine i (Line.firstTaken s.lines.line[i].config.active
        (s.power.state == PowerState.parked))).reverse = true := Part.onLine_rises rfl rfl out role rfl
    refine ⟨_, exec_first hr out first, ?_⟩
    rw [before, Part.reverseChange_rises after]
    have line := Part.onLine_get (p := s.toPart) (i := i)
      (Line.firstTaken s.lines.line[i].config.active (s.power.state == PowerState.parked)) i
    rw [if_pos rfl] at line
    obtain ⟨pending, detail⟩ := (s.toPart.onLine i (Line.firstTaken s.lines.line[i].config.active
      (s.power.state == PowerState.parked))).reverseOn_record i
    have told := (s.toPart.onLine i (Line.firstTaken s.lines.line[i].config.active
      (s.power.state == PowerState.parked))).reverseOn_tells i
    refine ⟨(Part.reverseOn_debounced i _ i).trans (congrArg Line.debounced line), pending, told.gains, told.store,
      told.supply, told.height, fun quiet => ⟨detail.trans ?_, Part.reverseOn_same i _ quiet⟩,
      fun on awake => ⟨detail.trans ?_, Part.reverseOn_applies i _ on awake⟩⟩
    · exact congrArg (fun c => [byte i.val, c]) (Part.reverseCode_quiet (s.toPart.onLine i _) quiet)
    · exact congrArg (fun c => [byte i.val, c]) (Part.reverseCode_starts (s.toPart.onLine i _) on awake)
  case notFirst =>
    rw [exec_lineFirstSample]
    exact State.act_same (if_neg later)
  case notSecond =>
    rw [exec_lineAcceptedChange]
    exact State.act_same (if_neg fun ⟨_, prev⟩ => other prev)
  case mismatch =>
    rw [exec_outputMismatch, State.act_apply _ _ hr, if_pos ⟨Nat.le_of_eq second.symm, flag⟩, Part.sampleOut_differs out second flag]
    exact congrArg Host.Outcome.next (State.told_line _ rfl rfl)
  case noMismatch =>
    rw [exec_outputMismatch]
    exact State.act_same (if_neg fun ⟨counted, _⟩ => by omega)
  case cleared =>
    rw [exec_mismatchCleared, State.act_apply _ _ hr, Part.sampleOut_agrees out,
      Part.clearMismatch_flagged (by rw [Part.onLine_get, if_pos rfl]; exact flag), Part.onLine_onLine]
    exact congrArg Host.Outcome.next (State.told_line _ rfl rfl)
  case input =>
    rw [exec_mismatchCleared]
    exact State.act_same (Part.sampleOut_input _ out)

end Sys2Proof.Machine
end

section
/-! PROOF. Accepted changes that wake the part or assert REVERSE (O57), and a sample of all eight lines (O58). -/

namespace Sys2Proof.Machine

/-! ### A wake by a line, and what an accepted change reports -/

section
variable (i : Fin 8) (level : Bool) (p : Part)

/-- The part after an accepted change, its wake and its LINE_CHANGE. -/
def Part.reported : Part := (p.changedAwake i level).reportLine i (bit level)

theorem Part.reportLine_spec (what : Byte) :
    ∃ l : Link, p.reportLine i what = { p with link := l } ∧ ∀ k, k ≠ .lineChange → l.record k = p.link.record k := by
  unfold Part.reportLine
  split
  · exact ⟨_, rfl, fun k hk => Link.raise_other _ hk.symm⟩
  · exact ⟨_, rfl, fun _ _ => rfl⟩

/-- Without a wake an accepted change reaches the line and the link alone. -/
theorem Part.reported_asleep (h : p.power.state ≠ .parked ∨ p.lines.line[i].snapshot ≠ some (!level)) :
    ∃ l : Link, p.reported i level = { p.changed i level with link := l }
      ∧ ∀ k, k ≠ .lineChange → l.record k = p.link.record k := by
  rw [Part.reported, (Part.changedAwake_asleep h).2]
  exact Part.reportLine_spec i (p.changed i level) (bit level)

/-- A wake by a line leaves PARKED for the state that the change leads to, with WOKEN (R164). -/
theorem Part.reported_awake (parked : p.power.state = .parked) (h : p.lines.line[i].snapshot = some (!level)) :
    ∃ l : Link, p.reported i level = { (p.changed i level).leaveParked (p.wakesTo i level) with link := l }
      ∧ (l.record .woken).pending = true ∧ (l.record .woken).detail = [0x01, byte i.val, (p.wakesTo i level).code] := by
  have wakes : p.wakesBy i level = true := by
    rw [Part.wakesBy, parked, h, beq_self_eq_true, beq_self_eq_true, Bool.and_self]
  have awake : p.changedAwake i level = (p.changed i level).wake 1 (byte i.val) (p.wakesTo i level) := by
    rw [Part.changedAwake, wakes]
    rfl
  obtain ⟨l, e, same⟩ := Part.reportLine_spec i (p.changedAwake i level) (bit level)
  rw [awake] at e same
  obtain ⟨pending, detail⟩ := ((p.changed i level).leaveParked (p.wakesTo i level)).link.raise_own .woken
    [1, byte i.val, (p.wakesTo i level).code]
  refine ⟨l, (congrArg _ awake).trans e, ?_, ?_⟩
  · rw [same .woken nofun]
    exact pending
  · rw [same .woken nofun]
    exact detail

theorem Part.wakesTo_doze (h : p.lines.autoStart = false ∨ p.reverse = true ∨ (p.changed i level).reverse = false) :
    p.wakesTo i level = .doze := by
  unfold Part.wakesTo
  rcases h with h | h | h <;> simp [h]

theorem Part.wakesTo_run (on : p.lines.autoStart = true) (before : p.reverse = false)
    (after : (p.changed i level).reverse = true) : p.wakesTo i level = .run := by
  simp [Part.wakesTo, on, before, after]

theorem Part.changed_debounced : (p.changed i level).lines.line[i].debounced = some level := by
  rw [Part.changed_line, if_pos rfl]
  rfl

theorem Part.leaveParked_line (st : PowerState) (j : Fin 8) :
    (p.leaveParked st).lines.line[j] = p.lines.line[j].dropSnapshot := mapAll_get _ _ _

end

/-- Settles O57: an accepted change is reported after its wake, and REVERSE is told of the part that the wake leaves. -/
theorem lineWakesAndReverse : Obligations.LineWakesAndReverse := by
  unfold Obligations.LineWakesAndReverse
  intro s i level hr l line out h prev
  have effect : exec (.lineAcceptedChange i level) s
      = .next { s with toPart := (s.toPart.reported i level).reverseChange s.toPart.reverse i } :=
    exec_accepted hr out h prev
  have rises : l.config.role = .reverse → level = l.config.active → s.reverse = false →
      (s.toPart.changed i level).reverse = true
        ∧ (s.toPart.reported i level).reverseChange s.toPart.reverse i = (s.toPart.reported i level).reverseOn i := by
    intro role active before
    have after : (s.toPart.changed i level).reverse = true := Part.onLine_rises rfl rfl out role active
    refine ⟨after, ?_⟩
    rw [before]
    exact Part.reverseChange_rises ((Part.reported_reverse i level _).trans after)
  refine ⟨fun parked snapshot apart => ?wakes, fun awake role active before => ⟨fun off => ?disabled, fun on => ?applied⟩,
    fun parked role active before => ?parked⟩
  case wakes =>
    have quiet := Part.onLine_quiet (p := s.toPart) (i := i) (f := Line.changed level) rfl rfl apart
    have doze := s.toPart.wakesTo_doze i level (.inr quiet)
    obtain ⟨l, e, pending, detail⟩ := s.toPart.reported_awake i level parked snapshot
    rw [doze] at e detail
    rw [← Part.changed, ← Part.reported_reverse, ← Part.reported] at quiet
    refine ⟨_, effect, ?_⟩
    rw [Part.reverseChange_same quiet, e]
    refine ⟨rfl, rfl, pending, detail, ?_, fun j => ?_, rfl, rfl, rfl, rfl, rfl, rfl, rfl, rfl⟩
    · exact (congrArg Line.debounced (Part.leaveParked_line _ _ i)).trans (s.toPart.changed_debounced i level)
    · exact congrArg Line.snapshot (Part.leaveParked_line _ _ j)
  case disabled =>
    obtain ⟨_, change⟩ := rises role active before
    obtain ⟨l, e, _⟩ := s.toPart.reported_asleep i level (.inl awake)
    obtain ⟨pending, detail⟩ := Part.reverseOn_record i { s.toPart.changed i level with link := l }
    have quiet : s.lines.autoStart = false ∨ s.power.state = .parked := .inl off
    have code := Part.reverseCode_quiet { s.toPart.changed i level with link := l } quiet
    obtain ⟨power, pace, ports, engine⟩ := Part.reverseOn_same i { s.toPart.changed i level with link := l } quiet
    refine ⟨_, effect, ?_⟩
    rw [change, e]
    refine ⟨power, pace, ports, engine, ?_,
      pending, detail.trans ?_⟩
    · exact (Part.reverseOn_debounced i _ i).trans (s.toPart.changed_debounced i level)
    · exact congrArg (fun c => [byte i.val, c]) (code.trans (if_neg (by rw [Bool.not_eq_true]; exact off)))
  case applied =>
    obtain ⟨_, change⟩ := rises role active before
    obtain ⟨l, e, _⟩ := s.toPart.reported_asleep i level (.inl awake)
    obtain ⟨pending, detail⟩ := Part.reverseOn_record i { s.toPart.changed i level with link := l }
    have told := Part.reverseOn_tells i { s.toPart.changed i level with link := l }
    have code := Part.reverseCode_starts { s.toPart.changed i level with link := l } on awake
    obtain ⟨power, running, configured, inForce, ports⟩ :=
      Part.reverseOn_applies i { s.toPart.changed i level with link := l } on awake
    refine ⟨_, effect, ?_⟩
    rw [change, e]
    exact ⟨power, running, configured, inForce, pending, detail.trans (congrArg (fun c => [byte i.val, c]) code),
      told.gains, told.store, told.supply, told.height, ports⟩
  case parked =>
    obtain ⟨after, change⟩ := rises role active before
    refine ⟨_, effect, ?_⟩
    rw [change]
    by_cases wakes : l.snapshot = some (!level)
    · obtain ⟨l', e, pendingW, detailW⟩ := s.toPart.reported_awake i level parked wakes
      generalize hst : s.toPart.wakesTo i level = st at e detailW
      obtain ⟨pending, detail⟩ := Part.reverseOn_record i { (s.toPart.changed i level).leaveParked st with link := l' }
      have told := Part.reverseOn_tells i { (s.toPart.changed i level).leaveParked st with link := l' }
      have woken := Part.reverseOn_woken i { (s.toPart.changed i level).leaveParked st with link := l' }
      rw [e]
      refine ⟨?_, pending, told.gains, told.store, told.supply, fun still => absurd wakes still, fun _ =>
        ⟨(congrArg PendingRecord.pending woken).trans pendingW, fun j => ?_, told.height, fun off => ?_, fun on => ?_⟩⟩
      · exact (Part.reverseOn_debounced i _ i).trans ((congrArg Line.debounced (Part.leaveParked_line _ _ i)).trans
          (s.toPart.changed_debounced i level))
      · exact (Part.reverseOn_snapshot i _ j).trans (congrArg Line.snapshot (Part.leaveParked_line _ _ j))
      · obtain rfl := (s.toPart.wakesTo_doze i level (.inl off)).symm.trans hst
        have quiet : s.lines.autoStart = false ∨ PowerState.doze = .parked := .inl off
        have code := Part.reverseCode_quiet { (s.toPart.changed i level).leaveParked .doze with link := l' } quiet
        obtain ⟨power, pace, ports, engine⟩ := Part.reverseOn_same i { (s.toPart.changed i level).leaveParked .doze with link := l' } quiet
        refine ⟨(congrArg PendingRecord.detail woken).trans detailW, detail.trans ?_, power, pace, ports, engine⟩
        exact congrArg (fun c => [byte i.val, c]) (code.trans (if_neg (by rw [Bool.not_eq_true]; exact off)))
      · obtain rfl := (s.toPart.wakesTo_run i level on before after).symm.trans hst
        have code := Part.reverseCode_starts { (s.toPart.changed i level).leaveParked .run with link := l' } on nofun
        exact ⟨(congrArg PendingRecord.detail woken).trans detailW, detail.trans (congrArg (fun c => [byte i.val, c]) code),
          Part.reverseOn_applies i { (s.toPart.changed i level).leaveParked .run with link := l' } on nofun⟩
    · obtain ⟨l', e, kept⟩ := s.toPart.reported_asleep i level (.inr wakes)
      obtain ⟨pending, detail⟩ := Part.reverseOn_record i { s.toPart.changed i level with link := l' }
      have told := Part.reverseOn_tells i { s.toPart.changed i level with link := l' }
      have woken := Part.reverseOn_woken i { s.toPart.changed i level with link := l' }
      have quiet : s.lines.autoStart = false ∨ s.power.state = .parked := .inr parked
      have code := Part.reverseCode_quiet { s.toPart.changed i level with link := l' } quiet
      obtain ⟨power, pace, ports, engine⟩ := Part.reverseOn_same i { s.toPart.changed i level with link := l' } quiet
      rw [e]
      exact ⟨(Part.reverseOn_debounced i _ i).trans (s.toPart.changed_debounced i level), pending, told.gains, told.store,
        told.supply, fun _ => ⟨detail.trans (congrArg (fun c => [byte i.val, c]) code), power, pace, ports, engine, told.height,
          woken.trans (kept _ nofun)⟩, fun snapshot => absurd snapshot wakes⟩

/-! ### A sample of all eight lines (R144, R146) -/

/-- What a sample of all eight lines says of a line: its record, the level read, and the input's two levels. -/
structure LineView where
  config : LineConfig
  raw : Bool
  prev : Option Bool
  debounced : Option Bool

def Line.view (l : Line) : LineView := ⟨l.config, l.raw, l.prev, l.debounced⟩

/-- The view of a line after a sample taken as an output's. -/
def LineView.sampledOut (level : Bool) (v : LineView) : LineView := if v.config.out then { v with raw := level } else v

/-- The view of a line after a sample taken as an input's. -/
def LineView.sampledIn (level : Bool) (v : LineView) : LineView :=
  if v.config.out then v
  else { v with
    raw := level, prev := some level
    debounced := if v.debounced = none ∨ v.prev = some level then some level else v.debounced }

section
variable {level : Bool} {v : LineView}

theorem LineView.sampledOut_output (h : v.config.out = true) : v.sampledOut level = { v with raw := level } := if_pos h

theorem LineView.sampledOut_input (h : v.config.out = false) : v.sampledOut level = v :=
  if_neg (by rw [h]; decide)

theorem LineView.sampledIn_output (h : v.config.out = true) : v.sampledIn level = v := if_pos h

theorem LineView.sampledIn_input (h : v.config.out = false) :
    v.sampledIn level = { v with
      raw := level, prev := some level
      debounced := if v.debounced = none ∨ v.prev = some level then some level else v.debounced } :=
  if_neg (by rw [h]; decide)

end

/-- Eight changes, each of which shows its own line in the view only, are one change of all views. -/
theorem eachLine_view {f : Fin 8 → Part → Part} {g : Fin 8 → LineView → LineView}
    (h : ∀ i j q, (f i q).lines.line[j].view = if i = j then g j q.lines.line[j].view else q.lines.line[j].view) (p : Part)
    (j : Fin 8) : (eachLine f p).lines.line[j].view = g j p.lines.line[j].view := by
  have one : j = 0 ∨ j = 1 ∨ j = 2 ∨ j = 3 ∨ j = 4 ∨ j = 5 ∨ j = 6 ∨ j = 7 := by omega
  simp only [eachLine, h]
  obtain rfl | rfl | rfl | rfl | rfl | rfl | rfl | rfl := one
  all_goals rfl

/-- The units that a sample of the lines does not reach. -/
structure Part.LeavesUnits (p q : Part) : Prop where
  store : q.store = p.store
  supply : q.supply = p.supply
  gains : q.balancer.gains = p.balancer.gains
  autoStart : q.lines.autoStart = p.lines.autoStart

theorem Part.LeavesUnits.trans {p q r : Part} (h : p.LeavesUnits q) (g : q.LeavesUnits r) : p.LeavesUnits r :=
  ⟨g.store.trans h.store, g.supply.trans h.supply, g.gains.trans h.gains, g.autoStart.trans h.autoStart⟩

theorem Part.LeavesUnits.refl (p : Part) : p.LeavesUnits p := ⟨rfl, rfl, rfl, rfl⟩

theorem eachLine_leavesUnits {f : Fin 8 → Part → Part} (h : ∀ i q, Part.LeavesUnits q (f i q)) (p : Part) :
    p.LeavesUnits (eachLine f p) :=
  (((((((h 0 p).trans (h 1 _)).trans (h 2 _)).trans (h 3 _)).trans (h 4 _)).trans (h 5 _)).trans (h 6 _)).trans (h 7 _)

section
variable (i j : Fin 8) (level : Bool) (p : Part)

theorem Part.onLine_view {f : Line → Line} {g : LineView → LineView} (h : (f p.lines.line[i]).view = g p.lines.line[i].view) :
    (p.onLine i f).lines.line[j].view = if i = j then g p.lines.line[j].view else p.lines.line[j].view := by
  rw [Part.onLine_get]
  by_cases own : i = j
  · subst own
    rw [if_pos rfl, if_pos rfl, h]
  · rw [if_neg own, if_neg own]

/-- A sample of an output reaches no line but its own. -/
theorem Part.sampleOut_lines (out : p.lines.line[i].config.out = true) :
    ∃ f : Line → Line, (p.sampleOut i level).lines = (p.onLine i f).lines
      ∧ ∀ l, (f l).view = { l.view with raw := level } := by
  simp only [Part.sampleOut, out, if_true]
  split
  · refine ⟨Line.restarted ∘ fun l => { l with raw := level }, ?_, fun _ => rfl⟩
    rw [Part.clearMismatch_spec, ← Part.onLine_onLine]
  · refine ⟨(fun l => { l with mismatch := min 2 (l.mismatch + 1), flag := l.flag || decide (1 ≤ l.mismatch) })
      ∘ fun l => { l with raw := level }, ?_, fun _ => rfl⟩
    split
    · exact (Part.reportLine_line i _ _).trans (congrArg Part.lines (Part.onLine_onLine i p _ _))
    · exact congrArg Part.lines (Part.onLine_onLine i p _ _)

theorem Part.sampleOut_view :
    (p.sampleOut i level).lines.line[j].view
      = if i = j then p.lines.line[j].view.sampledOut level else p.lines.line[j].view := by
  cases out : p.lines.line[i].config.out with
  | false =>
    rw [Part.sampleOut_input level out]
    by_cases own : i = j
    · subst own
      rw [if_pos rfl, LineView.sampledOut_input (by exact out)]
    · rw [if_neg own]
  | true =>
    obtain ⟨f, lines, view⟩ := p.sampleOut_lines i level out
    rw [lines]
    exact p.onLine_view i j ((view _).trans (LineView.sampledOut_output (by exact out)).symm)

theorem Part.reverseChange_view (before : Bool) (k : Fin 8) :
    (p.reverseChange before k).lines.line[j].view = p.lines.line[j].view := by
  obtain ⟨l, spares⟩ := p.reverseChange_spares before k
  obtain ⟨_, _, e⟩ := spares.line j
  rw [e]
  rfl

/-- What a sample as an input's shows. -/
theorem Line.view_sampledIn {l : Line} {level : Bool} (out : l.config.out = false) {d : Option Bool}
    (h : d = if l.debounced = none ∨ l.prev = some level then some level else l.debounced) :
    l.view.sampledIn level = ⟨l.config, level, some level, d⟩ := by
  rw [LineView.sampledIn_input (by exact out), h]
  rfl

theorem Part.sampleIn_view :
    (p.sampleIn i level).lines.line[j].view
      = if i = j then p.lines.line[j].view.sampledIn level else p.lines.line[j].view := by
  cases out : p.lines.line[i].config.out with
  | true =>
    simp only [Part.sampleIn, out, if_true]
    by_cases own : i = j
    · subst own
      rw [if_pos rfl, LineView.sampledIn_output (by exact out)]
    · rw [if_neg own]
  | false =>
    have shown : ∀ f : Line → Line, ∀ d, (f p.lines.line[i]).view = ⟨p.lines.line[i].config, level, some level, d⟩ →
        (d = if p.lines.line[i].debounced = none ∨ p.lines.line[i].prev = some level then some level
          else p.lines.line[i].debounced) →
        (p.onLine i f).lines.line[j].view
          = if i = j then p.lines.line[j].view.sampledIn level else p.lines.line[j].view := fun f d h hd =>
      p.onLine_view i j (h.trans (Line.view_sampledIn out hd).symm)
    cases h : p.lines.line[i].debounced with
    | none =>
      rw [Part.sampleIn_first i level out h, Part.reverseChange_view]
      exact shown _ (some level) rfl (if_pos (.inl h)).symm
    | some d =>
      by_cases accepted : level ≠ d ∧ p.lines.line[i].prev = some level
      · obtain ⟨differs, prev⟩ := accepted
        have was : p.lines.line[i].debounced = some (!level) := by
          rw [h]
          revert differs
          cases level <;> cases d <;> decide
        rw [Part.sampleIn_changes i level out was prev, Part.reverseChange_view, Part.reportLine_line,
          Part.changedAwake_line]
        have changed := shown (Line.changed level) (some level) rfl (if_pos (.inr prev)).symm
        split <;> exact changed
      · simp only [Part.sampleIn, out, Bool.false_eq_true, if_false, h, if_neg accepted]
        refine shown _ (some d) (by rw [← h]; rfl) ?_
        split
        case isTrue hit =>
          have prev := hit.resolve_left (by rw [h]; exact nofun)
          refine Classical.byContradiction fun differs => ?_
          exact accepted ⟨fun e => differs (by rw [e]), prev⟩
        case isFalse => exact h.symm

theorem Part.onLine_leavesUnits (f : Line → Line) : p.LeavesUnits (p.onLine i f) := ⟨rfl, rfl, rfl, rfl⟩

theorem Part.reportLine_leavesUnits (what : Byte) : p.LeavesUnits (p.reportLine i what) := by
  unfold Part.reportLine
  split <;> exact ⟨rfl, rfl, rfl, rfl⟩

theorem Part.reverseChange_leavesUnits (before : Bool) : p.LeavesUnits (p.reverseChange before i) := by
  obtain ⟨_, spares⟩ := p.reverseChange_spares before i
  exact ⟨spares.store, spares.supply, spares.gains, spares.autoStart⟩

theorem Part.sampleOut_leavesUnits : p.LeavesUnits (p.sampleOut i level) := by
  simp only [Part.sampleOut]
  split
  · split
    · rw [Part.clearMismatch_spec]
      exact ⟨rfl, rfl, rfl, rfl⟩
    · split
      · exact .trans (q := Part.onLine i _ (Part.onLine i _ p)) ⟨rfl, rfl, rfl, rfl⟩ (Part.reportLine_leavesUnits i _ _)
      · exact ⟨rfl, rfl, rfl, rfl⟩
  · exact .refl p

theorem Part.sampleIn_leavesUnits : p.LeavesUnits (p.sampleIn i level) := by
  have change : ∀ q : Part, q.LeavesUnits (q.acceptChange i level) := by
    intro q
    simp only [Part.acceptChange]
    refine Part.LeavesUnits.trans ?_ (Part.reverseChange_leavesUnits i _ _)
    refine Part.LeavesUnits.trans ?_ (Part.reportLine_leavesUnits i _ _)
    split <;> exact ⟨rfl, rfl, rfl, rfl⟩
  simp only [Part.sampleIn]
  split
  · exact .refl p
  · split
    · exact .trans (q := Part.onLine i _ (Part.onLine i _ p)) ⟨rfl, rfl, rfl, rfl⟩ (Part.reverseChange_leavesUnits i _ _)
    · split
      · exact (p.onLine_leavesUnits i _).trans (change _)
      · exact p.onLine_leavesUnits i _

end

/-- What is done to the own place only may as well name that place. -/
theorem if_own {α : Type} {i j : Fin 8} {x v : α} {g : Fin 8 → α} (h : x = if i = j then g i else v) :
    x = if i = j then g j else v := by
  rw [h]
  split
  · next own => rw [own]
  · rfl

theorem Part.samplesOut_view (levels : BitVec 8) (p : Part) (i : Fin 8) :
    (eachLine (fun i => Part.sampleOut i (levels.getLsbD i.val)) p).lines.line[i].view
      = p.lines.line[i].view.sampledOut (levels.getLsbD i.val) :=
  eachLine_view (g := fun j => LineView.sampledOut (levels.getLsbD j.val))
    (fun i j q => if_own (g := fun k => q.lines.line[j].view.sampledOut (levels.getLsbD k.val))
      (Part.sampleOut_view i j (levels.getLsbD i.val) q)) p i

theorem Part.samplesIn_view (levels : BitVec 8) (p : Part) (i : Fin 8) :
    (eachLine (fun i => Part.sampleIn i (levels.getLsbD i.val)) p).lines.line[i].view
      = p.lines.line[i].view.sampledIn (levels.getLsbD i.val) :=
  eachLine_view (g := fun j => LineView.sampledIn (levels.getLsbD j.val))
    (fun i j q => if_own (g := fun k => q.lines.line[j].view.sampledIn (levels.getLsbD k.val))
      (Part.sampleIn_view i j (levels.getLsbD i.val) q)) p i

theorem exec_vehicleLineSample (levels : BitVec 8) (s : State) :
    exec (.vehicleLineSample levels) s = s.act (Part.sampleLines levels) := rfl

theorem Part.sampleLines_view (levels : BitVec 8) (p : Part) (i : Fin 8) :
    (p.sampleLines levels).lines.line[i].view
      = (p.lines.line[i].view.sampledOut (levels.getLsbD i.val)).sampledIn (levels.getLsbD i.val) := by
  unfold Part.sampleLines
  rw [Part.samplesIn_view, Part.samplesOut_view]

theorem Part.sampleLines_leavesUnits (levels : BitVec 8) (p : Part) : p.LeavesUnits (p.sampleLines levels) :=
  .trans (eachLine_leavesUnits (fun i => Part.sampleOut_leavesUnits i (levels.getLsbD i.val)) p)
    (eachLine_leavesUnits (fun i => Part.sampleIn_leavesUnits i (levels.getLsbD i.val)) _)

/-- Settles O58: the outputs' samples and the inputs' samples each show in the view of their own line only. -/
theorem vehicleLineSample : Obligations.VehicleLineSample := by
  unfold Obligations.VehicleLineSample
  intro s levels hr
  obtain ⟨store, supply, gains, autoStart⟩ := s.toPart.sampleLines_leavesUnits levels
  refine ⟨_, (exec_vehicleLineSample levels s).trans (State.act_apply _ _ hr), ?_⟩
  have view := s.toPart.sampleLines_view levels
  generalize s.toPart.sampleLines levels = p at *
  refine ⟨store, supply, gains, autoStart, fun i => ?_⟩
  replace view := view i
  generalize p.lines.line[i] = m at view ⊢
  generalize s.lines.line[i] = l at view ⊢
  generalize levels.getLsbD i.val = level at view ⊢
  cases out : l.config.out with
  | true =>
    rw [LineView.sampledOut_output (by exact out), LineView.sampledIn_output (by exact out)] at view
    exact ⟨congrArg LineView.config view, congrArg LineView.raw view, fun off => absurd (out.symm.trans off) nofun,
      fun _ => ⟨congrArg LineView.debounced view, congrArg LineView.prev view⟩⟩
  | false =>
    rw [LineView.sampledOut_input (by exact out), LineView.sampledIn_input (by exact out)] at view
    exact ⟨congrArg LineView.config view, congrArg LineView.raw view,
      fun _ => ⟨congrArg LineView.prev view, congrArg LineView.debounced view⟩,
      fun on => absurd (out.symm.trans on) nofun⟩

end Sys2Proof.Machine
end

section
/-! PROOF. VSENSE readings and the supply state (R34, R156 to R159, R174), and the end of a display frame (R171 to R177):
O59 and O60. -/

namespace Sys2Proof.Machine

/-! ### A reading that changes no more than the counts -/

section
variable {r : Nat} {p : Part}

theorem Supply.read_eq (v : Supply) (h : r ≤ 500) : v.read r = { v with last := some r, readings := v.readings + 1 } := by
  rw [Supply.read, Nat.min_eq_right h]

/-- The supply monitor after a reading. -/
def Part.readSupply (r : Nat) (p : Part) : Part := { p with supply := p.supply.read r }

theorem Part.takeSupply_above (low : p.supply.low = false) (h : 2 * p.supply.threshold ≤ r) :
    p.takeSupply r = { p with supply := { p.supply.read r with lowCount := 0 } } := by
  have above : (p.supply.read r).below r = false := decide_eq_false (Nat.not_lt.2 h)
  simp only [Part.takeSupply, above, Bool.false_eq_true, if_false]
  rw [if_neg (by rw [show (p.supply.read r).low = false from low]; decide)]

theorem Part.takeSupply_firstBelow (low : p.supply.low = false) (h : r < 2 * p.supply.threshold)
    (first : p.supply.lowCount = 0) : p.takeSupply r = { p with supply := { p.supply.read r with lowCount := 1 } } := by
  have below : (p.supply.read r).below r = true := decide_eq_true h
  have few : (p.supply.read r).lowCount = 0 := first
  simp only [Part.takeSupply, below, if_true, few]
  rw [if_neg (by rw [show (p.supply.read r).low = false from low]; decide)]
  rfl

theorem Part.takeSupply_secondBelow (low : p.supply.low = false) (h : r < 2 * p.supply.threshold)
    (second : p.supply.lowCount = 1) : p.takeSupply r = (p.readSupply r).enterLow := by
  have below : (p.supply.read r).below r = true := decide_eq_true h
  have counted : (p.supply.read r).lowCount = 1 := second
  simp only [Part.takeSupply, below, if_true, counted]
  rw [if_neg (by rw [show (p.supply.read r).low = false from low]; decide)]
  rfl

theorem Part.takeSupply_stillLow (low : p.supply.low = true) (h : r < 2 * p.supply.threshold + 16) :
    p.takeSupply r = { p with supply := { p.supply.read r with restoreCount := 0 } } := by
  have less : (p.supply.read r).restores r = false := decide_eq_false (Nat.not_le.2 h)
  simp only [Part.takeSupply, less, Bool.false_eq_true, if_false]
  rw [if_pos (by exact low)]

theorem Part.takeSupply_counts (low : p.supply.low = true) (h : 2 * p.supply.threshold + 16 ≤ r)
    (few : p.supply.restoreCount < 19) :
    p.takeSupply r = { p with supply := { p.supply.read r with restoreCount := p.supply.restoreCount + 1 } } := by
  have restores : (p.supply.read r).restores r = true := decide_eq_true h
  simp only [Part.takeSupply, restores, if_true]
  rw [if_pos (by exact low), if_neg (by show ¬ 20 ≤ p.supply.restoreCount + 1; omega)]
  rfl

theorem Part.takeSupply_restores (low : p.supply.low = true) (h : 2 * p.supply.threshold + 16 ≤ r)
    (last : p.supply.restoreCount = 19) : p.takeSupply r = (p.readSupply r).leaveLow := by
  have restores : (p.supply.read r).restores r = true := decide_eq_true h
  simp only [Part.takeSupply, restores, if_true]
  rw [if_pos (by exact low), if_pos (by show 20 ≤ p.supply.restoreCount + 1; omega)]
  rfl

end

/-! ### The entry into LOW -/

section
variable (p : Part) (i : Fin 4)

/-- A port at the entry into LOW, its timer and its buffers left open: buffers cleared, power fault count at 0 (R34). -/
theorem Part.portsGoLow_port (low : p.supply.low = true) :
    ∃ t, p.portsGoLow.ports[i] = { p.ports[i].clearBuffers with faultCount := 0, timer := t }
      ∧ (p.ports[i].state.watches = true → t = .held) := by
  have off : ∀ ports, Part.watchdogRuns { p with ports := ports } = false := fun _ => by
    simp only [Part.watchdogRuns, low, Bool.not_true, Bool.and_false]
  unfold Part.portsGoLow
  rw [Part.syncWatchdogs_ports, mapAll_get]
  simp only [mapAll_get]
  cases watches : p.ports[i].state.watches with
  | false => exact ⟨p.ports[i].timer, Part.syncTimer_unwatched _ (by exact watches), nofun⟩
  | true =>
    refine ⟨.held, ?_, fun _ => rfl⟩
    have watched : ({ p.ports[i].clearBuffers with faultCount := 0 } : Port).state.watches = true := watches
    simp only [Part.syncTimer, off, watched, if_true]

theorem Part.enterLow_port (i : Fin 4) :
    ∃ t b, p.enterLow.ports[i] = { p.ports[i] with faultCount := 0, timer := t, ready := [], buffers := b }
      ∧ (p.ports[i].state.watches = true → t = .held) ∧ ∀ c : Fin 3, b[c].state ≠ .filling ∧ b[c].state ≠ .ready := by
  obtain ⟨t, e, held⟩ := p.supplyGone.portsGoLow_port i rfl
  have ports : p.enterLow.ports = p.supplyGone.portsGoLow.abandon.ports := by
    rw [Part.enterLow_eq, Part.follow_ports]
    rfl
  have cleared : ∀ c : Fin 3, p.supplyGone.portsGoLow.ports[i].buffers[c].state ≠ .filling
      ∧ p.supplyGone.portsGoLow.ports[i].buffers[c].state ≠ .ready := fun c => by
    obtain ⟨filling, ready, _⟩ := (p.ports[i].buffers[c]).dropped_state
    rw [← Port.clearBuffers_get] at filling ready
    rw [e]
    exact ⟨filling, ready⟩
  rw [ports]
  obtain ⟨_, same⟩ | released := p.supplyGone.portsGoLow.abandon_ports
  · rw [same]
    rw [e] at cleared ⊢
    exact ⟨t, _, rfl, held, cleared⟩
  · rw [released, mapAll_get]
    refine ⟨t, p.supplyGone.portsGoLow.ports[i].release.buffers, ?_, held, Port.release_cleared cleared⟩
    rw [e]
    rfl

theorem Part.enterLow_units :
    p.enterLow.supply = { p.supply with low := true, lowCount := 0, restoreCount := 0, holdStart := some p.supply.readings }
      ∧ p.enterLow.engine.slot = .empty ∧ p.enterLow.engine.inflight = none
      ∧ p.enterLow.engine.tiles = p.engine.tiles ∧ p.enterLow.engine.previous = p.engine.previous
      ∧ p.enterLow.display = { p.display with frozen := true } ∧ p.enterLow.pace = p.pace ∧ p.enterLow.power = p.power
      ∧ p.enterLow.store = p.store ∧ p.enterLow.loader = p.loader ∧ p.enterLow.height = p.height
      ∧ p.enterLow.balancer = p.balancer ∧ p.enterLow.now = p.now := by
  rw [Part.enterLow_eq]
  simp [Part.freeze, Part.portsGoLow, Part.supplyGone]

theorem Part.enterLow_lines : p.enterLow.lines.filled = p.lines.filled := by
  rw [Part.enterLow_eq, Part.follow_filled]
  simp [Part.freeze, Part.portsGoLow, Part.supplyGone]

theorem Part.enterLow_record :
    (p.enterLow.link.record .supplyLow).pending = true
      ∧ (p.enterLow.link.record .supplyLow).detail = le16OrNone p.supply.last ++ [byte p.supply.threshold] := by
  rw [Part.enterLow_eq, Part.follow_record _ _ .supplyLow nofun]
  have link : p.supplyGone.portsGoLow.freeze.link
      = p.link.raise .supplyLow (le16OrNone p.supply.last ++ [byte p.supply.threshold]) := by
    unfold Part.freeze
    exact Part.abandon_link _
  rw [link]
  exact p.link.raise_own _ _

theorem Part.pictureOk_low (h : p.supply.low = true) : p.pictureOk = false := by
  simp only [Part.pictureOk, h, Bool.not_true, Bool.false_and]

end

/-! ### The return to NORMAL -/

/-- A change of another port, or what the gatherer makes of one, moves no more of a port than its frames, and those of
a LIVE or STALLED port only. -/
theorem Part.changePort_idle {i j : Fin 4} {f : Port → Port} {p : Part} (other : i ≠ j)
    (h : p.ports[j].asked = false) : (p.changePort i f).ports[j] = p.ports[j] := by
  have port : (p.onPort i f).ports[j] = p.ports[j] := (update_get _ _ _ _).trans (if_neg other)
  by_cases same : (f p.ports[i]).state = p.ports[i].state
  · rw [Part.changePort_same i f p same]
    exact port
  · rw [Part.changePort_moved i f p same]
    obtain e | ⟨n, stale, e⟩ := Part.gatherTest_ports
      ((p.onPort i f).raise .cameraState [byte i.val, (f p.ports[i]).state.code])
    · rw [e]
      exact port
    · rw [e, mapAll_get]
      show Port.atStart n stale (p.onPort i f).ports[j] = _
      rw [port, Port.atStart, if_neg (by rw [h]; decide)]

/-- A change of a port's state raises CAMERA_STATE, and SET_SWITCHED where a composition starts, and nothing else. -/
theorem Part.changePort_record (i : Fin 4) (f : Port → Port) (p : Part) {k : EventKind} (camera : k ≠ .cameraState)
    (switched : k ≠ .setSwitched) : (p.changePort i f).link.record k = p.link.record k := by
  have started : ∀ q : Part, q.tryStart.link.record k = q.link.record k := fun q => by
    obtain e | ⟨d, e⟩ := q.tryStart_link
    · rw [e]
    · rw [e]
      exact Link.raise_other d switched.symm
  have tested : ∀ q : Part, q.gatherTest.link.record k = q.link.record k := fun q => by
    unfold Part.gatherTest
    split
    · split
      · exact started _
      · rfl
    · rfl
  simp only [Part.changePort]
  split
  · rfl
  · exact (tested _).trans (Link.raise_other _ camera.symm)

/-- A port that waits for its settle timer at the return to NORMAL. -/
def Port.Settling (since : Nat) (settle : Nat) (q : Port) : Prop :=
  q.state = .powering ∧ q.timer = .running (since + settle * Config.ticksPerMilli)

/-- A port that will settle again. -/
def Port.WillSettle (settle : Nat) (q : Port) : Prop := q.state.settlesAgain = true ∧ q.settle = settle

/-- What each of four changes does for its own port, and leaves of the others, all four do for every port. -/
theorem eachPort_port {f : Fin 4 → Part → Part} {I : Part → Prop} {R S : Port → Prop} (keeps : ∀ i q, I q → I (f i q))
    (own : ∀ i q, I q → R q.ports[i] → S (f i q).ports[i])
    (waits : ∀ i j q, i ≠ j → I q → R q.ports[j] → R (f i q).ports[j])
    (stays : ∀ i j q, i ≠ j → I q → S q.ports[j] → S (f i q).ports[j]) (j : Fin 4) (p : Part) (hp : I p)
    (h : R p.ports[j]) : S (eachPort f p).ports[j] := by
  have h0 := keeps 0 p hp
  have h1 := keeps 1 _ h0
  have h2 := keeps 2 _ h1
  have one : j = 0 ∨ j = 1 ∨ j = 2 ∨ j = 3 := by omega
  obtain rfl | rfl | rfl | rfl := one
  · exact stays 3 0 _ (by decide) h2 (stays 2 0 _ (by decide) h1 (stays 1 0 _ (by decide) h0 (own 0 p hp h)))
  · exact stays 3 1 _ (by decide) h2 (stays 2 1 _ (by decide) h1 (own 1 _ h0 (waits 0 1 _ (by decide) hp h)))
  · exact stays 3 2 _ (by decide) h2 (own 2 _ h1 (waits 1 2 _ (by decide) h0 (waits 0 2 _ (by decide) hp h)))
  · exact own 3 _ h2 (waits 2 3 _ (by decide) h1 (waits 1 3 _ (by decide) h0 (waits 0 3 _ (by decide) hp h)))

section
variable (p : Part)

theorem Part.portRestored_now (i : Fin 4) : (p.portRestored i).now = p.now := by
  unfold Part.portRestored
  split
  · exact p.changePort_now i _
  · rfl

/-- A change of port `i` keeps all but the frames of another port. -/
theorem Part.portRestored_other {i j : Fin 4} (other : i ≠ j) :
    ∃ b r, (p.portRestored i).ports[j] = { p.ports[j] with buffers := b, ready := r } := by
  unfold Part.portRestored
  split
  · obtain ⟨b, r, e⟩ := p.changePort_port i j (Port.powerUp p.now)
    exact ⟨b, r, e.trans (by rw [if_neg other])⟩
  · exact ⟨_, _, rfl⟩

theorem Part.portRestored_settles {i : Fin 4} (h : p.ports[i].state.settlesAgain = true) :
    Port.Settling p.now p.ports[i].settle (p.portRestored i).ports[i] := by
  unfold Part.portRestored
  rw [if_pos h]
  obtain ⟨b, r, e⟩ := p.changePort_port i i (Port.powerUp p.now)
  rw [e, if_pos rfl]
  exact ⟨rfl, rfl⟩

theorem Part.portsRestored_settling {j : Fin 4} (h : p.ports[j].state.settlesAgain = true) :
    Port.Settling p.now p.ports[j].settle (eachPort Part.portRestored p).ports[j] := by
  refine eachPort_port (I := fun q => q.now = p.now) (R := Port.WillSettle p.ports[j].settle)
    (S := Port.Settling p.now p.ports[j].settle) (fun i q hq => (q.portRestored_now i).trans hq) ?own ?waits ?stays j p rfl
    ⟨h, rfl⟩
  case own =>
    intro i q hq will
    obtain ⟨settles, settle⟩ := will
    rw [← hq, ← settle]
    exact q.portRestored_settles settles
  case waits =>
    intro i j q other _ will
    obtain ⟨_, _, e⟩ := q.portRestored_other other
    rw [e]
    exact will
  case stays =>
    intro i j q other _ settling
    obtain ⟨_, _, e⟩ := q.portRestored_other other
    rw [e]
    exact settling

theorem PortState.idle_of_unsettled {st : PortState} (h : st.settlesAgain = false) : st ≠ .live ∧ st ≠ .stalled := by
  constructor
  · rintro rfl
    cases h
  · rintro rfl
    cases h

theorem Port.asked_of_unsettled {q : Port} (h : q.state.settlesAgain = false) : q.asked = false := by
  obtain ⟨live, stalled⟩ := PortState.idle_of_unsettled h
  simp [Port.asked, live, stalled]

theorem Part.portsRestored_still {j : Fin 4} (h : p.ports[j].state.settlesAgain = false) :
    (eachPort Part.portRestored p).ports[j] = p.ports[j] := by
  have still : ∀ (i : Fin 4) (q : Part), q.ports[j] = p.ports[j] → (q.portRestored i).ports[j] = p.ports[j] := by
    intro i q hq
    have unsettled : q.ports[j].state.settlesAgain = false := by rw [hq]; exact h
    unfold Part.portRestored
    split
    case isTrue settles =>
      have other : i ≠ j := fun e => by subst e; rw [unsettled] at settles; cases settles
      exact (Part.changePort_idle other (Port.asked_of_unsettled unsettled)).trans hq
    case isFalse => exact hq
  exact eachPort_keeps (I := fun q => q.ports[j] = p.ports[j]) Part.portRestored still p rfl

theorem Part.leaveLow_ports :
    p.leaveLow.ports = mapAll (eachPort Part.portRestored p.supplyBack).ports
      (eachPort Part.portRestored p.supplyBack).syncTimer := by
  rw [Part.leaveLow_eq, Part.follow_ports, Part.syncWatchdogs_ports]

theorem Part.leaveLow_settling {i : Fin 4} (h : p.ports[i].state.settlesAgain = true) :
    Port.Settling p.now p.ports[i].settle p.leaveLow.ports[i] := by
  have settling := p.supplyBack.portsRestored_settling (j := i) h
  rw [Part.leaveLow_ports, mapAll_get, Part.syncTimer_unwatched _ (by rw [settling.1]; rfl)]
  exact settling

theorem Part.leaveLow_still {i : Fin 4} (h : p.ports[i].state.settlesAgain = false) : p.leaveLow.ports[i] = p.ports[i] := by
  have still := p.supplyBack.portsRestored_still (j := i) h
  have unwatched : p.ports[i].state.watches = false := by revert h; cases p.ports[i].state <;> decide
  rw [Part.leaveLow_ports, mapAll_get, still]
  exact Part.syncTimer_unwatched _ unwatched

/-- The gatherer's tests at the return to NORMAL leave the units that no port reaches. -/
theorem Part.portsRestored_spares : p.Spares (eachPort Part.portRestored p) := by
  have one : ∀ (i : Fin 4) (q : Part), q.Spares (q.portRestored i) := fun i q => by
    unfold Part.portRestored
    split
    · exact q.changePort_spares i _
    · exact .refl q
  exact eachPort_keeps (I := p.Spares) Part.portRestored (fun i q hq => hq.trans (one i q)) p (.refl p)

theorem Part.portsRestored_units :
    (eachPort Part.portRestored p).power = p.power ∧ (eachPort Part.portRestored p).display = p.display
      ∧ (eachPort Part.portRestored p).now = p.now := by
  refine eachPort_keeps (I := fun q => q.power = p.power ∧ q.display = p.display ∧ q.now = p.now) Part.portRestored
    (fun i q hq => ?_) p ⟨rfl, rfl, rfl⟩
  unfold Part.portRestored
  split
  · simp only [Part.changePort_power, Part.changePort_display, Part.changePort_now]
    exact hq
  · exact hq

theorem Part.leaveLow_record :
    (p.leaveLow.link.record .supplyRestored).pending = true
      ∧ (p.leaveLow.link.record .supplyRestored).detail = le16 p.supply.holdLength := by
  have kept : ∀ (i : Fin 4) (q : Part), (q.portRestored i).link.record .supplyRestored = q.link.record .supplyRestored :=
    fun i q => by
      unfold Part.portRestored
      split
      · exact Part.changePort_record i _ q nofun nofun
      · rfl
  have restored : (eachPort Part.portRestored p.supplyBack).link.record .supplyRestored
      = p.supplyBack.link.record .supplyRestored :=
    eachPort_keeps (I := fun q => q.link.record .supplyRestored = p.supplyBack.link.record .supplyRestored)
      Part.portRestored (fun i q hq => (kept i q).trans hq) _ rfl
  rw [Part.leaveLow_eq, Part.follow_record _ _ .supplyRestored nofun]
  show ((eachPort Part.portRestored p.supplyBack).link.record .supplyRestored).pending = true ∧ _
  rw [Part.syncWatchdogs_link, restored]
  exact p.link.raise_own _ _

theorem Part.pictureOk_awaiting (h : p.lines.awaiting = true) : p.pictureOk = false := by
  simp only [Part.pictureOk, h, Bool.not_true, Bool.and_false]

theorem Part.leaveLow_units :
    p.leaveLow.supply = { p.supply with low := false, lowCount := 0, restoreCount := 0 }
      ∧ p.leaveLow.power = p.power ∧ p.leaveLow.store = p.store ∧ p.leaveLow.height = p.height
      ∧ p.leaveLow.display = p.display ∧ p.leaveLow.now = p.now ∧ p.leaveLow.balancer.gains = p.balancer.gains
      ∧ p.leaveLow.lines.awaiting = true ∧ p.leaveLow.lines.filled = p.lines.filled := by
  have spares := p.supplyBack.portsRestored_spares
  obtain ⟨power, display, now⟩ := p.supplyBack.portsRestored_units
  rw [Part.leaveLow_eq]
  simp only [Part.follow_supply, Part.follow_power, Part.follow_store, Part.follow_height, Part.follow_display,
    Part.follow_now, Part.follow_balancer, Part.follow_awaiting, Part.follow_filled, Part.syncWatchdogs_supply,
    Part.syncWatchdogs_power, Part.syncWatchdogs_store, Part.syncWatchdogs_height, Part.syncWatchdogs_display,
    Part.syncWatchdogs_now, Part.syncWatchdogs_balancer, Part.syncWatchdogs_lines]
  exact ⟨spares.supply, power, spares.store, spares.height, display, now, spares.gains, spares.awaiting, spares.filled⟩

end

/-! ### The supply events -/

theorem exec_vsenseReading (r : Nat) (s : State) : exec (.vsenseReading r) s = s.act (Part.takeSupply r) := rfl

theorem exec_supplyLow (r : Nat) (s : State) :
    exec (.supplyLow r) s = s.act fun p =>
      if p.supply.low = false ∧ 1 ≤ p.supply.lowCount ∧ p.supply.below r = true then p.takeSupply r else p := rfl

theorem exec_supplyRestored (r : Nat) (s : State) :
    exec (.supplyRestored r) s = s.act fun p =>
      if p.supply.low = true ∧ 19 ≤ p.supply.restoreCount ∧ p.supply.restores r = true then p.takeSupply r else p := rfl

theorem PortState.settlesAgain_iff (st : PortState) : st.settlesAgain = true ↔ st = .powering ∨ st.watches = true := by
  cases st <;> decide

/-- A reading that moves the counts alone. -/
theorem State.vsense_counts {s : State} {r : Nat} {v : Supply} (hr : s.power.inReset = false)
    (h : s.toPart.takeSupply r = { s.toPart with supply := v }) :
    exec (.vsenseReading r) s = .next { s with supply := v } := by
  rw [exec_vsenseReading, State.act_apply _ _ hr, h]

/-- Settles O59: by the supply state, the threshold and the count that the reading finds. -/
theorem supplyEvents : Obligations.SupplyEvents := by
  unfold Obligations.SupplyEvents
  intro s r hr hle
  have read := s.supply.read_eq hle
  refine ⟨fun low above => ?above, fun low below first => ?first, fun low less => ?stillLow,
    fun low restores few => ?counts, fun low => ?lowAlready, fun low => ?normalAlready, fun low below second c hc => ?goesLow,
    fun low restores last c hc => ?returns⟩
  case above =>
    have := State.vsense_counts hr (Part.takeSupply_above low above)
    rwa [read] at this
  case first =>
    have := State.vsense_counts hr (Part.takeSupply_firstBelow low below first)
    rwa [read] at this
  case stillLow =>
    have := State.vsense_counts hr (Part.takeSupply_stillLow low less)
    rwa [read] at this
  case counts =>
    have := State.vsense_counts hr (Part.takeSupply_counts low restores few)
    rwa [read] at this
  case lowAlready =>
    rw [exec_supplyLow]
    exact State.act_same (if_neg fun ⟨normal, _⟩ => absurd (low.symm.trans normal) (by decide))
  case normalAlready =>
    rw [exec_supplyRestored]
    exact State.act_same (if_neg fun ⟨isLow, _⟩ => absurd (low.symm.trans isLow) (by decide))
  case goesLow =>
    have effect : exec c s = .next { s with toPart := (s.toPart.readSupply r).enterLow } := by
      rw [← Part.takeSupply_secondBelow low below second]
      obtain rfl | rfl := hc
      · exact State.act_apply _ _ hr
      · rw [exec_supplyLow, State.act_apply _ _ hr, if_pos ⟨low, Nat.le_of_eq second.symm, decide_eq_true below⟩]
    refine ⟨_, effect, ?_⟩
    have port := (s.toPart.readSupply r).enterLow_port
    obtain ⟨supply, slot, inflight, tiles, previous, display, pace, power, store, loader, height, balancer, now⟩ :=
      (s.toPart.readSupply r).enterLow_units
    obtain ⟨pending, detail⟩ := (s.toPart.readSupply r).enterLow_record
    have filled := (s.toPart.readSupply r).enterLow_lines
    have low : (s.toPart.readSupply r).enterLow.supply.low = true := by rw [supply]
    have image := Part.pictureOk_low _ low
    rw [show (s.toPart.readSupply r).supply = _ from read] at supply detail
    refine ⟨supply, slot, inflight, tiles, previous, display, pace, power, store, loader, height, balancer, now, image, filled,
      pending, detail, fun i => ?_⟩
    obtain ⟨t, b, e, held, cleared⟩ := port i
    simp only [e, true_and]
    exact ⟨rfl, rfl, held, cleared⟩
  case returns =>
    have effect : exec c s = .next { s with toPart := (s.toPart.readSupply r).leaveLow } := by
      rw [← Part.takeSupply_restores low restores last]
      obtain rfl | rfl := hc
      · exact State.act_apply _ _ hr
      · rw [exec_supplyRestored, State.act_apply _ _ hr, if_pos ⟨low, Nat.le_of_eq last.symm, decide_eq_true restores⟩]
    refine ⟨_, effect, ?_⟩
    have settling := fun i => (s.toPart.readSupply r).leaveLow_settling (i := i)
    have still := fun i => (s.toPart.readSupply r).leaveLow_still (i := i)
    obtain ⟨supply, power, store, height, display, now, gains, awaiting, filled⟩ := (s.toPart.readSupply r).leaveLow_units
    obtain ⟨pending, detail⟩ := (s.toPart.readSupply r).leaveLow_record
    have image := Part.pictureOk_awaiting _ awaiting
    rw [show (s.toPart.readSupply r).supply = _ from read] at supply detail
    refine ⟨supply, pending, detail, power, store, height, display, now, gains, image, filled, fun i =>
      ⟨fun again => settling i ((PortState.settlesAgain_iff _).2 again), fun powering unwatched => still i ?_⟩⟩
    refine Classical.byContradiction fun again => ?_
    exact ((PortState.settlesAgain_iff _).1 (Bool.not_eq_false _ ▸ again)).elim powering
      (absurd · (by rw [unwatched]; decide))

/-! ### The end of a display frame -/

theorem exec_transferEnd (s : State) : exec .transferEnd s = s.act Part.endTransfer := rfl

/-- The machine at the end of a display frame, its held request taken up. -/
def State.nextFrame (x : Transfer) (s : State) : State :=
  { s.atTick x.due with display := { s.display with transfer := none, held := false } }

section
variable {p : Part} {x : Transfer}

theorem Part.endTransfer_idle (h : p.display.transfer = none) : p.endTransfer = p := by
  simp only [Part.endTransfer, h]

theorem Part.endTransfer_ends (h : p.display.transfer = some x) (free : p.display.held = false) :
    p.endTransfer = { p.at x.due with display := { p.display with transfer := none } } := by
  simp only [Part.endTransfer, h, free, Bool.false_eq_true, if_false]

theorem Part.endTransfer_repeats (h : p.display.transfer = some x) (held : p.display.held = true) :
    p.endTransfer
      = ({ p.at x.due with display := { p.display with transfer := none, held := false } } : Part).startFrame := by
  simp only [Part.endTransfer, h, held, if_true]

end

/-- What a display frame start leaves of the units. -/
theorem State.ShowsFrame.units {s t : State} (h : s.ShowsFrame t) :
    t.link = s.link ∧ t.ports = s.ports ∧ t.store = s.store ∧ t.now = s.now ∧ t.engine.inflight = s.engine.inflight := by
  obtain ⟨_, _, _, _, _, _, _, _, _, _, _, same⟩ := h
  refine ⟨?_, ?_, ?_, ?_, ?_⟩
  all_goals rw [← same]

/-- Settles O60: the frame that follows a held request is the frame start of `Part.startFrame_shows`. -/
theorem transferEnd : Obligations.TransferEnd := by
  unfold Obligations.TransferEnd
  refine ⟨fun s idle => ?_, fun s x hr busy => ⟨fun free => ?_, fun held => ?_⟩⟩
  · rw [exec_transferEnd]
    exact State.act_same (Part.endTransfer_idle idle)
  · rw [exec_transferEnd, State.act_apply _ _ hr, Part.endTransfer_ends busy free]
    rfl
  · have effect : exec .transferEnd s = .next { s.nextFrame x with toPart := (s.nextFrame x).toPart.startFrame } := by
      rw [exec_transferEnd, State.act_apply _ _ hr, Part.endTransfer_repeats busy held]
      rfl
    have shows := Part.startFrame_shows (s.nextFrame x)
    generalize ({ s.nextFrame x with toPart := (s.nextFrame x).toPart.startFrame } : State) = t at effect shows
    obtain ⟨link, ports, store, now, inflight⟩ := shows.units
    obtain ⟨y, transfer, due, length, counterBytes, counter, _, keeps, takes, repeats, _, _⟩ := shows
    refine ⟨t, y, effect, now, transfer, due.trans (by rw [now]), keeps, counter, length, counterBytes, link, ports, store,
      inflight, fun b normal sound done => ?_, fun nothing => ?_, fun none => ?_⟩
    · obtain ⟨content, none, frozen, shown, former⟩ := takes b normal done sound
      exact ⟨content, shown, fun c hc => (former c hc).1, none, frozen⟩
    · obtain ⟨engine, count, frozen, again, _⟩ := repeats nothing
      exact ⟨engine, count, frozen, fun b sound shown => again b shown sound⟩
    · have apart : ∀ b : Fin 3, s.engine.buffers[b].state ≠ .done ∧ s.engine.buffers[b].state ≠ .shown := fun b => by
        rcases none b with h | h <;> rw [h] <;> exact ⟨nofun, nofun⟩
      obtain ⟨_, _, _, _, void⟩ := repeats (.inr fun b => (apart b).1)
      exact void fun b => (apart b).2

end Sys2Proof.Machine
end

section
/-! PROOF. The pixel arithmetic keeps its ranges (R69 to R74): O50. -/

namespace Sys2Proof.Machine

/-- A weighted sum of four values lies between the least and the greatest of them, each taken with the whole weight. -/
theorem weighted_between {a b c d total lo hi p q r s : Nat} (sum : a + b + c + d = total)
    (low : lo ≤ p ∧ lo ≤ q ∧ lo ≤ r ∧ lo ≤ s) (high : p ≤ hi ∧ q ≤ hi ∧ r ≤ hi ∧ s ≤ hi) :
    total * lo ≤ a * p + b * q + c * r + d * s ∧ a * p + b * q + c * r + d * s ≤ total * hi := by
  obtain ⟨lp, lq, lr, ls⟩ := low
  obtain ⟨hp, hq, hr, hs⟩ := high
  subst sum
  simp only [Nat.add_mul]
  exact ⟨Nat.add_le_add (Nat.add_le_add (Nat.add_le_add (Nat.mul_le_mul_left a lp) (Nat.mul_le_mul_left b lq))
      (Nat.mul_le_mul_left c lr)) (Nat.mul_le_mul_left d ls),
    Nat.add_le_add (Nat.add_le_add (Nat.add_le_add (Nat.mul_le_mul_left a hp) (Nat.mul_le_mul_left b hq))
      (Nat.mul_le_mul_left c hr)) (Nat.mul_le_mul_left d hs)⟩

/-- The four weights of a bilinear mix make up the square of its side. -/
theorem bilinear_weights {n i j : Nat} (hi : i ≤ n) (hj : j ≤ n) :
    (n - i) * (n - j) + i * (n - j) + (n - i) * j + i * j = n * n := by
  rw [← Nat.add_mul, Nat.sub_add_cancel hi, Nat.add_assoc, ← Nat.add_mul, Nat.sub_add_cancel hi, ← Nat.mul_add,
    Nat.sub_add_cancel hj]

theorem mix_between {i j lo hi : Nat} {c : Corners Nat} (hi32 : i < 32) (hj32 : j < 32)
    (low : lo ≤ c.topLeft ∧ lo ≤ c.topRight ∧ lo ≤ c.bottomLeft ∧ lo ≤ c.bottomRight)
    (high : c.topLeft ≤ hi ∧ c.topRight ≤ hi ∧ c.bottomLeft ≤ hi ∧ c.bottomRight ≤ hi) :
    lo ≤ mix i j c ∧ mix i j c ≤ hi := by
  obtain ⟨least, greatest⟩ := weighted_between (bilinear_weights (Nat.le_of_lt hi32) (Nat.le_of_lt hj32)) low high
  unfold mix
  omega

theorem frameSample_le (frame : List (List Byte)) (line k : Nat) : frameSample frame line k ≤ 255 := by
  unfold frameSample
  repeat' split
  all_goals exact Nat.lt_succ_iff.1 (BitVec.isLt _)

theorem clampEdge_fraction (last x : Nat) : (clampEdge last x).2.2 ≤ 16 := by
  unfold clampEdge
  split
  · exact Nat.zero_le _
  · exact Nat.le_of_lt (Nat.mod_lt x (by decide))

theorem preGainLuma_le (frame : List (List Byte)) (x y : Nat) : preGainLuma frame x y ≤ 255 := by
  have bounded : ∀ column line, 0 ≤ lumaSample frame column line ∧ lumaSample frame column line ≤ 255 := fun _ _ =>
    ⟨Nat.zero_le _, frameSample_le frame _ _⟩
  have fx := clampEdge_fraction 1279 x
  have fy := clampEdge_fraction 959 y
  unfold preGainLuma
  generalize clampEdge 1279 x = column at *
  generalize clampEdge 959 y = line at *
  obtain ⟨x0, x1, fx'⟩ := column
  obtain ⟨y0, y1, fy'⟩ := line
  obtain ⟨_, most⟩ := weighted_between (bilinear_weights fx fy)
    ⟨(bounded x0 y0).1, (bounded x1 y0).1, (bounded x0 y1).1, (bounded x1 y1).1⟩
    ⟨(bounded x0 y0).2, (bounded x1 y0).2, (bounded x0 y1).2, (bounded x1 y1).2⟩
  exact Nat.lt_succ_iff.1 (Nat.div_lt_of_lt_mul (Nat.lt_of_le_of_lt (Nat.add_le_add_right most 128) (by decide)))

/-- A position beyond the edge is read at the last column or line (R70). -/
theorem clampEdge_beyond {last x : Nat} (h : 16 * last ≤ x) : clampEdge last x = (last, last, 0) :=
  if_pos (by omega)

theorem preGainLuma_corner (frame : List (List Byte)) {x y : Nat} (hx : 20464 ≤ x) (hy : 15344 ≤ y) :
    preGainLuma frame x y = lumaSample frame 1279 959 := by
  simp only [preGainLuma, clampEdge_beyond (last := 1279) hx, clampEdge_beyond (last := 959) hy]
  omega

theorem blend_between {w a b : Nat} (h : w ≤ 64) : min a b ≤ blend w a b ∧ blend w a b ≤ max a b := by
  obtain ⟨least, greatest⟩ := weighted_between (a := w) (b := 64 - w) (c := 0) (d := 0) (total := 64) (p := a) (q := b)
    (r := a) (s := a) (lo := min a b) (hi := max a b) (by omega) (by omega) (by omega)
  unfold blend
  omega

/-- Settles O50: every mix is a weighted sum whose weights make up the divisor. -/
theorem pixelArithmetic : Obligations.PixelArithmetic := by
  unfold Obligations.PixelArithmetic
  refine ⟨fun i j lo hi c hi32 hj32 => mix_between hi32 hj32, preGainLuma_le, fun frame x y => preGainLuma_corner frame,
    fun y g hy => ⟨?_, Nat.min_le_left _ _⟩, fun w a b hw => ?_⟩
  · unfold gainedLuma
    omega
  · obtain ⟨least, greatest⟩ := blend_between (a := a) (b := b) hw
    refine ⟨least, greatest, ?_, ?_⟩
    · unfold blend
      omega
    · unfold blend
      omega

end Sys2Proof.Machine
end

section
/-! PROOF. The balancer's update (R87 to R92): O49. -/

namespace Sys2Proof.Machine

/-! ### The zones and their quotients -/

section
variable (gains : Vector Nat 4) (stats : Vector ZoneStats 4)

/-- The zones as the balancer reports them. -/
def zonesOf : Vector ZoneReport 4 := Vector.ofFn fun z : Fin 4 => zoneReport gains z stats[z]

/-- Zone `z` is VALID (R88, R89). -/
def ZoneValid (z : Fin 4) : Prop :=
  2048 ≤ stats[z].count
    ∧ (256 ≤ meanOf stats[z].sumA stats[z].count ∧ meanOf stats[z].sumA stats[z].count ≤ 3760)
    ∧ (256 ≤ meanOf stats[z].sumB stats[z].count ∧ meanOf stats[z].sumB stats[z].count ≤ 3760)

/-- The target of zone `z` (R90). -/
def zoneTarget (z : Fin 4) : Nat :=
  targetOf (meanOf stats[z].sumA stats[z].count) (meanOf stats[z].sumB stats[z].count) gains[z] gains[z + 1]

theorem zonesOf_get (z : Fin 4) : (zonesOf gains stats)[z] = zoneReport gains z stats[z] := by
  simp [zonesOf]

theorem zonesOf_valid {z : Fin 4} (h : ZoneValid stats z) : (zonesOf gains stats)[z].target = some (zoneTarget gains stats z) := by
  obtain ⟨count, rangeA, rangeB⟩ := h
  have a : meanInRange (meanOf stats[z].sumA stats[z].count) = true := decide_eq_true rangeA
  have b : meanInRange (meanOf stats[z].sumB stats[z].count) = true := decide_eq_true rangeB
  rw [zonesOf_get, zoneReport, if_neg (Nat.not_lt.2 count), a, b]
  rfl

theorem zonesOf_invalid {z : Fin 4} (h : ¬ ZoneValid stats z) : (zonesOf gains stats)[z].target = none := by
  rw [zonesOf_get, zoneReport]
  split
  · rfl
  · next count =>
    split
    · next means =>
      simp only [meanInRange, Bool.and_eq_true, decide_eq_true_eq] at means
      exact absurd ⟨Nat.not_lt.1 count, means.1, means.2⟩ h
    · rfl

/-- The quotient of a camera in the zone where it is camera a, and in the zone where it is camera b (R90). -/
theorem quotientA_valid {c : Fin 4} (h : ZoneValid stats c) :
    quotientA (zonesOf gains stats) stats c
      = some (1024 * zoneTarget gains stats c / meanOf stats[c].sumA stats[c].count) := by
  unfold quotientA
  rw [zonesOf_valid gains stats h]
  rfl

theorem quotientA_invalid {c : Fin 4} (h : ¬ ZoneValid stats c) : quotientA (zonesOf gains stats) stats c = none := by
  unfold quotientA
  rw [zonesOf_invalid gains stats h]
  rfl

theorem quotientB_valid {c : Fin 4} (h : ZoneValid stats (c - 1)) :
    quotientB (zonesOf gains stats) stats c
      = some (1024 * zoneTarget gains stats (c - 1) / meanOf stats[c - 1].sumB stats[c - 1].count) := by
  unfold quotientB
  rw [zonesOf_valid gains stats h]
  rfl

theorem quotientB_invalid {c : Fin 4} (h : ¬ ZoneValid stats (c - 1)) :
    quotientB (zonesOf gains stats) stats c = none := by
  unfold quotientB
  rw [zonesOf_invalid gains stats h]
  rfl

end

/-! ### The gains after an update -/

/-- The desired gain of a camera (R91). -/
def desiredGain (gains : Vector Nat 4) (stats : Vector ZoneStats 4) (c : Fin 4) : Option Nat :=
  desiredOf (quotientB (zonesOf gains stats) stats c) (quotientA (zonesOf gains stats) stats c)

theorem Balancer.update_gain (b : Balancer) (trigger : Half) (latched : Vector Nat 4) (stats : Vector ZoneStats 4) (c : Fin 4) :
    (b.update trigger latched stats).gains[c]
      = updatedGain (desiredGain latched stats c) b.written[c] b.gains[c] b.k := by
  simp [Balancer.update, desiredGain, zonesOf]

theorem updatedGain_kept {desired : Option Nat} {written : Bool} {gain k : Nat} (h : written = true ∨ desired = none) :
    updatedGain desired written gain k = gain := by
  unfold updatedGain
  split
  · rfl
  · next d =>
    obtain rfl := h.resolve_right nofun
    rfl

theorem updatedGain_steps {written : Bool} {d gain k : Nat} (h : written = false) :
    updatedGain (some d) written gain k = steppedGain d gain k := by
  rw [h]
  rfl

/-! ### A completion, up to the display port -/

/-- The part after steps 1 to 4 of a completion: the engine commits, the balancer updates, TILES_FILLED may be raised
(R79, R80). -/
def Part.committed (x : Composition) (p : Part) : Part :=
  let q := { p.at x.completion with
    engine := p.engine.commit x
    balancer := p.balancer.takeCompletion x.trigger x.latched.gains p.engine.stats }
  if p.engine.reportsFilled x then q.raise .tilesFilled (le16 x.trigger.toNat ++ le16 x.counts.filled) else q

/-- The part after the frames are released and the line unit has the FILLED count (R25, R148). -/
def Part.handedOn (x : Composition) (p : Part) : Part := (p.committed x).releaseFrames.takeFilled x.counts.filled

theorem Part.completeComposition_steps {p : Part} {x : Composition} (h : p.engine.inflight = some x) :
    p.completeComposition = (p.handedOn x).displayCompletion.tryStart := by
  simp only [Part.completeComposition, h]
  rfl

theorem Part.committed_eq (x : Composition) (p : Part) :
    ∃ l, p.committed x = { p.at x.completion with
      engine := p.engine.commit x
      balancer := p.balancer.takeCompletion x.trigger x.latched.gains p.engine.stats
      link := l } := by
  unfold Part.committed
  split
  · exact ⟨_, rfl⟩
  · exact ⟨_, rfl⟩

theorem Part.displayCompletion_balancer (p : Part) : p.displayCompletion.balancer = p.balancer := by
  unfold Part.displayCompletion
  split
  · exact p.requestFrame_balancer
  · rfl

theorem Part.handedOn_balancer (x : Composition) (p : Part) :
    (p.handedOn x).balancer = p.balancer.takeCompletion x.trigger x.latched.gains p.engine.stats := by
  obtain ⟨l, e⟩ := p.committed_eq x
  rw [Part.handedOn, Part.takeFilled, Part.follow_balancer, e]
  rfl

/-- A completion hands the balancer the statistics of the composite, and nothing after it touches the gains. -/
theorem Part.completeComposition_gains {p : Part} {x : Composition} (h : p.engine.inflight = some x) :
    p.completeComposition.balancer.gains
      = (p.balancer.takeCompletion x.trigger x.latched.gains p.engine.stats).gains := by
  rw [Part.completeComposition_steps h, Part.tryStart_balancer_gains, Part.displayCompletion_balancer,
    Part.handedOn_balancer]

theorem exec_compositionComplete (s : State) : exec .compositionComplete s = s.act Part.completeComposition := rfl

/-- Settles O49: by which of the two zones of the camera are VALID. -/
theorem balancerUpdate : Obligations.BalancerUpdate := by
  unfold Obligations.BalancerUpdate
  intro s x hr flying on _
  refine ⟨_, (exec_compositionComplete s).trans (State.act_apply _ _ hr), fun c => ?_⟩
  have gain : s.toPart.completeComposition.balancer.gains[c]
      = updatedGain (desiredGain x.latched.gains s.engine.stats c) s.balancer.written[c] s.balancer.gains[c] s.balancer.k := by
    rw [Part.completeComposition_gains flying, Balancer.takeCompletion, if_pos on, Balancer.update_gain]
  have some_a := fun h => quotientA_valid x.latched.gains s.engine.stats (c := c) h
  have none_a := fun h => quotientA_invalid x.latched.gains s.engine.stats (c := c) h
  have some_b := fun h => quotientB_valid x.latched.gains s.engine.stats (c := c) h
  have none_b := fun h => quotientB_invalid x.latched.gains s.engine.stats (c := c) h
  refine ⟨?kept, ?first, ?second, ?both⟩
  case kept =>
    intro h
    refine gain.trans (updatedGain_kept (h.imp id fun invalid => ?_))
    obtain ⟨na, nb⟩ := invalid
    rw [desiredGain, none_a na, none_b nb]
    rfl
  case first =>
    intro w va nb
    rw [desiredGain, some_a va, none_b nb] at gain
    exact gain.trans (updatedGain_steps w)
  case second =>
    intro w na vb
    rw [desiredGain, none_a na, some_b vb] at gain
    exact gain.trans (updatedGain_steps w)
  case both =>
    intro w va vb
    rw [desiredGain, some_a va, some_b vb] at gain
    exact gain.trans (updatedGain_steps w)

end Sys2Proof.Machine
end

section
/-! PROOF. The completion of a composition (R25, R79, R80, R148, R159): O48. -/

namespace Sys2Proof.Machine

/-! ### What following the outputs leaves of the part -/

theorem Part.followLine_spec (before : Part) (i : Fin 8) (p : Part) :
    ∃ l u, before.followLine i p = { p with link := l, lines := u } := by
  rw [Part.followLine_eq]
  split
  · rw [Part.clearMismatch_spec]
    exact ⟨_, _, rfl⟩
  · exact ⟨p.link, p.lines, rfl⟩

/-- Following reaches the link and the line unit alone. -/
theorem Part.follow_spec (before p : Part) : ∃ l u, before.follow p = { p with link := l, lines := u } := by
  have step : ∀ (i : Fin 8) (q : Part), (∃ l u, q = { p with link := l, lines := u }) →
      ∃ l u, before.followLine i q = { p with link := l, lines := u } := by
    rintro i q ⟨l, u, rfl⟩
    exact Part.followLine_spec before i _
  exact step _ _ (step _ _ (step _ _ (step _ _ (step _ _ (step _ _ (step _ _ (step _ _ ⟨p.link, p.lines, rfl⟩)))))))

/-! ### The engine at a completion -/

section
variable {e : Engine} {x : Composition} {b : Fin 3}

theorem Engine.only_writing (h : e.BuffersOk) (writing : e.buffers[b].state = .writing) :
    e.find? .writing = some b :=
  e.find_only _ b writing fun c hc => h.1 c b (by rw [hc]; exact nofun) (hc.trans writing.symm)

theorem Engine.commit_buffer (c : Fin 3) : (e.commit x).buffers[c] = (e.buffers[c]).complete x.record :=
  mapAll_get _ _ _

theorem CompositeBuffer.complete_writing {f : CompositeBuffer} (r : CompositeRecord) (h : f.state = .writing) :
    f.complete r = { f with state := .done, record := some r } := by
  simp only [CompositeBuffer.complete, h]

theorem CompositeBuffer.complete_done {f : CompositeBuffer} (r : CompositeRecord) (h : f.state = .done) :
    f.complete r = { f with state := .free, record := none } := by
  simp only [CompositeBuffer.complete, h]

theorem CompositeBuffer.complete_other {f : CompositeBuffer} (r : CompositeRecord) (writing : f.state ≠ .writing)
    (done : f.state ≠ .done) : f.complete r = f := by
  unfold CompositeBuffer.complete
  split
  · next h => exact absurd h writing
  · next h => exact absurd h done
  · rfl

theorem Engine.commit_previous (h : e.BuffersOk) (writing : e.buffers[b].state = .writing) :
    (e.commit x).previous = some b := by
  simp only [Engine.commit, Engine.only_writing h writing]

end

/-! ### TILES_FILLED (R80) -/

section
variable {e : Engine} {x : Composition}

theorem Engine.reportsFilled_none (h : x.counts.filled = 0) : e.reportsFilled x = false := by
  simp [Engine.reportsFilled, h]

theorem Engine.reportsFilled_first (first : e.firstComposite = true) (h : 0 < x.counts.filled) :
    e.reportsFilled x = true := by
  simp [Engine.reportsFilled, first, h]

/-- After a composite, TILES_FILLED goes by the record that the previous-composite pointer names. -/
theorem Engine.reportsFilled_later {c : Fin 3} {r : CompositeRecord} (first : e.firstComposite = false)
    (previous : e.previous = some c) (record : e.buffers[c].record = some r) :
    e.reportsFilled x = (decide (0 < x.counts.filled) && r.counts.filled == 0) := by
  have unfilled : e.previousUnfilled = (r.counts.filled == 0) := by simp only [Engine.previousUnfilled, previous, record]
  rw [Engine.reportsFilled, first, unfilled, Bool.false_or]

end

/-! ### The part at a completion -/

section
variable (x : Composition) (p : Part)

/-- What a completion leaves of the part before the display port takes it. -/
theorem Part.handedOn_eq :
    ∃ l u, p.handedOn x = { p.at x.completion with
      engine := p.engine.commit x
      balancer := p.balancer.takeCompletion x.trigger x.latched.gains p.engine.stats
      ports := mapAll p.ports Port.release, link := l, lines := u } := by
  obtain ⟨l, e⟩ := p.committed_eq x
  obtain ⟨l', u', e'⟩ := Part.follow_spec (p.committed x).releaseFrames { (p.committed x).releaseFrames with
    lines := { (p.committed x).releaseFrames.lines with filled := some x.counts.filled, awaiting := false } }
  refine ⟨l', u', ?_⟩
  rw [Part.handedOn, Part.takeFilled, e', e]
  rfl

theorem Part.handedOn_lines :
    (p.handedOn x).lines.filled = some x.counts.filled ∧ (p.handedOn x).lines.awaiting = false
      ∧ ∀ i : Fin 8, (p.handedOn x).lines.line[i].config = p.lines.line[i].config := by
  obtain ⟨l, e⟩ := p.committed_eq x
  refine ⟨Part.follow_filled _ _, Part.follow_awaiting _ _, fun i => ?_⟩
  obtain ⟨n, f, line⟩ := (p.committed x).releaseFrames.follow_line { (p.committed x).releaseFrames with
    lines := { (p.committed x).releaseFrames.lines with filled := some x.counts.filled, awaiting := false } } i
  rw [Part.handedOn, Part.takeFilled, line, e]
  rfl

theorem Part.handedOn_pictureOk :
    (p.handedOn x).pictureOk = (!p.supply.low && p.pace.runState == .running && x.counts.filled == 0) := by
  obtain ⟨filled, awaiting, _⟩ := p.handedOn_lines x
  have units : (p.handedOn x).supply = p.supply ∧ (p.handedOn x).pace = p.pace := by
    obtain ⟨l, u, e⟩ := p.handedOn_eq x
    rw [e]
    exact ⟨rfl, rfl⟩
  rw [Part.pictureOk, filled, awaiting, units.1, units.2]
  simp

theorem Part.handedOn_record :
    (p.handedOn x).link.record .tilesFilled = (p.committed x).link.record .tilesFilled :=
  Part.follow_record _ _ .tilesFilled nofun

theorem Part.handedOn_told (h : p.engine.reportsFilled x = true) :
    ((p.handedOn x).link.record .tilesFilled).pending = true
      ∧ ((p.handedOn x).link.record .tilesFilled).detail = le16 x.trigger.toNat ++ le16 x.counts.filled := by
  rw [Part.handedOn_record, Part.committed, if_pos h]
  exact p.link.raise_own .tilesFilled _

theorem Part.handedOn_untold (h : p.engine.reportsFilled x = false) :
    (p.handedOn x).link.record .tilesFilled = p.link.record .tilesFilled := by
  rw [Part.handedOn_record, Part.committed, if_neg (by rw [h]; decide)]
  rfl

end

theorem Part.displayCompletion_buffersOk {p : Part} (h : p.engine.BuffersOk) : p.displayCompletion.engine.BuffersOk :=
  (Part.displayCompletion_moves p).keep (I := fun r => r.engine.BuffersOk) (fun _ _ m => m.buffersOk)
    (fun _ _ m => m.buffersOk) h

theorem Part.displayCompletion_wait (p : Part) :
    p.displayCompletion.engine.slot = p.engine.slot ∧ p.displayCompletion.engine.inflight = p.engine.inflight := by
  unfold Part.displayCompletion
  split
  · exact ⟨p.requestFrame_engine_slot, p.requestFrame_engine_inflight⟩
  · exact ⟨rfl, rfl⟩

theorem Part.tryStart_waiting {p : Part} (h : ∀ n stale, p.engine.slot ≠ .ready n stale) : p.tryStart = p := by
  unfold Part.tryStart
  split
  · next n stale _ e _ _ => exact absurd e (h n stale)
  · rfl

/-- Settles O48: the engine commits and hands on, the display port takes the completion, and what is READY starts. -/
theorem compositionComplete : Obligations.CompositionComplete := by
  unfold Obligations.CompositionComplete
  refine ⟨fun s idle => ?_, fun s x b hr flying sound writing => ?_⟩
  · rw [exec_compositionComplete]
    exact State.act_same (by simp only [Part.completeComposition, idle])
  · have effect : exec .compositionComplete s
        = .next { s with toPart := (s.toPart.handedOn x).displayCompletion.tryStart } := by
      rw [exec_compositionComplete, State.act_apply _ _ hr, Part.completeComposition_steps flying]
    obtain ⟨l, u, e⟩ := s.toPart.handedOn_eq x
    have engine : (s.toPart.handedOn x).engine = s.engine.commit x := by rw [e]
    have ports : (s.toPart.handedOn x).ports = mapAll s.ports Port.release := by rw [e]
    have now : (s.toPart.handedOn x).now = max s.now x.completion := by rw [e]; rfl
    have display : (s.toPart.handedOn x).display = s.display := by rw [e]; rfl
    obtain ⟨filled, _, configs⟩ := s.toPart.handedOn_lines x
    have ok : (s.toPart.handedOn x).engine.BuffersOk := engine ▸ Engine.commit_buffersOk sound flying
    have buffer : ∀ c : Fin 3, (s.toPart.handedOn x).engine.buffers[c] = (s.engine.buffers[c]).complete x.record := fun c => by
      rw [engine, Engine.commit_buffer]
    have landed : (s.toPart.handedOn x).engine.inflight = .none := by rw [engine]; rfl
    have slotKept : (s.toPart.handedOn x).engine.slot = s.engine.slot := by rw [engine]; rfl
    have tiles : (s.toPart.handedOn x).engine.tiles = x.next := by rw [engine]; rfl
    have previous : (s.toPart.handedOn x).engine.previous = some b := by
      rw [engine]
      exact Engine.commit_previous sound writing
    have first : (s.toPart.handedOn x).engine.firstComposite = false := by rw [engine]; rfl
    obtain ⟨slot, inflight⟩ := (s.toPart.handedOn x).displayCompletion_wait
    refine ⟨{ s with toPart := s.toPart.handedOn x }, { s with toPart := (s.toPart.handedOn x).displayCompletion }, now,
      landed, slotKept, tiles, previous, first, ok, (buffer b).trans (CompositeBuffer.complete_writing _ writing),
      ?former, ?others, ports, filled, s.toPart.handedOn_pictureOk x, ⟨?none, ?first, ?later⟩, ?disabled, configs, ?frame,
      ?continuous, ?single, ?waits, ?starts⟩
    case former =>
      intro c _ done
      have freed := (buffer c).trans (CompositeBuffer.complete_done _ done)
      exact ⟨congrArg CompositeBuffer.state freed, congrArg CompositeBuffer.record freed⟩
    case others =>
      intro c other undone
      have unwritten : s.engine.buffers[c].state ≠ .writing := fun w =>
        other (sound.1 c b (by rw [w]; exact nofun) (w.trans writing.symm))
      exact (buffer c).trans (CompositeBuffer.complete_other _ unwritten undone)
    case none => exact fun h => s.toPart.handedOn_untold x (Engine.reportsFilled_none h)
    case first => exact fun first h => s.toPart.handedOn_told x (Engine.reportsFilled_first first h)
    case later =>
      intro c r first previous record
      have reports := Engine.reportsFilled_later (x := x) first previous record
      refine ⟨fun clean h => s.toPart.handedOn_told x ?_, fun some => s.toPart.handedOn_untold x ?_⟩
      · rw [reports, clean]
        simp [h]
      · rw [reports, beq_eq_false_iff_ne.2 some, Bool.and_false]
    case disabled =>
      intro off
      rw [Part.handedOn_balancer, Balancer.takeCompletion, if_neg (by rw [off]; decide)]
    case frame =>
      rw [e]
      rfl
    case continuous =>
      intro continuous
      have mode : (s.toPart.handedOn x).display.mode ≠ .single := by
        rw [display, continuous]
        exact nofun
      rw [Part.displayCompletion, if_neg mode]
    case single =>
      intro single
      have mode : (s.toPart.handedOn x).display.mode = .single := by rw [display, single]
      rw [Part.displayCompletion, if_pos mode]
      exact Part.requestFrame_requested { s with toPart := s.toPart.handedOn x }
    case waits =>
      intro none
      rw [effect, Part.tryStart_waiting fun n stale => ?_]
      rw [slot, engine]
      exact none n stale
    case starts =>
      intro m stale ready
      have ready' : (s.toPart.handedOn x).displayCompletion.engine.slot = .ready m stale := by rw [slot, engine]; exact ready
      have idle : (s.toPart.handedOn x).displayCompletion.engine.inflight = .none := by rw [inflight, engine]; rfl
      have ok' := Part.displayCompletion_buffersOk ok
      obtain ⟨f, found, free, lowest⟩ := Engine.free_found _ (ok'.2.1.1 idle) ok'.1
      exact ⟨_, effect, Part.tryStart_composes { s with toPart := (s.toPart.handedOn x).displayCompletion } m stale f ready'
        idle found free lowest⟩

end Sys2Proof.Machine
end

section
/-! PROOF. The end of a period and what a boundary does to gather and display (R44, R45, R47, R57, R172): O46. -/

namespace Sys2Proof.Machine

/-! ### The gatherer at a boundary (R57) -/

section
variable {p : Part} {n : Half} {stale : Nat}

theorem Part.gatherBoundary_normal (low : p.supply.low = false) :
    p.gatherBoundary n stale = (p.closeGather.skipReady).setSlot (.gathering n stale) := by
  rw [Part.gatherBoundary, if_neg (by rw [low]; decide)]

theorem Part.tryStart_busy {x : Composition} (h : p.engine.inflight = some x) : p.tryStart = p := by
  unfold Part.tryStart
  split
  · next idle _ => exact nomatch h.symm.trans idle
  · rfl

/-- A trigger that the boundary finds in the slot with the engine busy is skipped with OVERRUN. -/
theorem Part.gatherBoundary_busy {m : Half} {old : Nat} {x : Composition} (low : p.supply.low = false)
    (slot : p.engine.slot = .ready m old ∨ p.engine.slot = .gathering m old) (busy : p.engine.inflight = some x) :
    p.gatherBoundary n stale
      = (p.raise .overrun (le16 m.toNat ++ le16 x.trigger.toNat)).setSlot (.gathering n stale) := by
  rw [Part.gatherBoundary_normal low]
  obtain ready | gathering := slot
  · simp only [Part.closeGather, ready, Part.skipReady, busy]
  · have waits : (p.setSlot (.ready m old)).tryStart = p.setSlot (.ready m old) :=
      Part.tryStart_busy (p := p.setSlot (.ready m old)) busy
    have skips : (p.setSlot (.ready m old)).skipReady
        = (p.setSlot (.ready m old)).raise .overrun (le16 m.toNat ++ le16 x.trigger.toNat) := by
      simp only [Part.skipReady, Part.setSlot, busy]
    simp only [Part.closeGather, gathering, waits, skips]
    rfl

/-- A composition start leaves a buffer that is not FREE as it is. -/
theorem Part.tryStart_buffer (p : Part) {b : Fin 3} (h : p.engine.buffers[b].state ≠ .free) :
    p.tryStart.engine.buffers[b] = p.engine.buffers[b] := by
  unfold Part.tryStart
  split
  · next n stale c slot idle free =>
    have other : c ≠ b := fun e => h (e ▸ Engine.find?_state free)
    simp only [Part.compose, Part.swapTables_engine_buffers]
    rw [update_get, if_neg other]
  · rfl

theorem Part.tryStart_void (p : Part) : p.tryStart.engine.void = p.engine.void := by
  unfold Part.tryStart
  split
  · simp only [Part.compose, Part.swapTables]
    split <;> rfl
  · rfl

theorem Part.closeGather_cases (p : Part) :
    p.closeGather = p ∨ ∃ n stale, p.closeGather = (p.setSlot (.ready n stale)).tryStart := by
  unfold Part.closeGather
  split
  · exact .inr ⟨_, _, rfl⟩
  · exact .inl rfl

/-- The engine behind a boundary is the one the closed gather left, but for its slot. -/
theorem Part.gatherBoundary_engine (p : Part) (n : Half) (stale : Nat) :
    ∃ slot, (p.gatherBoundary n stale).engine = { p.engine with slot := slot }
      ∨ ∃ old, (p.gatherBoundary n stale).engine = { (p.setSlot old).tryStart.engine with slot := slot } := by
  simp only [Part.gatherBoundary]
  split
  · exact ⟨_, .inl rfl⟩
  · refine ⟨.gathering n stale, ?_⟩
    have behind : (p.closeGather.skipReady.setSlot (.gathering n stale)).engine
        = { p.closeGather.engine with slot := .gathering n stale } := by
      simp only [Part.setSlot, Part.skipReady_engine]
    rw [behind]
    obtain e | ⟨m, old, e⟩ := p.closeGather_cases
    · exact .inl (by rw [e])
    · exact .inr ⟨.ready m old, by rw [e]⟩

theorem Part.gatherBoundary_buffer {b : Fin 3} (h : p.engine.buffers[b].state ≠ .free) :
    (p.gatherBoundary n stale).engine.buffers[b] = p.engine.buffers[b] := by
  obtain ⟨slot, e | ⟨old, e⟩⟩ := p.gatherBoundary_engine n stale
  · rw [e]
  · rw [e]
    exact Part.tryStart_buffer (p.setSlot old) h

theorem Part.gatherBoundary_void : (p.gatherBoundary n stale).engine.void = p.engine.void := by
  obtain ⟨slot, e | ⟨old, e⟩⟩ := p.gatherBoundary_engine n stale
  · rw [e]
  · rw [e]
    exact Part.tryStart_void (p.setSlot old)

theorem Part.gatherBoundary_buffersOk (h : p.engine.BuffersOk) : (p.gatherBoundary n stale).engine.BuffersOk := by
  obtain ⟨slot, e | ⟨old, e⟩⟩ := p.gatherBoundary_engine n stale
  · rw [e]
    exact h
  · rw [e]
    exact Part.tryStart_buffersOk (p := p.setSlot old) h

theorem Part.gatherBoundary_slot : (p.gatherBoundary n stale).engine.slot
    = if p.supply.low then .empty else .gathering n stale := by
  simp only [Part.gatherBoundary]
  split <;> rfl

end

/-- A composition's start looks at these units alone. -/
theorem Composition.StartedFrom.congr {x : Composition} {n : Half} {stale : Nat} {r s : State} (h : x.StartedFrom n stale r)
    (balancer : r.balancer = s.balancer) (hold : r.engine.hold = s.engine.hold) (void : r.engine.void = s.engine.void)
    (divider : r.engine.divider = s.engine.divider) (loader : r.loader = s.loader) (ports : r.ports = s.ports)
    (lines : ∀ i : Fin 8, r.lines.line[i].config = s.lines.line[i].config
      ∧ r.lines.line[i].debounced = s.lines.line[i].debounced) : x.StartedFrom n stale s := by
  obtain ⟨trigger, gains, hold', void', divider', groups, staged, loaded, present⟩ := h
  rw [balancer] at gains
  rw [loader] at staged loaded
  rw [ports] at present
  refine ⟨trigger, gains, hold'.trans hold, void'.trans void, divider'.trans divider, fun g => (groups g).trans ?_, staged,
    loaded, present⟩
  refine exists_congr fun i => ?_
  obtain ⟨config, debounced⟩ := lines i
  simp only [config, debounced]

/-- A gather that the boundary finds with the engine IDLE is composed, and the new gather opened behind it. -/
theorem State.gatherBoundary_composes (s : State) {n m : Half} {stale old : Nat} (low : s.supply.low = false)
    (slot : s.engine.slot = .gathering m old) (idle : s.engine.inflight = none) (ok : s.engine.BuffersOk) :
    ∃ t : State, State.Composes m old { s with toPart := s.toPart.setSlot (.ready m old) } t
      ∧ s.toPart.gatherBoundary n stale = t.toPart.setSlot (.gathering n stale) := by
  obtain ⟨b, found, free, lowest⟩ := Engine.free_found _ (ok.2.1.1 idle) ok.1
  have composes := Part.tryStart_composes { s with toPart := s.toPart.setSlot (.ready m old) } m old b rfl idle found free
    lowest
  refine ⟨_, composes, ?_⟩
  have empty : (s.toPart.setSlot (.ready m old)).tryStart.engine.slot = .empty := composes.1
  have quiet : (s.toPart.setSlot (.ready m old)).tryStart.skipReady = (s.toPart.setSlot (.ready m old)).tryStart := by
    unfold Part.skipReady
    split
    · next e _ => exact nomatch empty.symm.trans e
    · rfl
  rw [Part.gatherBoundary_normal low]
  simp only [Part.closeGather, slot, quiet]

/-! ### The display port at a boundary (R172) -/

/-- A frame request leaves a FREE or WRITING buffer as it is. -/
theorem Part.requestFrame_buffer (p : Part) {b : Fin 3}
    (h : p.engine.buffers[b].state = .free ∨ p.engine.buffers[b].state = .writing) :
    p.requestFrame.engine.buffers[b] = p.engine.buffers[b] := by
  unfold Part.requestFrame
  split
  · split
    · obtain ⟨y, _, _, _, _, _, _, _, _, _, kept, _⟩ := Part.startFrame_shows ⟨p, []⟩
      exact kept b h
    · rfl
  · rfl

theorem Part.displayBoundary_buffer (m : PaceMode) (p : Part) {b : Fin 3}
    (h : p.engine.buffers[b].state = .free ∨ p.engine.buffers[b].state = .writing) :
    (p.displayBoundary m).engine.buffers[b] = p.engine.buffers[b] := by
  simp only [Part.displayBoundary]
  split
  · exact Part.requestFrame_buffer _ h
  · rfl

/-! ### A boundary of a RUNNING pace (R44) -/

theorem exec_periodEnd (s : State) : exec .periodEnd s = s.act Part.periodEnds := rfl

theorem exec_capturePulseEnd (s : State) : exec .capturePulseEnd s = s.act Part.capturePulseEnds := rfl

section
variable (p : Part)

/-- The part with the pace timer's and the line unit's work of a boundary done, as the gatherer finds it. -/
def Part.timed (p : Part) : Part := p.follow { p with pace := p.pace.boundary p.now }

theorem Part.timed_spec : ∃ l u, p.timed = { p with pace := p.pace.boundary p.now, link := l, lines := u } :=
  p.follow_spec { p with pace := p.pace.boundary p.now }

theorem Part.timed_line (i : Fin 8) : p.timed.lines.line[i].config = p.lines.line[i].config
    ∧ p.timed.lines.line[i].debounced = p.lines.line[i].debounced := by
  obtain ⟨n, f, e⟩ := p.follow_line { p with pace := p.pace.boundary p.now } i
  rw [Part.timed, e]
  exact ⟨rfl, rfl⟩

/-- The part with the gatherer's work of a boundary done, as the display port finds it. -/
def Part.regathered (p : Part) : Part := p.timed.gatherBoundary (p.pace.trigger + 1) p.pace.configured.stale

theorem Part.boundary_eq : p.boundary = p.regathered.displayBoundary p.pace.configured.mode := by
  obtain ⟨l, u, e⟩ := p.timed_spec
  have timed : p.boundary = (p.timed.gatherBoundary p.timed.pace.trigger p.timed.pace.inForce.stale).displayBoundary
      p.timed.pace.inForce.mode := rfl
  have pace : p.timed.pace = p.pace.boundary p.now := by rw [e]
  rw [timed, pace]
  rfl

theorem Part.boundary_slot :
    p.boundary.engine.slot
      = if p.supply.low then .empty else .gathering (p.pace.trigger + 1) p.pace.configured.stale := by
  obtain ⟨l, u, e⟩ := p.timed_spec
  rw [Part.boundary_eq, Part.displayBoundary_engine_slot, Part.regathered, Part.gatherBoundary_slot, e]

/-- What the gatherer finds in the slot with the engine busy is skipped (R57). -/
theorem Part.boundary_skips {m : Half} {old : Nat} {x : Composition} (low : p.supply.low = false)
    (slot : p.engine.slot = .ready m old ∨ p.engine.slot = .gathering m old) (busy : p.engine.inflight = some x) :
    p.boundary.engine.inflight = some x ∧ (p.boundary.link.record .overrun).pending = true
      ∧ (p.boundary.link.record .overrun).detail = le16 m.toNat ++ le16 x.trigger.toNat := by
  obtain ⟨l, u, e⟩ := p.timed_spec
  have skips := Part.gatherBoundary_busy (p := p.timed) (n := p.pace.trigger + 1) (stale := p.pace.configured.stale)
    (m := m) (old := old) (x := x) (by rw [e]; exact low) (by rw [e]; exact slot) (by rw [e]; exact busy)
  rw [Part.boundary_eq, Part.displayBoundary_engine_inflight, Part.displayBoundary_link, Part.regathered, skips]
  exact ⟨by rw [e]; exact busy, p.timed.link.raise_own .overrun _⟩

end

/-- A gather that a boundary finds with the engine IDLE is composed (R57, R61). -/
theorem State.boundary_composes (s : State) {m : Half} {old : Nat} (low : s.supply.low = false)
    (slot : s.engine.slot = .gathering m old) (idle : s.engine.inflight = none) (ok : s.engine.BuffersOk) :
    ∃ x : Composition, s.boundary.engine.inflight = some x ∧ x.StartedFrom m old s
      ∧ s.boundary.balancer = { s.balancer with written := #v[false, false, false, false] }
      ∧ ∃ b : Fin 3, s.engine.buffers[b].state = .free ∧ s.boundary.engine.buffers[b].state = .writing := by
  obtain ⟨l, u, e⟩ := s.toPart.timed_spec
  have engine : s.toPart.timed.engine = s.engine := by rw [e]
  have hold : s.toPart.timed.engine.hold = s.engine.hold := by rw [e]
  have void : s.toPart.timed.engine.void = s.engine.void := by rw [e]
  have divider : s.toPart.timed.engine.divider = s.engine.divider := by rw [e]
  have balancer : s.toPart.timed.balancer = s.balancer := by rw [e]
  have loader : s.toPart.timed.loader = s.loader := by rw [e]
  have ports : s.toPart.timed.ports = s.ports := by rw [e]
  have supply : s.toPart.timed.supply = s.supply := by rw [e]
  obtain ⟨t, ⟨_, ⟨x, flying, started⟩, unwritten, ⟨b, free, _, writing, _⟩, _⟩, behind⟩ :=
    State.gatherBoundary_composes { s with toPart := s.toPart.timed } (n := s.pace.trigger + 1)
      (stale := s.pace.configured.stale) (m := m) (old := old) (by rw [supply]; exact low) (by rw [engine]; exact slot)
      (by rw [engine]; exact idle) (by rw [engine]; exact ok)
  have regathered : s.toPart.regathered = t.toPart.setSlot (.gathering (s.pace.trigger + 1) s.pace.configured.stale) := behind
  have claimed : s.toPart.regathered.engine.buffers[b].state = .writing := by rw [regathered]; exact writing
  refine ⟨x, ?_, ?_, ?_, b, ?_, ?_⟩
  · rw [Part.boundary_eq, Part.displayBoundary_engine_inflight, regathered]
    exact flying
  · exact started.congr balancer hold void divider loader ports s.toPart.timed_line
  · rw [Part.boundary_eq, Part.displayBoundary_balancer, regathered, ← balancer]
    exact unwritten
  · rw [← engine]
    exact free
  · rw [Part.boundary_eq, Part.displayBoundary_buffer _ _ (.inr claimed)]
    exact claimed

/-- How the display port takes a boundary (R172). -/
theorem State.boundary_displays (s : State) :
    ∃ d : State, d.display = { s.display with mode := s.pace.configured.mode } ∧ d.power = s.power ∧ d.supply = s.supply
      ∧ d.now = s.now ∧ (s.engine.BuffersOk → d.engine.BuffersOk)
      ∧ (∀ b : Fin 3, s.engine.buffers[b].state ≠ .free → d.engine.buffers[b] = s.engine.buffers[b])
      ∧ d.engine.void = s.engine.void
      ∧ (s.pace.configured.mode = .single → { s with toPart := s.boundary } = d)
      ∧ (s.pace.configured.mode = .continuous → d.FrameRequested { s with toPart := s.boundary }) := by
  obtain ⟨l, u, e⟩ := s.toPart.timed_spec
  have engine : s.toPart.timed.engine = s.engine := by rw [e]
  have display : s.toPart.regathered.display = s.display := by rw [Part.regathered, Part.gatherBoundary_display, e]
  have power : s.toPart.regathered.power = s.power := by rw [Part.regathered, Part.gatherBoundary_power, e]
  have supply : s.toPart.regathered.supply = s.supply := by rw [Part.regathered, Part.gatherBoundary_supply, e]
  have now : s.toPart.regathered.now = s.now := by rw [Part.regathered, Part.gatherBoundary_now, e]
  refine ⟨{ s with toPart := { s.toPart.regathered with
    display := { s.toPart.regathered.display with mode := s.pace.configured.mode } } }, ?_, power, supply, now, ?_, ?_, ?_,
    ?_, ?_⟩
  · show { s.toPart.regathered.display with mode := s.pace.configured.mode } = _
    rw [display]
  · intro ok
    exact Part.gatherBoundary_buffersOk (p := s.toPart.timed) (by rw [engine]; exact ok)
  · intro b taken
    have kept := Part.gatherBoundary_buffer (p := s.toPart.timed) (n := s.pace.trigger + 1)
      (stale := s.pace.configured.stale) (b := b) (by rw [engine]; exact taken)
    exact kept.trans (by rw [engine])
  · exact Part.gatherBoundary_void.trans (by rw [engine])
  · intro single
    rw [Part.boundary_eq, Part.displayBoundary, if_neg (by rw [single]; exact nofun)]
  · intro continuous
    rw [Part.boundary_eq, Part.displayBoundary, if_pos continuous]
    exact Part.requestFrame_requested { s with toPart := { s.toPart.regathered with
      display := { s.toPart.regathered.display with mode := s.pace.configured.mode } } }

/-! ### The end of a period (R47) -/

section
variable {p : Part} {since : Nat}

theorem Part.periodEnds_boundary (counting : p.pace.counter = .counting since) (running : p.pace.runState = .running)
    (mode : p.pace.inForce.mode = .continuous) :
    p.periodEnds = (p.at (since + p.pace.inForce.period)).boundary := by
  simp only [Part.periodEnds, counting, Part.endPeriod, Part.at, running, mode]

theorem Part.periodEnds_stops (counting : p.pace.counter = .counting since)
    (ends : p.pace.runState = .stopping ∨ p.pace.runState = .running ∧ p.pace.inForce.mode = .single) :
    p.periodEnds = (p.at (since + p.pace.inForce.period)).enterStopped := by
  obtain stopping | ⟨running, single⟩ := ends
  · simp only [Part.periodEnds, counting, Part.endPeriod, Part.at, stopping]
  · simp only [Part.periodEnds, counting, Part.endPeriod, Part.at, running, single]

theorem Part.enterStopped_pace (counting : p.pace.counter = .counting since) :
    p.enterStopped.pace
      = { p.pace with inForce := p.pace.configured, runState := .stopped, counter := .stopped (p.now - since) } := by
  rw [Part.enterStopped, Part.setRunState_pace]
  simp only [counting, PeriodCounter.stop]

theorem Part.enterStopped_port (i : Fin 4) :
    p.enterStopped.ports[i] = { p.ports[i] with timer := p.enterStopped.ports[i].timer } := by
  have timer : ∀ q : Port, (∃ t, q = { p.ports[i] with timer := t }) → q = { p.ports[i] with timer := q.timer } := by
    rintro q ⟨t, e⟩
    rw [e]
  exact timer _ (Part.setRunState_port .stopped _ i)

end

/-- Settles O46: a boundary is the pace timer's work, then the gatherer's, then the display port's; a stop is neither. -/
theorem periodEnd : Obligations.PeriodEnd := by
  unfold Obligations.PeriodEnd
  refine ⟨fun s since hr counting => ⟨fun running mode => ?_, fun ends => ?_⟩, fun s n stopped => ?_,
    fun s due hr pulse => ?_, fun s none => ?_⟩
  · have effect : exec .periodEnd s = .next { s with toPart := (s.at (since + s.pace.inForce.period)).boundary } := by
      rw [exec_periodEnd, State.act_apply _ _ hr, Part.periodEnds_boundary counting running mode]
    have slot := (s.at (since + s.pace.inForce.period)).boundary_slot
    refine ⟨_, effect, Part.boundary_now _, ?pace, ?low, ?normal,
      fun m stale x low slot busy => Part.boundary_skips _ low slot busy,
      fun m stale low slot idle ok => State.boundary_composes (s.atTick _) low slot idle ok,
      State.boundary_displays (s.atTick _), Part.boundary_balancer_gains _, Part.boundary_store _, Part.boundary_power _,
      Part.boundary_supply _, Part.boundary_height _, ?port⟩
    case low => exact fun low => slot.trans (if_pos low)
    case normal => exact fun low => slot.trans (if_neg (by show ¬ s.supply.low = true; rw [low]; decide))
    case pace =>
      refine (Part.boundary_pace _).trans ?_
      simp only [Pace.boundary, Part.at, running]
      rfl
    case port =>
      intro i
      obtain ⟨b, r, e⟩ := (s.at (since + s.pace.inForce.period)).boundary_port i
      show (Part.ports _)[i].state = _ ∧ _
      rw [e]
      exact ⟨rfl, rfl, rfl, rfl⟩
  · have effect : exec .periodEnd s = .next { s with toPart := (s.at (since + s.pace.inForce.period)).enterStopped } := by
      rw [exec_periodEnd, State.act_apply _ _ hr, Part.periodEnds_stops counting ends]
    refine ⟨_, effect, Part.setRunState_now _ _, Part.enterStopped_pace (p := s.at _) counting, Part.setRunState_engine _ _,
      Part.setRunState_balancer _ _, Part.setRunState_display _ _, Part.setRunState_store _ _, Part.setRunState_height _ _,
      Part.setRunState_loader _ _, Part.setRunState_supply _ _, Part.setRunState_power _ _, fun i => ?_⟩
    exact Part.enterStopped_port i
  · rw [exec_periodEnd]
    exact State.act_same (by simp only [Part.periodEnds, stopped])
  · rw [exec_capturePulseEnd, State.act_apply _ _ hr]
    simp only [Part.capturePulseEnds, pulse]
    rfl
  · rw [exec_capturePulseEnd]
    exact State.act_same (by simp only [Part.capturePulseEnds, none])

end Sys2Proof.Machine
end

section
/-! PROOF. The events of HGT: edges, the first level, silence, and the filter (R102 to R111): O51, O52. -/

namespace Sys2Proof.Machine

theorem exec_hgtActiveEdge (micros : Nat) (s : State) : exec (.hgtActiveEdge micros) s = s.act (Part.activeEdge micros) := rfl

theorem exec_hgtInactiveEdge (micros : Nat) (s : State) :
    exec (.hgtInactiveEdge micros) s = s.act (Part.inactiveEdge micros) := rfl

theorem exec_hgtFirstLevelAccepted (first : FirstLevel) (s : State) :
    exec (.hgtFirstLevelAccepted first) s = s.act (Part.firstLevel first) := rfl

theorem exec_silenceExpiry (s : State) : exec .silenceExpiry s = s.act Part.silenceExpires := rfl

/-! ### Invalid readings (R104, R106) -/

section
variable {p : Part} {r : Reading}

theorem Part.takeInvalid_few (few : p.height.invalid < 2) :
    p.takeInvalid r = { p with height := { p.height with lastReading := some r, invalid := p.height.invalid + 1 } } := by
  simp only [Part.takeInvalid]
  rw [if_pos (by omega)]

/-- The third invalid reading in a row brings FAULT, told unless the state is FAULT already. -/
theorem Part.takeInvalid_third (third : p.height.invalid = 2) (untold : p.height.state ≠ .fault) :
    p.takeInvalid r = { p with height := { p.height with
      lastReading := some r, invalid := 0, window := [], state := .fault } }.raise .heightFault [r.verdict.code] := by
  simp only [Part.takeInvalid]
  rw [if_neg (by omega), if_neg untold]

theorem Part.takeInvalid_faulted (third : p.height.invalid = 2) (fault : p.height.state = .fault) :
    p.takeInvalid r = { p with height := { p.height with
      lastReading := some r, invalid := 0, window := [], state := .fault } } := by
  simp only [Part.takeInvalid]
  rw [if_neg (by omega), if_pos fault]

theorem Part.takeReading_valid (h : r.verdict = .valid) : p.takeReading r = p.takeValid r := by
  rw [Part.takeReading, if_pos h]

theorem Part.takeReading_invalid (h : r.verdict ≠ .valid) : p.takeReading r = p.takeInvalid r := by
  rw [Part.takeReading, if_neg h]

end

/-! ### When the filter accepts (R102) -/

theorem Height.mayAccept_iff (t : Nat) (h : Height) : h.mayAccept t = true ↔ h.state ≠ .stopped ∧ h.filterSince + 4 ≤ t := by
  simp only [Height.mayAccept, Bool.and_eq_true, bne_iff_ne, decide_eq_true_eq]

section
variable {p : Part} {micros : Nat}

theorem Part.inactiveEdge_not (h : ¬ p.height.edgeTo (!p.height.config.polarity) (p.edgeMicros micros) = true) :
    p.inactiveEdge micros = p := by
  simp only [Part.inactiveEdge]
  rw [if_neg h]

theorem Part.inactiveEdge_unheld (h : p.height.edgeTo (!p.height.config.polarity) (p.edgeMicros micros) = true)
    (held : p.height.heldEdge = none) :
    p.inactiveEdge micros = p.acceptEdge (!p.height.config.polarity) (p.edgeMicros micros) := by
  simp only [Part.inactiveEdge, held]
  rw [if_pos h]

theorem Part.inactiveEdge_held {since : Nat}
    (h : p.height.edgeTo (!p.height.config.polarity) (p.edgeMicros micros) = true) (held : p.height.heldEdge = some since) :
    p.inactiveEdge micros
      = { p.acceptEdge (!p.height.config.polarity) (p.edgeMicros micros) with
          height := { (p.acceptEdge (!p.height.config.polarity) (p.edgeMicros micros)).height with
            activeTime := p.edgeMicros micros - since } } := by
  simp only [Part.inactiveEdge, held]
  rw [if_pos h]

theorem Part.activeEdge_not (h : ¬ p.height.edgeTo p.height.config.polarity (p.edgeMicros micros) = true) :
    p.activeEdge micros = p := by
  simp only [Part.activeEdge]
  rw [if_neg h]

/-- The part at an active edge, a new measurement begun. -/
def Part.measuring (micros : Nat) (p : Part) : Part :=
  { p.acceptEdge p.height.config.polarity (p.edgeMicros micros) with
    height := { (p.acceptEdge p.height.config.polarity (p.edgeMicros micros)).height with
      heldEdge := some (p.edgeMicros micros) } }

theorem Part.activeEdge_unheld (h : p.height.edgeTo p.height.config.polarity (p.edgeMicros micros) = true)
    (held : p.height.heldEdge = none) : p.activeEdge micros = p.measuring micros := by
  simp only [Part.activeEdge, held]
  rw [if_pos h]
  rfl

theorem Part.activeEdge_held {since : Nat} (h : p.height.edgeTo p.height.config.polarity (p.edgeMicros micros) = true)
    (held : p.height.heldEdge = some since) :
    p.activeEdge micros
      = (p.measuring micros).takeReading (readingOf p.height.activeTime (p.edgeMicros micros - since)) := by
  simp only [Part.activeEdge, held]
  rw [if_pos h]
  rfl

theorem Part.measuring_eq :
    p.measuring micros = { p.at (max micros (p.now / 27) * 27) with height := { p.height with
      accepted := some p.height.config.polarity, run := some { level := p.height.config.polarity, length := 4 }
      filterSince := max micros (p.now / 27), silence := some (max p.now (max micros (p.now / 27) * 27) + 540000)
      heldEdge := some (max micros (p.now / 27)) } } := by
  rw [Part.measuring, Part.acceptEdge_eq]
  rfl

theorem Part.firstLevel_taken {first : FirstLevel} (none : p.height.accepted = none)
    (may : p.height.mayAccept (p.edgeMicros first.micros) = true) :
    p.firstLevel first = p.acceptLevel first.level (p.edgeMicros first.micros) := by
  simp only [Part.firstLevel, none, may]
  rfl

theorem Part.firstLevel_not {first : FirstLevel}
    (h : ¬ (p.height.accepted = none ∧ p.height.mayAccept (p.edgeMicros first.micros) = true)) :
    p.firstLevel first = p := by
  simp only [Part.firstLevel]
  rw [if_neg]
  rwa [Bool.and_eq_true, Option.isNone_iff_eq_none]

end

/-- The part at a silence, its edge let go and its timer restarted. -/
def Part.silenced (due : Nat) (p : Part) : Part :=
  { p.at due with height := { p.height with heldEdge := none, silence := some (max p.now due + 540000) } }

/-- A silence is a NO_SIGNAL reading of a monitor whose edge is let go. -/
theorem exec_silence_taken {s : State} {due : Nat} (hr : s.power.inReset = false) (silence : s.height.silence = some due) :
    exec .silenceExpiry s = .next { s with toPart := (s.toPart.silenced due).takeInvalid noSignalReading } := by
  rw [exec_silenceExpiry, State.act_apply _ _ hr]
  simp only [Part.silenceExpires, silence]
  rw [Part.takeReading_invalid (by decide)]
  rfl

/-- Settles O52: no reading but NO_SIGNAL comes of these events. -/
theorem heightOtherEvents : Obligations.HeightOtherEvents := by
  unfold Obligations.HeightOtherEvents
  refine ⟨fun s hr => ⟨fun micros => ⟨?untaken, ?unheld, ?held⟩, fun first => ⟨?first, ?notFirst⟩, ?unarmed,
    fun due silence => ⟨?few, ?faulted, ?third⟩⟩,
    fun h level => ⟨?four, fun accepted run n few => Height.spike_leaves_no_trace level n h accepted run few⟩⟩
  case untaken =>
    intro untaken
    rw [exec_hgtInactiveEdge]
    refine State.act_same (Part.inactiveEdge_not fun edge => untaken ?_)
    rw [Height.edgeTo_iff, Bool.not_not] at edge
    exact edge
  case unheld =>
    intro taken held
    rw [exec_hgtInactiveEdge, State.act_apply _ _ hr,
      Part.inactiveEdge_unheld ((Height.edgeTo_iff _ _ _).2 (by rw [Bool.not_not]; exact taken)) held, Part.acceptEdge_eq]
    rfl
  case held =>
    intro since taken held
    rw [exec_hgtInactiveEdge, State.act_apply _ _ hr,
      Part.inactiveEdge_held ((Height.edgeTo_iff _ _ _).2 (by rw [Bool.not_not]; exact taken)) held, Part.acceptEdge_eq]
    rfl
  case first =>
    rintro ⟨run, none, gap⟩
    rw [exec_hgtFirstLevelAccepted, State.act_apply _ _ hr,
      Part.firstLevel_taken none ((Height.mayAccept_iff _ _).2 ⟨run, gap⟩), Part.acceptLevel, Height.fourSamples_spec]
    rfl
  case notFirst =>
    intro untaken
    rw [exec_hgtFirstLevelAccepted]
    refine State.act_same (Part.firstLevel_not fun ⟨unlevelled, may⟩ => untaken ?_)
    obtain ⟨run, gap⟩ := (Height.mayAccept_iff _ _).1 may
    exact ⟨run, unlevelled, gap⟩
  case unarmed =>
    intro none
    rw [exec_silenceExpiry]
    exact State.act_same (by simp only [Part.silenceExpires, none])
  case few =>
    intro few
    rw [exec_silence_taken hr silence, Part.takeInvalid_few (p := s.toPart.silenced due) few]
    rfl
  case faulted =>
    intro third fault
    rw [exec_silence_taken hr silence, Part.takeInvalid_faulted (p := s.toPart.silenced due) third fault]
    rfl
  case third =>
    intro third untold
    rw [exec_silence_taken hr silence, Part.takeInvalid_third (p := s.toPart.silenced due) third untold]
    rfl
  case four => exact Height.fourSamples_spec level h.filterSince h

end Sys2Proof.Machine
end

section
/-! PROOF. The readings, the window, the mean and the band (R103 to R111): O51. -/

namespace Sys2Proof.Machine

/-! ### The band decision (R108) -/

/-- The element of an ordered list that none of it comes before is its first. -/
theorem head?_of_pairwise {α : Type} {r : α → α → Prop} {l : List α} {b : α} (ordered : l.Pairwise r) (mem : b ∈ l)
    (first : ∀ j ∈ l, ¬ r j b) : l.head? = some b := by
  cases l with
  | nil => cases mem
  | cons x xs =>
    obtain rfl | behind := List.mem_cons.1 mem
    · rfl
    · exact absurd (List.rel_of_pairwise_cons ordered behind) (first x List.mem_cons_self)

theorem getLast?_of_pairwise {α : Type} {r : α → α → Prop} {l : List α} {b : α} (ordered : l.Pairwise r) (mem : b ∈ l)
    (last : ∀ j ∈ l, ¬ r b j) : l.getLast? = some b := by
  rw [List.getLast?_eq_head?_reverse]
  exact head?_of_pairwise (r := fun i j => r j i) (List.pairwise_reverse.2 ordered) (List.mem_reverse.2 mem) fun j hj =>
    last j (List.mem_reverse.1 hj)

section
variable {c : HeightConfig} {k : Fin 4} {mean : Nat}

/-- Band `j` is above `k` and its upward threshold reached (R108). -/
abbrev HeightConfig.Up (c : HeightConfig) (mean : Nat) (k j : Fin 4) : Prop :=
  k < j ∧ j.val < c.bands ∧ c.boundary j.val + c.hysteresis ≤ mean

/-- Band `j` is below `k` and the mean under its downward threshold (R108). -/
abbrev HeightConfig.Down (c : HeightConfig) (mean : Nat) (k j : Fin 4) : Prop :=
  j < k ∧ j.val + 1 < c.bands ∧ mean + c.hysteresis < c.boundary (j.val + 1)

theorem HeightConfig.upward_none (h : ∀ j, ¬ c.Up mean k j) : c.upward k mean = none := by
  unfold HeightConfig.upward
  rw [List.getLast?_eq_none_iff, List.filter_eq_nil_iff]
  exact fun j _ up => h j (of_decide_eq_true up)

theorem HeightConfig.upward_some {b : Fin 4} (up : c.Up mean k b) (largest : ∀ j, c.Up mean k j → j ≤ b) :
    c.upward k mean = some b := by
  have above : ∀ k b : Fin 4, k < b → b ∈ ([1, 2, 3] : List (Fin 4)) := by decide
  have ordered : ([1, 2, 3] : List (Fin 4)).Pairwise (· < ·) := by decide
  unfold HeightConfig.upward
  refine getLast?_of_pairwise (ordered.filter _) (List.mem_filter.2 ⟨above k b up.1, decide_eq_true up⟩) fun j hj => ?_
  exact Fin.not_lt.2 (largest j (of_decide_eq_true (List.mem_filter.1 hj).2))

theorem HeightConfig.downward_none (h : ∀ j, ¬ c.Down mean k j) : c.downward k mean = none := by
  unfold HeightConfig.downward
  rw [List.head?_eq_none_iff, List.filter_eq_nil_iff]
  exact fun j _ down => h j (of_decide_eq_true down)

theorem HeightConfig.downward_some {b : Fin 4} (down : c.Down mean k b) (smallest : ∀ j, c.Down mean k j → b ≤ j) :
    c.downward k mean = some b := by
  have below : ∀ k b : Fin 4, b < k → b ∈ ([0, 1, 2] : List (Fin 4)) := by decide
  have ordered : ([0, 1, 2] : List (Fin 4)).Pairwise (· < ·) := by decide
  unfold HeightConfig.downward
  refine head?_of_pairwise (ordered.filter _) (List.mem_filter.2 ⟨below k b down.1, decide_eq_true down⟩) fun j hj => ?_
  exact Fin.not_lt.2 (smallest j (of_decide_eq_true (List.mem_filter.1 hj).2))

/-- The band that hysteresis decides is the one that R108 describes. -/
theorem HeightConfig.heldBand_eq {b : Fin 4}
    (h : c.Up mean k b ∧ (∀ j, c.Up mean k j → j ≤ b)
      ∨ (∀ j, ¬ c.Up mean k j) ∧ (c.Down mean k b ∧ (∀ j, c.Down mean k j → b ≤ j) ∨ (∀ j, ¬ c.Down mean k j) ∧ b = k)) :
    c.heldBand k mean = b := by
  unfold HeightConfig.heldBand
  obtain ⟨up, largest⟩ | ⟨unraised, ⟨down, smallest⟩ | ⟨unlowered, rfl⟩⟩ := h
  · rw [HeightConfig.upward_some up largest]
  · rw [HeightConfig.upward_none unraised, HeightConfig.downward_some down smallest]
    rfl
  · rw [HeightConfig.upward_none unraised, HeightConfig.downward_none unlowered]
    rfl

theorem Height.bandFor_fresh {h : Height} (untracked : h.state ≠ .tracking ∨ h.band = none) :
    h.bandFor mean = h.config.freshBand mean := by
  unfold Height.bandFor
  split
  · next k state band =>
    obtain e | e := untracked
    · exact absurd state e
    · exact nomatch band.symm.trans e
  · rfl

theorem Height.bandFor_held {h : Height} (tracking : h.state = .tracking) (band : h.band = some k) :
    h.bandFor mean = h.config.heldBand k mean := by
  simp only [Height.bandFor, tracking, band]

end

section
variable {p : Part} {b : Fin 4} {mean : Nat}

theorem Part.decideBand_same (h : p.height.band = some b) : p.decideBand b mean = p := by
  rw [Part.decideBand, if_pos (.inl h), Part.setBand_same h]

theorem Part.decideBand_manual (manual : p.height.config.auto = false) :
    p.decideBand b mean = p.setBand b mean := by
  rw [Part.decideBand, if_pos (.inr manual)]

theorem Part.decideBand_auto (moved : p.height.band ≠ some b) (auto : p.height.config.auto = true) :
    p.decideBand b mean = (p.setBand b mean).requestSet p.height.config.map[b] := by
  rw [Part.decideBand, if_neg]
  rintro (same | manual)
  · exact moved same
  · exact nomatch auto.symm.trans manual

end

/-- A set request to an IDLE loader without a standby table, written out (R110, R112). -/
theorem State.requestSet_idle {w : State} {m : Fin 8} (idle : w.loader.state = .idle) (standby : w.loader.standby = .empty) :
    (w.loader.activeSet = some m → { w with toPart := w.toPart.requestSet m } = w)
      ∧ (w.loader.activeSet ≠ some m → w.loader.damaged[m] = false → w.store.sessionOn m = false →
        (w.store.holder = .nobody → w.store.line = [] →
          { w with toPart := w.toPart.requestSet m } = { w with
            store := { w.store with holder := .loader }
            loader := { w.loader with state := .loading m w.now false, standby := .loading m } })
          ∧ (w.store.holder ≠ .nobody →
            { w with toPart := w.toPart.requestSet m } = { w with
              store := { w.store with line := w.store.line ++ [FlashUser.loader] }
              loader := { w.loader with state := .waitingStore m } })) := by
  refine ⟨fun active => ?_, fun inactive sound apart => ?_⟩
  · rw [Part.requestSet_active active, Part.dropLoad_nothing idle standby]
  · rw [Part.requestSet_asks inactive (by rw [idle]; nofun) sound apart, Part.dropLoad_nothing idle standby]
    refine ⟨fun nobody line => ?_, fun taken => ?_⟩
    · rw [Part.askLoad_free nobody line]
      rfl
    · rw [Part.askLoad_busy (.inl taken)]

/-! ### Readings (R103 to R105) -/

section
variable {active period : Nat}

theorem dutyOf_signal (h : 0 < period) : dutyOf active period = 1000 * active / period := by
  rw [dutyOf, if_neg (by omega)]

/-- The reading of a period that is not 0, as R103 and R104 give it. -/
theorem readingOf_signal (h : 0 < period) :
    readingOf active period = { duty := 1000 * active / period, period := period, verdict :=
      if (1000 ≤ period ∧ period ≤ 10000) ∧ 50 ≤ 1000 * active / period ∧ 1000 * active / period ≤ 950 then .valid
      else if 1000 ≤ period ∧ period ≤ 10000 then .dutyRange else .periodRange } := by
  simp only [readingOf, dutyOf_signal h, Reading.mk.injEq, true_and]
  generalize 1000 * active / period = duty
  unfold verdictOf
  split
  · rw [if_neg (by omega), if_neg (by omega)]
  · split
    · rw [if_neg (by omega), if_pos (by omega)]
    · rw [if_pos (by omega)]

end

theorem joinWindow_eq {window : List Nat} (duty : Nat) (h : window.length ≤ 8) :
    joinWindow window duty = (if window.length = 8 then window.drop 1 else window) ++ [duty] := by
  unfold joinWindow
  congr 1
  split
  · rw [if_pos (by omega)]
  · rw [if_neg (by omega)]

section
variable {p : Part} {r : Reading}

theorem Part.takeValid_filling (h : p.height.window.length < 7) :
    p.takeValid r = { p with height := { p.height with
      lastReading := some r, invalid := 0, window := joinWindow p.height.window r.duty } } := by
  have length := joinWindow_length p.height.window r.duty (by omega)
  simp only [Part.takeValid]
  rw [if_neg (by omega)]

/-- A full window forms a mean, of which the band is decided. -/
theorem Part.takeValid_full {w : List Nat} (joined : joinWindow p.height.window r.duty = w) (full : w.length = 8) :
    p.takeValid r = Part.decideBand (p.height.bandFor (w.sum / 8)) (w.sum / 8) { p with height := { p.height with
      lastReading := some r, invalid := 0, window := w, lastMean := some (w.sum / 8), state := .tracking } } := by
  simp only [Part.takeValid, joined]
  rw [if_pos full]

end

/-! ### The band of a full window -/

/-- The decision of band `b` on a machine, case by case as the statement spells it (R108 to R110). -/
theorem State.decideBand_cases {v : State} {b : Fin 4} {mean : Nat} {P : State → Prop}
    (h : P { v with toPart := v.toPart.decideBand b mean }) :
    let m := v.height.config.map[b]
    let w := ({ v with height := { v.height with band := some b } } : State).raised .bandChange
      ([(v.height.band.map fun k : Fin 4 => BitVec.ofNat 8 k.val).getD 0xFF, BitVec.ofNat 8 b.val] ++ le16 mean)
    (v.height.band = some b → P { v with height := { v.height with band := some b } })
      ∧ (v.height.band ≠ some b → v.height.config.auto = false → P w)
      ∧ (v.height.band ≠ some b → v.height.config.auto = true → ∃ z : State, w.SetRequested m z ∧ P z)
      ∧ (v.height.band ≠ some b → v.height.config.auto = true → v.loader.state = .idle → v.loader.standby = .empty →
        (v.loader.activeSet = some m → P w)
          ∧ (v.loader.activeSet ≠ some m → v.loader.damaged[m] = false → v.store.sessionOn m = false →
            (v.store.holder = .nobody → v.store.line = [] →
              P { w with
                store := { v.store with holder := .loader }
                loader := { v.loader with state := .loading m v.now false, standby := .loading m } })
              ∧ (v.store.holder ≠ .nobody →
                P { w with
                  store := { v.store with line := v.store.line ++ [FlashUser.loader] }
                  loader := { v.loader with state := .waitingStore m } }))) := by
  intro m w
  have asked : v.height.band ≠ some b → v.height.config.auto = true → P { w with toPart := w.toPart.requestSet m } := by
    intro moved auto
    rw [Part.decideBand_auto moved auto, Part.setBand_moved moved] at h
    exact h
  refine ⟨fun same => ?_, fun moved manual => ?_, fun moved auto => ⟨_, Part.requestSet_requested m w, asked moved auto⟩,
    fun moved auto idle standby => ?_⟩
  · rw [Part.decideBand_same same] at h
    rw [← same]
    exact h
  · rw [Part.decideBand_manual manual, Part.setBand_moved moved] at h
    exact h
  · have effect := asked moved auto
    obtain ⟨active, inactive⟩ := State.requestSet_idle (w := w) (m := m) idle standby
    refine ⟨fun e => ?_, fun e sound apart => ⟨fun nobody line => ?_, fun taken => ?_⟩⟩
    · rw [active e] at effect
      exact effect
    · rw [(inactive e sound apart).1 nobody line] at effect
      exact effect
    · rw [(inactive e sound apart).2 taken] at effect
      exact effect

theorem exec_activeEdge_reads {s : State} {micros since : Nat} (hr : s.power.inReset = false)
    (edge : s.height.edgeTo s.height.config.polarity (s.edgeMicros micros) = true) (held : s.height.heldEdge = some since) :
    exec (.hgtActiveEdge micros) s = .next { s with
      toPart := (s.toPart.measuring micros).takeReading (readingOf s.height.activeTime (s.edgeMicros micros - since)) } := by
  rw [exec_hgtActiveEdge, State.act_apply _ _ hr, Part.activeEdge_held edge held]

/-- Settles O51: an accepted edge that closes a period is a reading, valid or not. -/
theorem heightEdges : Obligations.HeightEdges := by
  unfold Obligations.HeightEdges
  intro s micros hr h t u taken g
  have edge : taken → s.height.edgeTo s.height.config.polarity (s.edgeMicros micros) = true :=
    (Height.edgeTo_iff _ _ _).2
  have measuring : s.toPart.measuring micros = ({ u with height := g } : State).toPart := Part.measuring_eq
  refine ⟨fun untaken => ?_, fun yes unheld => ?_, fun since yes held => ?_⟩
  · rw [exec_hgtActiveEdge]
    exact State.act_same (Part.activeEdge_not fun e => untaken ((Height.edgeTo_iff _ _ _).1 e))
  · rw [exec_hgtActiveEdge, State.act_apply _ _ hr, Part.activeEdge_unheld (edge yes) unheld, measuring]
    rfl
  · intro period duty window mean inPeriod valid reading up down fresh heldTo
    have signal : 0 < period → readingOf s.height.activeTime period = reading := readingOf_signal
    have reads : 0 < period → exec (.hgtActiveEdge micros) s
        = .next { u with toPart := ({ u with height := g } : State).toPart.takeReading reading } := by
      intro positive
      rw [← signal positive, exec_activeEdge_reads hr (edge yes) held, measuring]
      rfl
    refine ⟨fun ok short => ?_, fun b ok full band => ?_, fun positive bad => ?_⟩
    · have verdict : reading.verdict = .valid := if_pos ok
      have joined : joinWindow h.window duty = window := joinWindow_eq duty (by omega)
      rw [reads (by omega), Part.takeReading_valid verdict,
        Part.takeValid_filling (p := ({ u with height := g } : State).toPart) short, ← joined]
    · have verdict : reading.verdict = .valid := if_pos ok
      have joined : joinWindow h.window duty = window := joinWindow_eq duty (by omega)
      have length := joinWindow_length h.window duty (by omega)
      have decided : g.bandFor mean = b := by
        obtain ⟨untracked, b_eq⟩ | ⟨tracking, k, known, b_eq⟩ := band
        · rw [Height.bandFor_fresh (h := g) untracked]
          exact Fin.ext ((HeightConfig.freshBand_val _ _).trans b_eq.symm)
        · rw [Height.bandFor_held (h := g) tracking known]
          exact HeightConfig.heldBand_eq b_eq
      have took := Part.takeValid_full (p := ({ u with height := g } : State).toPart) (r := reading) joined
        (by rw [← joined]; omega)
      rw [← Part.takeReading_valid verdict, show Height.bandFor _ _ = _ from decided] at took
      have effect := reads (by omega)
      rw [took] at effect
      exact State.decideBand_cases (v := { u with height := { g with
        lastReading := some reading, invalid := 0, window := window, lastMean := some mean, state := .tracking } })
        (P := fun z => exec (.hgtActiveEdge micros) s = .next z) effect
    · have verdict : reading.verdict = if inPeriod then .dutyRange else .periodRange := if_neg bad
      have invalid : reading.verdict ≠ .valid := by
        rw [verdict]
        split <;> exact nofun
      have code : reading.verdict.code = if inPeriod then 0x02 else 0x01 := by
        rw [verdict]
        split <;> rfl
      rw [reads positive, Part.takeReading_invalid invalid]
      refine ⟨fun few => ?_, fun third untold => ?_, fun third fault => ?_⟩
      · rw [Part.takeInvalid_few (p := ({ u with height := g } : State).toPart) few]
      · rw [Part.takeInvalid_third (p := ({ u with height := g } : State).toPart) third untold, code]
        rfl
      · rw [Part.takeInvalid_faulted (p := ({ u with height := g } : State).toPart) third fault]

end Sys2Proof.Machine
end

section
/-! PROOF. CAL_WE and the aborts of its fall (R133, R134): O55. -/

namespace Sys2Proof.Machine

theorem exec_calWeSample (level : Bool) (s : State) : exec (.calWeSample level) s = s.act (Part.takeCalWe level) := rfl

theorem exec_calWeChange (level : Bool) (s : State) :
    exec (.calWeChange level) s = s.act fun p =>
      if p.store.calSampled = some level ∧ level ≠ p.store.calDebounced then p.takeCalWe level else p := rfl

section
variable {p : Part} {level : Bool}

theorem Part.takeCalWe_single (h : ¬ (p.store.calSampled = some level ∧ level ≠ p.store.calDebounced)) :
    p.takeCalWe level = { p with store := { p.store with calSampled := some level } } := by
  simp only [Part.takeCalWe]
  rw [if_neg h]

theorem Part.takeCalWe_rises (h : p.store.calSampled = some true ∧ true ≠ p.store.calDebounced) :
    p.takeCalWe true = { p with store := { p.store with calSampled := some true, calDebounced := true } } := by
  simp only [Part.takeCalWe]
  rw [if_pos h]
  rfl

/-- The part with CAL_WE debounced low, before its fall aborts a session. -/
def Part.calFallen (p : Part) : Part :=
  { p with store := { p.store with calSampled := some false, calDebounced := false } }

theorem Part.takeCalWe_falls (h : p.store.calSampled = some false ∧ false ≠ p.store.calDebounced) :
    p.takeCalWe false = p.calFallen.abortSession .calWe := by
  simp only [Part.takeCalWe]
  rw [if_pos h]
  rfl

end

/-- The sample that falls is the change that falls (R134; log 4). -/
theorem exec_calWe_falls {s : State} {c : Instr} (hr : s.power.inReset = false)
    (h : s.store.calSampled = some false ∧ false ≠ s.store.calDebounced)
    (which : c = .calWeSample false ∨ c = .calWeChange false) :
    exec c s = .next { s with toPart := s.toPart.calFallen.abortSession .calWe } := by
  obtain rfl | rfl := which
  · rw [exec_calWeSample, State.act_apply _ _ hr, Part.takeCalWe_falls h]
  · rw [exec_calWeChange, State.act_apply _ _ hr]
    simp only [if_pos h, Part.takeCalWe_falls h]

/-- Settles O55: a repeated level is debounced, and its fall aborts the open session by the phase of its step. -/
theorem calWe : Obligations.CalWe := by
  unfold Obligations.CalWe
  intro s level hr repeated changed
  refine ⟨fun single => ⟨?_, ?_⟩, fun yes quiet => ?_, fun x yes low session none c which => ?_,
    fun x kind yes low session c which => ⟨fun pending => ?_, fun due running => ?_⟩⟩
  · rw [exec_calWeSample, State.act_apply _ _ hr, Part.takeCalWe_single single]
  · rw [exec_calWeChange]
    exact State.act_same (if_neg single)
  · have same : exec (.calWeChange level) s = exec (.calWeSample level) s := by
      rw [exec_calWeChange, exec_calWeSample, State.act_apply _ _ hr, State.act_apply _ _ hr]
      exact congrArg (fun q => Host.Outcome.next { s with toPart := q }) (if_pos yes)
    rw [same, and_self, exec_calWeSample, State.act_apply _ _ hr]
    cases level with
    | true => rw [Part.takeCalWe_rises yes]
    | false =>
      have closed : s.store.session = Option.none := quiet.resolve_left nofun
      rw [Part.takeCalWe_falls yes, Part.abortSession_closed (p := s.toPart.calFallen) _ closed]
      rfl
  · subst low
    have kept : s.toPart.calFallen.store.withdrawStep = s.toPart.calFallen.store :=
      Store.withdrawStep_same fun j e => nomatch none.symm.trans e
    rw [exec_calWe_falls hr yes which, Part.abortSession_quiet (p := s.toPart.calFallen) _ session
      (by simp only [Store.stepRunning, Part.calFallen, none]), kept]
    rfl
  · subst low
    rw [exec_calWe_falls hr yes which, Part.abortSession_quiet (p := s.toPart.calFallen) _ session
      (by simp only [Store.stepRunning, Part.calFallen, pending]),
      Store.withdrawStep_pending (t := s.toPart.calFallen.store) pending]
    rfl
  · subst low
    have effect := exec_calWe_falls hr yes which
    rw [Part.abortSession_running (p := s.toPart.calFallen) _ session running] at effect
    refine ⟨_, ?_, ?_, effect⟩
    · rintro ⟨k, row, rfl⟩
      rw [Store.rowRunning_of_row (t := s.toPart.calFallen.store) running, if_pos rfl]
      rfl
    · intro other
      rw [Store.rowRunning_of_other (t := s.toPart.calFallen.store) running other, if_neg (by decide)]

end Sys2Proof.Machine
end

section
/-! PROOF. A load from its start to its end, and the scan after a reset (R112, R113, R115, R124): O53. -/

namespace Sys2Proof.Machine

theorem exec_loadStart (s : State) : exec .loadStart s = s.act Part.loadStarts := rfl

theorem exec_loadMarksRead (s : State) : exec .loadMarksRead s = s.act Part.loadMarksRead := rfl

theorem exec_loadEnd (s : State) : exec .loadEnd s = s.act Part.loadEnds := rfl

theorem exec_scanEnd (s : State) : exec .scanEnd s = s.act Part.scanEnds := rfl

/-! ### What a load reads (R112) -/

theorem streamBase_eq (k : Fin 8) (b : Nat) : streamBase k b = 24576 * k.val + 1024 + b := by
  unfold streamBase rowBase setBase
  omega

theorem recordsFromFlash_eq (flash : Memory) (k : Fin 8) :
    recordsFromFlash flash k = (List.range 560).map fun t =>
      TileRecord.ofBytes ((List.range 40).map fun b => Memory.read 0xFF flash (24576 * k.val + 1024 + 40 * t + b)) := by
  simp only [recordsFromFlash, recordBytes, Memory.readAll, streamBase_eq]
  rfl

theorem sumFromFlash_eq (flash : Memory) (k : Fin 8) :
    sumFromFlash flash k
      = byteSum ((List.range 22400).map fun b => Memory.read 0xFF flash (24576 * k.val + 1024 + b)) := by
  simp only [sumFromFlash, Memory.readAll, streamBase_eq, Nat.add_zero]
  rfl

theorem firstIllFormed_none {rs : List TileRecord} (h : ∀ r ∈ rs, r.wellFormed = true) : firstIllFormed rs = none := by
  rw [firstIllFormed, List.findIdx?_eq_none_iff]
  intro r hr
  rw [h r hr]
  rfl

/-- The first ill-formed record, from the records before it. -/
theorem firstIllFormed_some {rs : List TileRecord} {t : Nat} (bad : ∃ r, rs[t]? = some r ∧ r.wellFormed = false)
    (before : ∀ j r, j < t → rs[j]? = some r → r.wellFormed = true) : firstIllFormed rs = some t := by
  obtain ⟨r, found, ill⟩ := bad
  obtain ⟨inside, rfl⟩ := List.getElem?_eq_some_iff.1 found
  rw [firstIllFormed, List.findIdx?_eq_some_iff_getElem]
  refine ⟨inside, by rw [ill]; rfl, fun j earlier => ?_⟩
  rw [before j _ earlier (List.getElem?_eq_getElem (by omega))]
  decide

/-! ### The loader's steps -/

section
variable {p : Part} {k : Fin 8} {start : Nat}

theorem Part.loadStarts_head {rest : List FlashUser} (waiting : p.loader.state = .waitingStore k)
    (nobody : p.store.holder = .nobody) (line : p.store.line = .loader :: rest) :
    p.loadStarts = { p with store := { p.store with line := rest } }.beginLoad k := by
  simp only [Part.loadStarts, waiting, nobody, line]

theorem Part.loadStarts_taken (taken : p.store.holder ≠ .nobody) : p.loadStarts = p := by
  unfold Part.loadStarts
  split
  · next nobody _ => exact absurd nobody taken
  · rfl

/-- A failed load of a loader that holds the flash. -/
theorem Part.failLoad_eq (holder : p.store.holder = .loader) :
    p.failLoad = { p with
      store := { p.store with holder := .nobody }, loader := { p.loader with state := .idle, standby := .empty } } := by
  simp only [Part.failLoad, Store.releaseLoader, if_pos holder]
  rfl

theorem Part.loadMarksRead_complete (loading : p.loader.state = .loading k start false)
    (complete : (entryFromFlash p.store.flash k).state = .complete) :
    p.loadMarksRead = { p.at (start + 5400) with loader := { p.loader with state := .loading k start true } } := by
  simp only [Part.loadMarksRead, loading]
  exact if_pos complete

theorem Part.loadMarksRead_fails (loading : p.loader.state = .loading k start false)
    (incomplete : (entryFromFlash p.store.flash k).state ≠ .complete) :
    p.loadMarksRead = (p.at (start + 5400)).failLoad.setUnusable k 1 0 none := by
  simp only [Part.loadMarksRead, loading]
  exact if_neg incomplete

theorem Part.loadEnds_staged (loading : p.loader.state = .loading k start true) (holder : p.store.holder = .loader)
    (formed : firstIllFormed (recordsFromFlash p.store.flash k) = none)
    (sum : (entryFromFlash p.store.flash k).sum = some (sumFromFlash p.store.flash k)) :
    p.loadEnds = { p.at (start + 162000) with
      store := { p.store with holder := .nobody }
      loader := { p.loader with state := .staged k, standby := .holding k (recordsFromFlash p.store.flash k) } } := by
  have released : p.store.releaseLoader = { p.store with holder := .nobody } := if_pos holder
  simp only [Part.loadEnds, Part.at, loading, formed, released]
  exact if_pos sum

theorem Part.loadEnds_sum (loading : p.loader.state = .loading k start true)
    (formed : firstIllFormed (recordsFromFlash p.store.flash k) = none)
    (sum : (entryFromFlash p.store.flash k).sum ≠ some (sumFromFlash p.store.flash k)) :
    p.loadEnds = (p.at (start + 162000)).loadDamaged k 2 none := by
  simp only [Part.loadEnds, Part.at, loading, formed]
  exact if_neg sum

theorem Part.loadEnds_form {t : Nat} (loading : p.loader.state = .loading k start true)
    (ill : firstIllFormed (recordsFromFlash p.store.flash k) = some t) :
    p.loadEnds = (p.at (start + 162000)).loadDamaged k 1 (some t) := by
  simp only [Part.loadEnds, Part.at, loading, ill]
  rfl

/-- A load failed on form or sum, as its set is marked and told. -/
theorem Part.loadDamaged_eq (cause : Byte) (index : Option Nat) (holder : p.store.holder = .loader) :
    p.loadDamaged k cause index = Part.setUnusable k 2 cause index { p with
      store := { p.store with holder := .nobody }
      loader := { p.loader with state := .idle, standby := .empty, damaged := p.loader.damaged.set k true } } := by
  simp only [Part.loadDamaged, Part.failLoad_eq holder]
  rfl

end

/-- SET_UNUSABLE, with NO_CALIBRATION behind it when no set is active (R113). -/
theorem State.setUnusable_told (k : Fin 8) (reason cause : Byte) (index : Option Nat) (t : State) :
    ({ t with toPart := t.toPart.setUnusable k reason cause index } : State)
      = let v := t.raised .setUnusable (BitVec.ofNat 8 k.val :: reason :: cause :: le16OrNone index)
        if t.loader.activeSet = none then v.raised .noCalibration [BitVec.ofNat 8 k.val] else v := by
  have kept : (t.toPart.raise .setUnusable ([byte k.val, reason, cause] ++ le16OrNone index)).loader.activeSet
      = t.loader.activeSet := rfl
  simp only [Part.setUnusable, kept]
  cases t.loader.activeSet <;> rfl

/-! ### The scan (R115, R124) -/

section
variable {p : Part} {due : Nat}

/-- The part with the directory built from flash and the flash free. -/
def Part.scanned (due : Nat) (p : Part) : Part :=
  { p.at due with store := { p.store with
    holder := .nobody, directory := Vector.ofFn fun k => entryFromFlash p.store.flash k } }

theorem Part.scanEnds_eq (scan : p.store.holder = .scan due) : p.scanEnds = (p.scanned due).startUpRequest := by
  simp only [Part.scanEnds, scan]
  rfl

theorem Part.scanned_setState (k : Fin 8) :
    (p.scanned due).store.setState k = (entryFromFlash p.store.flash k).state := by
  show SetEntry.state (Vector.ofFn fun k => entryFromFlash p.store.flash k)[k] = _
  rw [Fin.getElem_fin, Vector.getElem_ofFn]

theorem Part.startUpRequest_none (h : ∀ k, p.store.setState k ≠ .complete) :
    p.startUpRequest = p.raise .noCalibration [0xFF] := by
  have none : p.store.firstComplete = none := find_none _ fun k => beq_eq_false_iff_ne.2 (h k)
  simp only [Part.startUpRequest, none]

theorem Part.startUpRequest_some {k : Fin 8} (complete : p.store.setState k = .complete)
    (lowest : ∀ j, j < k → p.store.setState j ≠ .complete) : p.startUpRequest = p.requestSet k := by
  have first : p.store.firstComplete = some k :=
    find_lowest _ k (beq_iff_eq.2 complete) fun j below => beq_eq_false_iff_ne.2 (lowest j below)
  simp only [Part.startUpRequest, first]

end

/-- Settles O53: a load step by step, and the start-up request behind the scan. -/
theorem loading : Obligations.Loading := by
  unfold Obligations.Loading
  refine ⟨fun s k hr => ?load, fun s unscanned => ?unscanned, fun s due hr scan => ?scan⟩
  case load =>
    intro failed told
    refine ⟨fun rest waiting nobody line => ?_, fun taken => ?_,
      fun start loading holder => ⟨fun complete => ?_, fun incomplete => ?_⟩, fun start loading holder => ?ends⟩
    · rw [exec_loadStart, State.act_apply _ _ hr, Part.loadStarts_head waiting nobody line]
      rfl
    · rw [exec_loadStart]
      exact State.act_same (Part.loadStarts_taken taken)
    · rw [exec_loadMarksRead, State.act_apply _ _ hr, Part.loadMarksRead_complete loading complete]
      rfl
    · rw [exec_loadMarksRead, State.act_apply _ _ hr, Part.loadMarksRead_fails loading incomplete,
        Part.failLoad_eq (p := s.at _) holder]
      exact congrArg Host.Outcome.next (State.setUnusable_told k 1 0 none (failed.atTick (start + 5400)))
    case ends =>
      intro records sum damaged
      have read : recordsFromFlash s.store.flash k = records := recordsFromFlash_eq _ _
      have summed : sumFromFlash s.store.flash k = sum := sumFromFlash_eq _ _
      rw [exec_loadEnd, State.act_apply _ _ hr]
      refine ⟨fun formed good => ?_, fun formed bad => ?_, fun t ill before => ?_⟩
      · rw [Part.loadEnds_staged loading holder (by rw [read]; exact firstIllFormed_none formed) (by rw [summed]; exact good),
          read]
        rfl
      · rw [Part.loadEnds_sum loading (by rw [read]; exact firstIllFormed_none formed) (by rw [summed]; exact bad),
          Part.loadDamaged_eq (p := s.at _) _ _ holder]
        exact congrArg Host.Outcome.next (State.setUnusable_told k 2 2 none damaged)
      · rw [Part.loadEnds_form loading (by rw [read]; exact firstIllFormed_some ill before),
          Part.loadDamaged_eq (p := s.at _) _ _ holder]
        exact congrArg Host.Outcome.next (State.setUnusable_told k 2 1 (some t) damaged)
  case unscanned =>
    rw [exec_scanEnd]
    refine State.act_same ?_
    unfold Part.scanEnds
    split
    · next due e => exact absurd e (unscanned due)
    · rfl
  case scan =>
    intro u
    rw [exec_scanEnd, State.act_apply _ _ hr, Part.scanEnds_eq scan]
    refine ⟨fun none => ?_, fun k complete lowest idle active sound closed line => ?_⟩
    · rw [Part.startUpRequest_none fun k => by rw [Part.scanned_setState]; exact none k]
      rfl
    · have inactive : (s.toPart.scanned due).loader.activeSet ≠ some k := by
        show s.loader.active.set? ≠ _
        rw [active]
        nofun
      rw [Part.startUpRequest_some (by rw [Part.scanned_setState]; exact complete)
          fun j below => by rw [Part.scanned_setState]; exact lowest j below,
        Part.requestSet_asks inactive (by show s.loader.state.set? ≠ _; rw [idle]; nofun) sound
          (by show Store.sessionOn _ k = false; simp only [Store.sessionOn, Part.scanned, closed]),
        Part.dropLoad_idle (p := s.toPart.scanned due) idle,
        Part.askLoad_free (p := { s.toPart.scanned due with loader := (s.toPart.scanned due).loader.cleared }) rfl line]
      rfl

end Sys2Proof.Machine
end

section
/-! PROOF. The steps of the store: their start, their ends, and the trailing step of an abort (R123 to R136): O54. -/

namespace Sys2Proof.Machine

theorem exec_storeStepStart (s : State) : exec .storeStepStart s = s.act Part.stepStarts := rfl

theorem exec_sectorEraseEnd (s : State) : exec .sectorEraseEnd s = s.act Part.eraseEnds := rfl

theorem exec_openMarkEnd (s : State) : exec .openMarkEnd s = s.act Part.openMarkEnds := rfl

theorem exec_rowProgramEnd (s : State) : exec .rowProgramEnd s = s.act Part.rowProgramEnds := rfl

theorem exec_completeMarkEnd (s : State) : exec .completeMarkEnd s = s.act Part.completeMarkEnds := rfl

theorem exec_lockMarkEnd (s : State) : exec .lockMarkEnd s = s.act Part.lockMarkEnds := rfl

theorem exec_retireMarkEnd (s : State) : exec .retireMarkEnd s = s.act Part.retireMarkEnds := rfl

/-! ### Where a program writes (R120, R123) -/

theorem programRow_eq (flash : Memory) (k : Fin 8) (row : Nat) (bytes : List Byte) :
    programRow flash k row bytes = Memory.writeAll 0xFF flash (24576 * k.val + 256 * row) bytes := rfl

theorem programRow_first (flash : Memory) (k : Fin 8) (bytes : List Byte) :
    programRow flash k 0 bytes = Memory.writeAll 0xFF flash (24576 * k.val) bytes := rfl

theorem AbortCause.code_eq (c : AbortCause) : c.code = if c = AbortCause.request then 0x01 else 0x02 := by cases c <;> rfl

/-! ### The end of a step, before what follows it -/

section
variable {p : Part} {due : Nat}

/-- The part at the end of a step: the flash released with its new contents, and the session's own marks moved on. -/
def Part.finished (due : Nat) (flash : Memory) (directory : Vector SetEntry 8) (staging : List Byte)
    (session : Option Session) (p : Part) : Part :=
  { p.at due with store := { p.store with
    flash := flash, directory := directory, step := none, holder := .nobody, staging := staging, session := session } }

theorem Part.afterStep_goes {go : Part → Part} (h : p.store.trailing = none) : p.afterStep go = go p := by
  simp only [Part.afterStep, h]

/-- The directory after the erase of a sector of set `k`: its first sector holds the mark rows. -/
def Store.erasedDirectory (q : Fin 48) (k : Fin 8) (t : Store) : Vector SetEntry 8 :=
  if q.val % 6 = 0 then update t.directory k fun _ => .blank else t.directory

theorem Part.eraseEnds_eq {q : Fin 48} {k : Fin 8} (step : p.store.step = some { kind := .erase q, phase := .running due })
    (set : q.val / 6 = k.val) :
    p.eraseEnds = (p.finished due (Memory.clear p.store.flash (4096 * q.val) 4096) (p.store.erasedDirectory q k)
      p.store.staging p.store.session).afterStep Part.afterErase := by
  obtain rfl : setOfSector q = k := Fin.ext set
  simp only [Part.eraseEnds, step, Store.erasedDirectory]
  split
  · rfl
  · rfl

theorem Part.openMarkEnds_eq {k : Fin 8} (step : p.store.step = some { kind := .openMark k, phase := .running due }) :
    p.openMarkEnds = (p.finished due (Memory.writeAll 0xFF p.store.flash (24576 * k.val) plainMarkRow)
      (update p.store.directory k fun e => { e with openMark := .set }) p.store.staging p.store.session).afterStep
      (Part.afterOpenMark k) := by
  simp only [Part.openMarkEnds, step, programRow_first]
  generalize plainMarkRow = bytes
  rfl

theorem Part.rowProgramEnds_eq {k : Fin 8} {row : Nat}
    (step : p.store.step = some { kind := .recordRow k row, phase := .running due }) :
    p.rowProgramEnds = (p.finished due
      (Memory.writeAll 0xFF p.store.flash (24576 * k.val + 256 * row) (paddedRow (p.store.staging.take 256)))
      p.store.directory (p.store.staging.drop 256)
      (p.store.session.map fun (x : Session) => { x with nextRow := x.nextRow + 1 })).afterStep Part.advance := by
  simp only [Part.rowProgramEnds, step, programRow_eq]
  rfl

theorem Part.completeMarkEnds_eq {k : Fin 8} {sum : Word}
    (step : p.store.step = some { kind := .completeMark k sum, phase := .running due }) :
    p.completeMarkEnds = (p.finished due (Memory.writeAll 0xFF p.store.flash (24576 * k.val + 256) (completeMarkRow sum))
      (update p.store.directory k fun e => { e with completeMark := .set, sum := some sum }) p.store.staging
      p.store.session).afterStep (Part.afterCompleteMark k) := by
  simp only [Part.completeMarkEnds, step, programRow_eq, Nat.mul_one]
  generalize completeMarkRow sum = bytes
  rfl

theorem Part.lockMarkEnds_eq {k : Fin 8} (step : p.store.step = some { kind := .lockMark k, phase := .running due }) :
    p.lockMarkEnds = (p.finished due (Memory.writeAll 0xFF p.store.flash (24576 * k.val + 512) plainMarkRow)
      (update p.store.directory k fun e => { e with lockMark := .set }) p.store.staging p.store.session).raise .storeDone
      [byte k.val, 3] := by
  simp only [Part.lockMarkEnds, step, programRow_eq, Nat.reduceMul]
  generalize plainMarkRow = bytes
  rfl

theorem Part.retireMarkEnds_eq {k : Fin 8} (step : p.store.step = some { kind := .retireMark k, phase := .running due }) :
    p.retireMarkEnds = (p.finished due (Memory.writeAll 0xFF p.store.flash (24576 * k.val + 768) plainMarkRow)
      (update p.store.directory k fun e => { e with retireMark := .set }) p.store.staging p.store.session).raise .storeDone
      [byte k.val, 4] := by
  simp only [Part.retireMarkEnds, step, programRow_eq, Nat.reduceMul]
  generalize plainMarkRow = bytes
  rfl

/-- A row of 256 bytes or more is written as it stands. -/
theorem paddedRow_full {bytes : List Byte} (h : 256 ≤ bytes.length) : paddedRow (bytes.take 256) = bytes.take 256 := by
  have length : (bytes.take 256).length = 256 := List.length_take_of_le h
  rw [paddedRow, length, Nat.sub_self, List.replicate_zero, List.append_nil]

theorem paddedRow_short {bytes : List Byte} (h : bytes.length ≤ 256) :
    paddedRow (bytes.take 256) = bytes ++ List.replicate (256 - bytes.length) 0xFF := by
  rw [List.take_of_length_le h]
  rfl

/-! ### What follows a step -/

section
variable {x : Session}

theorem Part.afterErase_next (session : p.store.session = some x) (phase : x.phase = .erasing) (more : x.eraseSector < 5) :
    p.afterErase
      = { p with store := { p.store with session := some { x with eraseSector := x.eraseSector + 1 } } }.issueStep
          (.erase (sectorOf x.set (x.eraseSector + 1))) := by
  simp only [Part.afterErase, session, phase, if_pos more]

theorem Part.afterErase_last (session : p.store.session = some x) (phase : x.phase = .erasing) (last : x.eraseSector = 5) :
    p.afterErase = p.issueStep (.openMark x.set) := by
  simp only [Part.afterErase, session, phase]
  rw [if_neg (by omega)]

theorem Part.advance_completes (session : p.store.session = some x) (phase : x.phase = .closing)
    (empty : p.store.staging = []) (step : p.store.step = none) :
    p.advance = p.issueStep (.completeMark x.set x.sum) := by
  simp only [Part.advance, step, session, phase, if_pos empty]

end

/-- With an abort trailing the step, STORE_ABORTED is all that follows it (R133). -/
theorem Part.afterStep_aborted {go : Part → Part} {x : Abort} (h : p.store.trailing = some x) :
    p.afterStep go = { p with store := { p.store with trailing := none } }.raise .storeAborted
      ([byte x.set.val, if x.cause = AbortCause.request then 0x01 else 0x02, (p.store.setState x.set).code] ++ le16 x.nextIndex) := by
  simp only [Part.afterStep, h, Part.raiseAborted, AbortCause.code_eq]
  rfl

/-! ### Events that cannot be (log 2) -/

theorem Part.stepStarts_pending {k : StepKind} {rest : List FlashUser}
    (step : p.store.step = some { kind := k, phase := .pending }) (nobody : p.store.holder = .nobody)
    (line : p.store.line = .store :: rest) :
    p.stepStarts = { p with store := { p.store with
      line := rest, holder := .store, step := some { kind := k, phase := .running (p.now + k.ticks) } } } := by
  simp only [Part.stepStarts, step, nobody, line]

theorem Part.stepStarts_taken (taken : p.store.holder ≠ .nobody) : p.stepStarts = p := by
  unfold Part.stepStarts
  split
  · next nobody _ => exact absurd nobody taken
  · rfl

end

/-- The end of a step that finds none running changes nothing (log 2). -/
theorem exec_stepEnd_idle {s : State} (idle : s.store.step = none) {c : Instr}
    (h : c ∈ [Instr.sectorEraseEnd, .openMarkEnd, .rowProgramEnd, .completeMarkEnd, .lockMarkEnd, .retireMarkEnd]) :
    exec c s = .next s := by
  simp only [List.mem_cons, List.not_mem_nil, or_false] at h
  obtain rfl | rfl | rfl | rfl | rfl | rfl := h
  · exact State.act_same (e := Part.eraseEnds) (by simp only [Part.eraseEnds, idle])
  · exact State.act_same (e := Part.openMarkEnds) (by simp only [Part.openMarkEnds, idle])
  · exact State.act_same (e := Part.rowProgramEnds) (by simp only [Part.rowProgramEnds, idle])
  · exact State.act_same (e := Part.completeMarkEnds) (by simp only [Part.completeMarkEnds, idle])
  · exact State.act_same (e := Part.lockMarkEnds) (by simp only [Part.lockMarkEnds, idle])
  · exact State.act_same (e := Part.retireMarkEnds) (by simp only [Part.retireMarkEnds, idle])

theorem sectorOf_val {k : Fin 8} {e : Nat} (h : e < 6) : (sectorOf k e).val = 6 * k.val + e := by
  simp only [sectorOf]
  omega

/-- Settles O54: each step's end, then what the session or the abort behind it calls for. -/
theorem storeStepEnds : Obligations.StoreStepEnds := by
  unfold Obligations.StoreStepEnds
  refine ⟨fun s k rest hr step nobody line => ?_, fun s taken => ?_, fun s idle c h => exec_stepEnd_idle idle h,
    fun s due hr untrailed line clear => ?goes, fun s due x hr trailing closed => ?aborted⟩
  · rw [exec_storeStepStart, State.act_apply _ _ hr, Part.stepStarts_pending step nobody line]
    cases k <;> rfl
  · rw [exec_storeStepStart]
    exact State.act_same (Part.stepStarts_taken taken)
  case goes =>
    intro u blank
    have goes : ∀ {flash directory staging session} (go : Part → Part),
        (s.toPart.finished due flash directory staging session).afterStep go
          = go (s.toPart.finished due flash directory staging session) := fun _ =>
      Part.afterStep_goes (p := s.toPart.finished due _ _ _ _) untrailed
    refine ⟨fun q k x step session phase set => ⟨fun more r next => ?_, fun last => ?_⟩, fun k x step session => ?_,
      fun k row x step session phase full short => ?_, fun k row x step session phase held => ?_, fun k sum step => ?_,
      fun k step => ?_, fun k step => ?_⟩
    · obtain rfl : r = sectorOf x.set (x.eraseSector + 1) := Fin.ext (by rw [next, sectorOf_val (by omega)]; omega)
      rw [exec_sectorEraseEnd, State.act_apply _ _ hr, Part.eraseEnds_eq step set, goes,
        Part.afterErase_next (p := s.toPart.finished due _ _ _ _) session phase more, Part.issueStep_now]
      · rfl
      · exact clear
      · rfl
      · exact line
    · rw [exec_sectorEraseEnd, State.act_apply _ _ hr, Part.eraseEnds_eq step set, goes,
        Part.afterErase_last (p := s.toPart.finished due _ _ _ _) session phase last,
        Part.issueStep_now (p := s.toPart.finished due _ _ _ _) clear rfl line]
      rfl
    · rw [exec_openMarkEnd, State.act_apply _ _ hr, Part.openMarkEnds_eq step, goes, session]
      generalize plainMarkRow = bytes
      rfl
    · have waits : Part.advance (s.toPart.finished due
          (Memory.writeAll 0xFF s.store.flash (24576 * k.val + 256 * row) (s.store.staging.take 256)) s.store.directory
          (s.store.staging.drop 256) (some { x with nextRow := x.nextRow + 1 })) = _ :=
        Part.advance_waits (x := { x with nextRow := x.nextRow + 1 }) rfl phase (by
          show (s.store.staging.drop 256).length < 256
          rw [List.length_drop]
          omega)
      rw [exec_rowProgramEnd, State.act_apply _ _ hr, Part.rowProgramEnds_eq step, goes, paddedRow_full full, session,
        Option.map_some, waits]
      rfl
    · have empty : s.store.staging.drop 256 = [] := List.drop_eq_nil_of_le (by omega)
      rw [exec_rowProgramEnd, State.act_apply _ _ hr, Part.rowProgramEnds_eq step, goes, paddedRow_short (by omega), session,
        Option.map_some, empty, held,
        Part.advance_completes (p := s.toPart.finished due _ _ _ _) (x := { x with nextRow := x.nextRow + 1 }) rfl phase rfl
          rfl,
        Part.issueStep_now (p := s.toPart.finished due _ _ _ _) clear rfl line]
      rfl
    · rw [exec_completeMarkEnd, State.act_apply _ _ hr, Part.completeMarkEnds_eq step, goes]
      generalize completeMarkRow sum = bytes
      rfl
    · rw [exec_lockMarkEnd, State.act_apply _ _ hr, Part.lockMarkEnds_eq step]
      generalize plainMarkRow = bytes
      rfl
    · rw [exec_retireMarkEnd, State.act_apply _ _ hr, Part.retireMarkEnds_eq step]
      generalize plainMarkRow = bytes
      rfl
  case aborted =>
    intro u blank aborted
    have told : ∀ {flash directory staging} (go : Part → Part),
        ({ s with toPart := (s.toPart.finished due flash directory staging s.store.session).afterStep go } : State)
          = aborted flash directory staging := by
      intro flash directory staging go
      rw [Part.afterStep_aborted (p := s.toPart.finished due flash directory staging s.store.session) trailing]
      rfl
    refine ⟨fun q k step set => ?_, fun k step => ?_, fun k row step short => ?_, fun k sum step => ?_⟩
    · rw [exec_sectorEraseEnd, State.act_apply _ _ hr, Part.eraseEnds_eq step set, told]
      rfl
    · rw [exec_openMarkEnd, State.act_apply _ _ hr, Part.openMarkEnds_eq step, told]
    · have empty : s.store.staging.drop 256 = [] := List.drop_eq_nil_of_le short
      have none : s.store.session.map (fun (x : Session) => { x with nextRow := x.nextRow + 1 }) = s.store.session := by
        rw [closed]
        rfl
      rw [exec_rowProgramEnd, State.act_apply _ _ hr, Part.rowProgramEnds_eq step, paddedRow_short short, empty, none, told]
    · rw [exec_completeMarkEnd, State.act_apply _ _ hr, Part.completeMarkEnds_eq step, told]

end Sys2Proof.Machine
end

section
/-! PROOF. Painting: counts, cost, tiles and seam statistics as functions of the pending runtime state (R65 to R67, R75,
R76), for O47. -/

namespace Sys2Proof.Machine

/-! ### The source that a painting leaves -/

/-- The source of a tile's pending state, by its painting (R66). -/
def Painting.source : Painting → TileSource
  | .body => .body
  | .voided => .voided
  | .sampled _ _ => .sampled
  | .blended _ _ => .blended
  | .held => .held
  | .filled => .filled

/-- The cost of a tile by its source (R76). -/
def TileSource.cost : TileSource → Nat
  | .sampled => 4096
  | .blended => 7680
  | .held => 1024
  | .filled | .body | .voided => 512

@[simp] theorem Painting.next_source (pt : Painting) (st : TileState) : (pt.next st).source = pt.source := by
  cases pt <;> rfl

theorem Painting.cost_source (pt : Painting) : pt.cost = pt.source.cost := by cases pt <;> rfl

section
variable {pts : List Painting} {tiles : List TileState}

/-- The pending states show the sources of the paintings. -/
theorem sources_next : ∀ {pts : List Painting} {tiles : List TileState}, pts.length ≤ tiles.length →
    (List.zipWith Painting.next pts tiles).map TileState.source = pts.map Painting.source
  | [], _, _ => rfl
  | _ :: _, [], h => absurd h (by simp)
  | pt :: pts, st :: tiles, h => by
    simp only [List.zipWith_cons_cons, List.map_cons, Painting.next_source, sources_next (Nat.le_of_succ_le_succ h)]

theorem countP_next (h : pts.length ≤ tiles.length) (c : TileSource) :
    (List.zipWith Painting.next pts tiles).countP (fun y => y.source == c) = pts.countP fun pt => pt.source == c := by
  have sources := congrArg (List.countP (· == c)) (sources_next h)
  rw [List.countP_map, List.countP_map] at sources
  exact sources

theorem Painting.isSampled_source (pt : Painting) : pt.isSampled = (pt.source == .sampled) := by cases pt <;> rfl

theorem Painting.isBlended_source (pt : Painting) : pt.isBlended = (pt.source == .blended) := by cases pt <;> rfl

theorem Painting.held_source (pt : Painting) : (pt == .held) = (pt.source == .held) := by cases pt <;> rfl

theorem Painting.filled_source (pt : Painting) : (pt == .filled) = (pt.source == .filled) := by cases pt <;> rfl

/-- The counts of a composite are those of its pending states (R78). -/
theorem countsOf_next (h : pts.length ≤ tiles.length) :
    countsOf pts =
      { sampled := (List.zipWith Painting.next pts tiles).countP fun y => y.source == .sampled
        blended := (List.zipWith Painting.next pts tiles).countP fun y => y.source == .blended
        held := (List.zipWith Painting.next pts tiles).countP fun y => y.source == .held
        filled := (List.zipWith Painting.next pts tiles).countP fun y => y.source == .filled } := by
  simp only [countP_next h, countsOf, List.count, funext Painting.isSampled_source, funext Painting.isBlended_source,
    Painting.held_source, Painting.filled_source]

/-- The cost of a composite follows the sources of its pending states (R76). -/
theorem totalCost_next (h : pts.length ≤ tiles.length) :
    totalCost pts = ((List.zipWith Painting.next pts tiles).map fun y => y.source.cost).sum := by
  have sources := congrArg (List.map TileSource.cost) (sources_next h)
  rw [List.map_map, List.map_map] at sources
  exact congrArg List.sum (sources.trans (List.map_congr_left fun pt _ => (Painting.cost_source pt).symm)).symm

end

section
variable (lat : Latched) (present : Vector Bool 4) (hasPrevious : Bool)

theorem paintings_length (table : TileTable) (tiles : List TileState) :
    (paintings lat present hasPrevious table tiles).length ≤ tiles.length := by
  unfold paintings
  split
  · rw [List.length_zipWith]
    exact Nat.min_le_right _ _
  · exact Nat.le_of_eq (List.length_map _)

end

/-! ### An EMPTY table (R18) -/

theorem countsOf_filled (n : Nat) : countsOf (List.replicate n .filled) = { sampled := 0, blended := 0, held := 0, filled := n } := by
  simp [countsOf, List.countP_replicate, List.count_replicate, Painting.isSampled, Painting.isBlended]

theorem totalCost_filled (n : Nat) : totalCost (List.replicate n .filled) = n * 512 := by
  simp [totalCost, Painting.cost]

theorem paintings_empty (lat : Latched) (present : Vector Bool 4) (hasPrevious : Bool) (tiles : List TileState) :
    paintings lat present hasPrevious .empty tiles = List.replicate tiles.length .filled := List.map_const' ..

/-! ### One tile (R65 to R67) -/

theorem usable_iff (lat : Latched) (present : Vector Bool 4) (c : Fin 4) (occ : BitVec 4) :
    usable lat present c occ = true
      ↔ present[c] = true ∧ ∀ g : Fin 4, lat.occlusion[g] = true → occ.getLsbD g.val = false := by
  simp [usable]

section
variable {lat : Latched} {present : Vector Bool 4} {hasPrevious : Bool} {r : TileRecord} {st : TileState}

theorem paintingOf_body (h : r.kind = 3) : paintingOf lat present hasPrevious r st = .body := by
  simp only [paintingOf, h]
  rfl

theorem paintingOf_voided (h : r.kind = 0) : paintingOf lat present hasPrevious r st = .voided := by
  simp only [paintingOf, h]
  rfl

theorem paintingOf_single (h : r.kind = 1) :
    paintingOf lat present hasPrevious r st
      = if usable lat present (cameraOf r.camA) r.occA then .sampled (cameraOf r.camA) false
        else heldOrFilled lat hasPrevious r st := by
  simp only [paintingOf, h]
  rfl

theorem paintingOf_seam (h : r.kind = 2) :
    paintingOf lat present hasPrevious r st
      = if usable lat present (cameraOf r.camA) r.occA && usable lat present (cameraOf r.camB) r.occB
        then .blended (cameraOf r.camA) (cameraOf r.camB)
        else if usable lat present (cameraOf r.camA) r.occA then .sampled (cameraOf r.camA) false
        else if usable lat present (cameraOf r.camB) r.occB then .sampled (cameraOf r.camB) true
        else heldOrFilled lat hasPrevious r st := by
  simp only [paintingOf, h]
  rfl

/-- Only a SEAM record's two cameras are blended. -/
theorem paintingOf_blended {a b : Fin 4} (h : paintingOf lat present hasPrevious r st = .blended a b) :
    r.kind.toNat = 2 ∧ a = cameraOf r.camA ∧ b = cameraOf r.camB := by
  have unblended : heldOrFilled lat hasPrevious r st ≠ .blended a b := by
    unfold heldOrFilled
    split <;> exact nofun
  simp only [paintingOf] at h
  split at h
  · cases h
  · cases h
  · split at h
    · cases h
    · exact absurd h unblended
  · next kind =>
    split at h
    · cases h
      exact ⟨kind, rfl, rfl⟩
    · split at h
      · cases h
      · split at h
        · cases h
        · exact absurd h unblended
  · cases h

theorem TileSource.holdable_iff (c : TileSource) :
    c.holdable = true ↔ c = .sampled ∨ c = .blended ∨ c = .held := by cases c <;> simp [TileSource.holdable]

theorem holdLimit_eq (lat : Latched) (r : TileRecord) :
    holdLimit lat r = if r.hold = 255 then lat.hold else r.hold.toNat := by
  have same : r.hold.toNat = 255 ↔ r.hold = 255 :=
    ⟨fun h => BitVec.eq_of_toNat_eq h, fun h => by rw [h]; rfl⟩
  simp only [holdLimit, same]

/-- A tile without a usable camera is held exactly when R67 lets it. -/
theorem heldOrFilled_eq :
    heldOrFilled lat hasPrevious r st
      = if hasPrevious = true ∧ (st.source = .sampled ∨ st.source = .blended ∨ st.source = .held)
          ∧ st.age + 1 ≤ (if r.hold = 255 then lat.hold else r.hold.toNat) then .held else .filled := by
  simp only [heldOrFilled, Bool.and_eq_true, decide_eq_true_eq, TileSource.holdable_iff, holdLimit_eq, and_assoc]

end

/-- Tile `n` of a picture. -/
theorem picture_tile {lat : Latched} {frames : Vector (List (List Byte)) 4} {previous : List TileImage} {k : Fin 8}
    {rs : List TileRecord} {pts : List Painting} {n : Nat} {r : TileRecord} {pt : Painting} (record : rs[n]? = some r)
    (painting : pts[n]? = some pt) :
    (picture lat frames previous (.holding k rs) pts)[n]? = some (tileImage lat frames previous n r pt) := by
  have pair : (rs.zip pts)[n]? = some (r, pt) := List.getElem?_zip_eq_some.2 ⟨record, painting⟩
  simp only [picture, List.getElem?_map, List.getElem?_zipIdx, pair, Option.map_some, Nat.zero_add]

/-! ### Seam statistics (R75) -/

/-- The mid-seam pixels of a tile. -/
def midSeamPixels (r : TileRecord) : List Nat :=
  (List.range 1024).filter fun p => 8 ≤ blendWeight r (p % 32) (p / 32) && blendWeight r (p % 32) (p / 32) ≤ 56

/-- The statistics of a zone with sums and count added. -/
def ZoneStats.plus (s : ZoneStats) (a b n : Nat) : ZoneStats :=
  { sumA := s.sumA + a, sumB := s.sumB + b, count := s.count + n }

theorem ZoneStats.plus_plus (s : ZoneStats) (a b n a' b' n' : Nat) :
    (s.plus a b n).plus a' b' n' = s.plus (a + a') (b + b') (n + n') := by
  simp only [ZoneStats.plus, Nat.add_assoc]

theorem ZoneStats.add_eq (s : ZoneStats) (aFirst : Bool) (ya yb : Nat) :
    s.add aFirst ya yb = s.plus (if aFirst then ya else yb) (if aFirst then yb else ya) 1 := by
  cases aFirst <;> rfl

/-- Pixels added one by one are their sums added at once. -/
theorem foldl_plus {α : Type} (keep : α → Bool) (a b : α → Nat) (l : List α) (s : ZoneStats) :
    l.foldl (fun s k => if keep k then s.plus (a k) (b k) 1 else s) s
      = s.plus ((l.filter keep).map a).sum ((l.filter keep).map b).sum (l.filter keep).length := by
  induction l generalizing s with
  | nil => rfl
  | cons k l ih =>
    rw [List.foldl_cons, ih]
    cases h : keep k with
    | true =>
      simp only [List.filter_cons, h, if_true, ZoneStats.plus_plus, List.map_cons, List.sum_cons, List.length_cons,
        Nat.add_comm 1]
    | false => simp [h]

theorem addTile_eq (frameA frameB : List (List Byte)) (r : TileRecord) (aFirst : Bool) (s : ZoneStats) :
    addTile frameA frameB r aFirst s
      = s.plus
          ((midSeamPixels r).map fun p => if aFirst then tileLuma frameA r.aCorners (p % 32) (p / 32)
            else tileLuma frameB r.bCorners (p % 32) (p / 32)).sum
          ((midSeamPixels r).map fun p => if aFirst then tileLuma frameB r.bCorners (p % 32) (p / 32)
            else tileLuma frameA r.aCorners (p % 32) (p / 32)).sum
          (midSeamPixels r).length := by
  unfold addTile midSeamPixels
  rw [← foldl_plus]
  simp only [ZoneStats.add_eq, midSeam, Bool.decide_and]

/-- The zone of two adjacent cameras is the one that they are the cameras of (R4, R5). -/
theorem zoneOf_contains (a b z : Fin 4) (h : adjacent a b = true) :
    ([a, b].contains z && [a, b].contains (z + 1)) = (zoneOf a b == z) := by
  revert a b z
  decide

theorem zoneOf_cases (a b z : Fin 4) (h : adjacent a b = true) (zone : zoneOf a b = z) :
    a = z ∧ b = z + 1 ∨ a = z + 1 ∧ b = z := by
  revert a b z
  decide

theorem succ_ne_self (z : Fin 4) : z + 1 ≠ z := by
  revert z
  decide

/-- A painted tile whose blend, if it is one, is of its record's two adjacent cameras. -/
def SeamSound (x : TileRecord × Painting) : Prop :=
  ∀ a b, x.2 = .blended a b → a = cameraOf x.1.camA ∧ b = cameraOf x.1.camB ∧ adjacent a b = true

/-- A blended tile of zone `z`. -/
def showsSeam (z : Fin 4) (y : TileRecord × TileSource) : Bool :=
  y.2 == .blended && [cameraOf y.1.camA, cameraOf y.1.camB].contains z
    && [cameraOf y.1.camA, cameraOf y.1.camB].contains (z + 1)

/-- The luma of camera `c` at pixel `p` of a blended tile, at the camera's own corners. -/
def seamLuma (frames : Vector (List (List Byte)) 4) (c : Fin 4) (r : TileRecord) (p : Nat) : Nat :=
  tileLuma frames[c] (if cameraOf r.camA = c then r.aCorners else r.bCorners) (p % 32) (p / 32)

/-- The statistics with one painted tile added. -/
def addBlended (frames : Vector (List (List Byte)) 4) (v : Vector ZoneStats 4) (x : TileRecord × Painting) :
    Vector ZoneStats 4 :=
  match x.2 with
  | .blended a b => update v (zoneOf a b) fun s => addTile frames[a] frames[b] x.1 (a == zoneOf a b) s
  | _ => v

theorem seamStats_holding (frames : Vector (List (List Byte)) 4) (k : Fin 8) (rs : List TileRecord) (pts : List Painting) :
    seamStats frames (.holding k rs) pts = (rs.zip pts).foldl (addBlended frames) #v[.zero, .zero, .zero, .zero] := rfl

section
variable {frames : Vector (List (List Byte)) 4}

theorem addBlended_other {v : Vector ZoneStats 4} {x : TileRecord × Painting} (h : x.2.source ≠ .blended) :
    addBlended frames v x = v := by
  unfold addBlended
  split
  · next e => exact absurd (by rw [e]; rfl) h
  · rfl

/-- A blended tile adds, to its own zone alone, the lumas of the zone's two cameras. -/
theorem addBlended_zone {v : Vector ZoneStats 4} {x : TileRecord × Painting} (sound : SeamSound x) (z : Fin 4) :
    (addBlended frames v x)[z]
      = if showsSeam z (x.1, x.2.source) then
          v[z].plus ((midSeamPixels x.1).map (seamLuma frames z x.1)).sum
            ((midSeamPixels x.1).map (seamLuma frames (z + 1) x.1)).sum (midSeamPixels x.1).length
        else v[z] := by
  obtain ⟨r, pt⟩ := x
  by_cases blended : pt.source = .blended
  · obtain ⟨a, b, rfl⟩ : ∃ a b, pt = .blended a b := by
      cases pt with
      | blended a b => exact ⟨a, b, rfl⟩
      | _ => cases blended
    obtain ⟨camA, camB, near⟩ := sound a b rfl
    have shows : showsSeam z (r, (Painting.blended a b).source) = (zoneOf a b == z) := by
      rw [← zoneOf_contains a b z near, camA, camB]
      rfl
    have luma : ∀ c, seamLuma frames c r
        = fun p => tileLuma frames[c] (if a = c then r.aCorners else r.bCorners) (p % 32) (p / 32) := by
      intro c
      funext p
      rw [seamLuma, camA]
    rw [shows]
    simp only [addBlended, luma]
    rw [update_get]
    by_cases zone : zoneOf a b = z
    · rw [if_pos zone, if_pos (beq_iff_eq.2 zone), zone, addTile_eq]
      obtain ⟨rfl, rfl⟩ | ⟨rfl, rfl⟩ := zoneOf_cases a b z near zone
      · simp only [beq_self_eq_true, if_true, (succ_ne_self a).symm, if_false]
      · simp only [beq_eq_false_iff_ne.2 (succ_ne_self b), Bool.false_eq_true, succ_ne_self, if_false, if_true]
    · rw [if_neg zone, if_neg (by rwa [beq_iff_eq])]
  · have none : showsSeam z (r, pt.source) = false := by
      simp only [showsSeam, beq_eq_false_iff_ne.2 blended, Bool.false_and]
    rw [addBlended_other blended, none, if_neg (by decide)]

/-- The records of the blended tiles of zone `z`. -/
def seamRecords (z : Fin 4) (l : List (TileRecord × TileSource)) : List TileRecord := (l.filter (showsSeam z)).map Prod.fst

theorem seamRecords_cons (z : Fin 4) (y : TileRecord × TileSource) (l : List (TileRecord × TileSource)) :
    seamRecords z (y :: l) = if showsSeam z y then y.1 :: seamRecords z l else seamRecords z l := by
  rw [seamRecords, List.filter_cons]
  split <;> rfl

/-- Tile by tile, the statistics of a zone are sums over its blended tiles. -/
theorem foldl_addBlended (z : Fin 4) (l : List (TileRecord × Painting)) (sound : ∀ x ∈ l, SeamSound x)
    (v : Vector ZoneStats 4) :
    (l.foldl (addBlended frames) v)[z]
      = v[z].plus
          ((seamRecords z (l.map (Prod.map id Painting.source))).map
            fun r => ((midSeamPixels r).map (seamLuma frames z r)).sum).sum
          ((seamRecords z (l.map (Prod.map id Painting.source))).map
            fun r => ((midSeamPixels r).map (seamLuma frames (z + 1) r)).sum).sum
          ((seamRecords z (l.map (Prod.map id Painting.source))).map fun r => (midSeamPixels r).length).sum := by
  induction l generalizing v with
  | nil => rfl
  | cons x l ih =>
    obtain ⟨first, rest⟩ := List.forall_mem_cons.1 sound
    rw [List.foldl_cons, ih rest, addBlended_zone first, List.map_cons, seamRecords_cons]
    have pair : Prod.map id Painting.source x = (x.1, x.2.source) := rfl
    rw [pair]
    split
    · rw [ZoneStats.plus_plus]
      rfl
    · rfl

end

/-- The cameras of a well-formed SEAM record are adjacent (R14). -/
theorem seam_adjacent {r : TileRecord} (kind : r.kind.toNat = 2) (h : r.wellFormed = true) :
    adjacent (cameraOf r.camA) (cameraOf r.camB) = true := by
  simp only [TileRecord.wellFormed, kind, TileRecord.seamOk, Bool.and_eq_true] at h
  obtain ⟨⟨⟨_, near⟩, _⟩, _⟩ := h
  exact near

/-- A property of the second components may be read through a map. -/
theorem seamRecords_map {β : Type} (z : Fin 4) (f : β → TileSource) (rs : List TileRecord) (l : List β) :
    seamRecords z ((rs.zip l).map (Prod.map id f)) = seamRecords z (rs.zip (l.map f)) := by
  rw [List.zip_map_right]

/-- The statistics of a zone of a loaded table of well-formed records, by the pending states of its tiles (R75). -/
theorem seamStats_zone {frames : Vector (List (List Byte)) 4} {lat : Latched} {present : Vector Bool 4}
    {hasPrevious : Bool} {k : Fin 8} {rs : List TileRecord} {tiles : List TileState}
    (formed : ∀ r ∈ rs, r.wellFormed = true) (z : Fin 4) :
    let pts := paintings lat present hasPrevious (.holding k rs) tiles
    let records := seamRecords z ((rs.zip (List.zipWith Painting.next pts tiles)).map (Prod.map id TileState.source))
    (seamStats frames (.holding k rs) pts)[z] =
      { sumA := (records.map fun r => ((midSeamPixels r).map (seamLuma frames z r)).sum).sum
        sumB := (records.map fun r => ((midSeamPixels r).map (seamLuma frames (z + 1) r)).sum).sum
        count := (records.map fun r => (midSeamPixels r).length).sum } := by
  intro pts records
  have sound : ∀ x ∈ rs.zip pts, SeamSound x := by
    intro x mem a b blended
    obtain ⟨n, found⟩ := List.mem_iff_getElem?.1 mem
    obtain ⟨record, painting⟩ := List.getElem?_zip_eq_some.1 found
    obtain ⟨r, st, record', _, painted⟩ := List.getElem?_zipWith_eq_some.1 painting
    obtain rfl : x.1 = r := Option.some.inj (record.symm.trans record')
    obtain ⟨kind, camA, camB⟩ := paintingOf_blended (painted.trans blended)
    refine ⟨camA, camB, ?_⟩
    rw [camA, camB]
    exact seam_adjacent kind (formed _ (List.mem_of_getElem? record))
  have same : records = seamRecords z ((rs.zip pts).map (Prod.map id Painting.source)) := by
    show seamRecords z _ = _
    rw [seamRecords_map, seamRecords_map, sources_next (paintings_length lat present hasPrevious _ tiles)]
  have zero : (#v[ZoneStats.zero, .zero, .zero, .zero])[z] = .zero := by
    match z with | 0 | 1 | 2 | 3 => rfl
  rw [seamStats_holding, foldl_addBlended z _ sound, same, zero]
  simp only [ZoneStats.plus, ZoneStats.zero, Nat.zero_add]

end Sys2Proof.Machine
end

section
/-! PROOF. What a composition start selects, paints and counts (R24, R61 to R67, R75, R76), for O47. -/

namespace Sys2Proof.Machine

theorem ofFn_get {α : Type} {n : Nat} (f : Fin n → α) (i : Fin n) : (Vector.ofFn f)[i] = f i := by
  rw [Fin.getElem_fin, Vector.getElem_ofFn]

theorem vector_ext_fin {α : Type} {n : Nat} {v w : Vector α n} (h : ∀ i : Fin n, v[i] = w[i]) : v = w :=
  Vector.ext fun i hi => h ⟨i, hi⟩

/-! ### Selection of a frame (R24) -/

section
variable {n : Half} {stale : Nat} {q : Port}

theorem Port.asked_iff : q.asked = true ↔ q.state = .live ∨ q.state = .stalled := by
  simp only [Port.asked, Bool.or_eq_true, beq_iff_eq]

/-- A port that is not asked is absent and keeps its frames. -/
theorem Port.atStart_unasked (live : q.state ≠ .live) (stalled : q.state ≠ .stalled) :
    q.presentFor n stale = false ∧ q.atStart n stale = q := by
  have unasked : q.asked = false := by
    rw [Bool.eq_false_iff, ne_eq, Port.asked_iff]
    exact fun h => h.elim live stalled
  simp only [Port.presentFor, Port.atStart, unasked, Bool.false_and, Bool.false_eq_true, if_false, and_self]

/-- An asked port gives its newest eligible frame and frees the older ones. -/
theorem Port.atStart_given {older newer : List (Fin 3)} {c : Fin 3} (asked : q.state = .live ∨ q.state = .stalled)
    (ready : q.ready = older ++ c :: newer) (fresh : c ∉ older) (eligible : (n - q.buffers[c].tag).toNat ≤ stale)
    (newest : ∀ e ∈ newer, ¬ (n - q.buffers[e].tag).toNat ≤ stale) :
    q.presentFor n stale = true
      ∧ q.atStart n stale = { q with
        ready := newer
        buffers := Vector.ofFn fun e =>
          if e = c then { q.buffers[e] with state := .inUse }
          else if e ∈ older then { q.buffers[e] with state := .free } else q.buffers[e] } := by
  have found : q.newestEligible n stale = some c := by
    have none : newer.filter (fun b => tagEligible n stale q.buffers[b].tag) = [] :=
      List.filter_eq_nil_iff.2 fun e he h => newest e he (of_decide_eq_true h)
    have kept : tagEligible n stale q.buffers[c].tag = true := decide_eq_true eligible
    rw [Port.newestEligible, ready, List.filter_append, List.filter_cons, if_pos kept, none, List.getLast?_concat]
  have passes : ∀ e ∈ older, (e != c) = true := fun e he => bne_iff_ne.2 fun same => fresh (same ▸ he)
  have before : q.ready.takeWhile (· != c) = older := by
    rw [ready, List.takeWhile_append_of_pos passes, List.takeWhile_cons_of_neg (by simp), List.append_nil]
  have after : (q.ready.dropWhile (· != c)).drop 1 = newer := by
    rw [ready, List.dropWhile_append_of_pos passes, List.dropWhile_cons_of_neg (by simp)]
    rfl
  refine ⟨by simp only [Port.presentFor, Port.asked_iff.2 asked, found, Option.isSome_some, Bool.and_true], ?_⟩
  simp only [Port.atStart, Port.asked_iff.2 asked, if_true, Port.select, found, before, after, Port.freeAll]
  congr 1
  refine vector_ext_fin fun e => ?_
  rw [update_get, ofFn_get, ofFn_get]
  by_cases same : c = e
  · subst same
    rw [if_pos rfl, if_pos rfl, if_neg (by simpa using fresh)]
  · rw [if_neg same, if_neg (Ne.symm same)]
    simp only [List.contains_iff_mem]

/-- An asked port without an eligible frame is absent and keeps the later ones only. -/
theorem Port.atStart_absent (asked : q.state = .live ∨ q.state = .stalled)
    (none : ∀ e ∈ q.ready, ¬ (n - q.buffers[e].tag).toNat ≤ stale) :
    q.presentFor n stale = false
      ∧ q.atStart n stale = { q with
        ready := q.ready.filter fun e =>
          decide (1 ≤ (q.buffers[e].tag - n).toNat ∧ (q.buffers[e].tag - n).toNat ≤ 32767)
        buffers := Vector.ofFn fun e =>
          if e ∈ q.ready ∧ ¬ (1 ≤ (q.buffers[e].tag - n).toNat ∧ (q.buffers[e].tag - n).toNat ≤ 32767)
          then { q.buffers[e] with state := .free } else q.buffers[e] } := by
  have found : q.newestEligible n stale = Option.none := by
    have empty : q.ready.filter (fun b => tagEligible n stale q.buffers[b].tag) = [] :=
      List.filter_eq_nil_iff.2 fun e he h => none e he (of_decide_eq_true h)
    rw [Port.newestEligible, empty]
    rfl
  refine ⟨by simp only [Port.presentFor, found, Option.isSome_none, Bool.and_false], ?_⟩
  simp only [Port.atStart, Port.asked_iff.2 asked, if_true, Port.select, found, Port.freeAll]
  congr 1
  refine vector_ext_fin fun e => ?_
  rw [ofFn_get, ofFn_get]
  simp only [List.contains_iff_mem, List.mem_filter, tagLater, Bool.not_eq_true', decide_eq_false_iff_not]

end

/-! ### The composition that a start puts in flight -/

section
variable (n : Half) (stale : Nat) (first : Bool) (b : Fin 3) (w : Part)

/-- Which cameras are present at a composition start. -/
def Part.presentAt : Vector Bool 4 := Vector.ofFn fun i => w.ports[i].presentFor n stale

/-- The paintings of a composition start. -/
def Part.paintingsAt : List Painting :=
  paintings w.latch (w.presentAt n stale) w.engine.previous.isSome w.loader.active w.engine.tiles

/-- The composition that a start puts in flight. -/
def Part.composition : Composition :=
  { trigger := n, completion := w.now + totalCost (w.paintingsAt n stale) * w.engine.divider / 4, latched := w.latch
    present := w.presentAt n stale, counts := countsOf (w.paintingsAt n stale), firstOfSet := first
    next := List.zipWith Painting.next (w.paintingsAt n stale) w.engine.tiles }

/-- The frames in use after a composition start. -/
def Part.framesAt : Vector (List (List Byte)) 4 := mapAll (mapAll w.ports (Port.atStart n stale)) Port.frameInUse

theorem Part.compose_inflight :
    (w.compose n stale first b).engine.inflight = some (w.composition n stale first) := rfl

theorem Part.compose_port (i : Fin 4) : (w.compose n stale first b).ports[i] = w.ports[i].atStart n stale :=
  mapAll_get _ _ _

theorem Part.framesAt_get (c : Fin 4) :
    (w.framesAt n stale)[c] = ((w.compose n stale first b).ports[c]).frameInUse := by
  rw [Part.framesAt, mapAll_get]
  rfl

theorem Part.presentAt_get (i : Fin 4) : (w.presentAt n stale)[i] = w.ports[i].presentFor n stale := ofFn_get _ _

theorem Part.compose_image :
    (w.compose n stale first b).engine.buffers[b].image
      = picture w.latch (w.framesAt n stale) w.engine.previousImage w.loader.active (w.paintingsAt n stale) := by
  show CompositeBuffer.image (update _ b _)[b] = _
  rw [update_get, if_pos rfl]
  rfl

theorem Part.compose_stats : (w.compose n stale first b).engine.stats
    = seamStats (w.framesAt n stale) w.loader.active (w.paintingsAt n stale) := rfl

theorem Part.paintingsAt_length : (w.paintingsAt n stale).length ≤ w.engine.tiles.length := paintings_length ..

theorem Part.composition_counts :
    (w.composition n stale first).counts =
      { sampled := (w.composition n stale first).next.countP fun y => y.source == .sampled
        blended := (w.composition n stale first).next.countP fun y => y.source == .blended
        held := (w.composition n stale first).next.countP fun y => y.source == .held
        filled := (w.composition n stale first).next.countP fun y => y.source == .filled } :=
  countsOf_next (w.paintingsAt_length n stale)

theorem Part.composition_completion :
    (w.composition n stale first).completion
      = w.now + ((w.composition n stale first).next.map fun y => y.source.cost).sum * w.engine.divider / 4 := by
  have cost := totalCost_next (w.paintingsAt_length n stale)
  simp only [Part.composition, cost]

end

section
variable {n : Half} {stale : Nat} {first : Bool} {b : Fin 3} {w : Part}

/-- With an EMPTY table every tile is FILLED (R18). -/
theorem Part.composition_empty (empty : w.loader.active = .empty) (tiles : w.engine.tiles.length = 560) :
    (w.composition n stale first).counts = { sampled := 0, blended := 0, held := 0, filled := 560 }
      ∧ (w.composition n stale first).completion = w.now + 286720 * w.engine.divider / 4
      ∧ (w.compose n stale first b).engine.stats = #v[.zero, .zero, .zero, .zero] := by
  have filled : w.paintingsAt n stale = List.replicate 560 .filled := by
    rw [Part.paintingsAt, empty, paintings_empty, tiles]
  refine ⟨?_, ?_, ?_⟩
  · show countsOf _ = _
    rw [filled, countsOf_filled]
  · show _ + totalCost _ * _ / 4 = _
    rw [filled, totalCost_filled]
  · rw [Part.compose_stats, empty]
    rfl

/-- How a tile of a loaded table is painted. -/
theorem Part.composition_tile {k : Fin 8} {rs : List TileRecord} {i : Nat} {r : TileRecord} {y : TileState}
    (active : w.loader.active = .holding k rs) (record : rs[i]? = some r) (tile : w.engine.tiles[i]? = some y)
    {pt : Painting} (painting : paintingOf w.latch (w.presentAt n stale) w.engine.previous.isSome r y = pt) :
    (w.composition n stale first).next[i]? = some (pt.next y)
      ∧ (w.compose n stale first b).engine.buffers[b].image[i]?
        = some (tileImage w.latch (w.framesAt n stale) w.engine.previousImage i r pt) := by
  have painted : (w.paintingsAt n stale)[i]? = some pt := by
    rw [Part.paintingsAt, active]
    exact List.getElem?_zipWith_eq_some.2 ⟨r, y, record, tile, painting⟩
  refine ⟨List.getElem?_zipWith_eq_some.2 ⟨pt, y, painted, tile, rfl⟩, ?_⟩
  rw [Part.compose_image, active]
  exact picture_tile record painted

theorem seamRecords_filter (z : Fin 4) (l : List (TileRecord × TileState)) :
    seamRecords z (l.map (Prod.map id TileState.source))
      = (l.filter fun y => y.2.source == .blended && [cameraOf y.1.camA, cameraOf y.1.camB].contains z
          && [cameraOf y.1.camA, cameraOf y.1.camB].contains (z + 1)).map Prod.fst := by
  rw [seamRecords, List.filter_map, List.map_map]
  rfl

end

end Sys2Proof.Machine
end

section
/-! PROOF. The deadline of a gather, and the composition that it starts (R43, R59, R61 to R67): O47. -/

namespace Sys2Proof.Machine

theorem exec_deadlineExpiry (s : State) : exec .deadlineExpiry s = s.act Part.deadlineExpires := rfl

/-- Two lowest numbers of one property are the same. -/
theorem lowest_unique {P : Fin 3 → Prop} {b c : Fin 3} (hb : P b) (below : ∀ e, e < b → ¬ P e) (hc : P c)
    (below' : ∀ e, e < c → ¬ P e) : b = c :=
  Fin.le_antisymm (Fin.not_lt.1 fun h => below c h hc) (Fin.not_lt.1 fun h => below' b h hb)

/-! ### The gatherer's side (R59) -/

section
variable {p : Part} {n : Half} {stale : Nat}

theorem Part.gatherDeadline_ignored (h : ∀ stale, p.engine.slot ≠ .gathering n stale) : p.gatherDeadline n = p := by
  unfold Part.gatherDeadline
  split
  · next m stale slot =>
    rw [if_neg]
    rintro rfl
    exact h _ slot
  · rfl

theorem Part.gatherDeadline_closes (h : p.engine.slot = .gathering n stale) :
    p.gatherDeadline n = (p.setSlot (.ready n stale)).tryStart := by
  simp only [Part.gatherDeadline, Part.closeGather, h, if_true]

/-- The part with its deadline expired, before the gatherer hears of it. -/
def Part.expired (d : Deadline) (p : Part) : Part := { p.at d.due with pace := { p.pace with deadline := none } }

theorem Part.deadlineExpires_armed {d : Deadline} (h : p.pace.deadline = some d) :
    p.deadlineExpires = (p.expired d).gatherDeadline d.trigger := by
  simp only [Part.deadlineExpires, h]
  rfl

/-! ### The tables at a start (R61, R114) -/

theorem Part.swapTables_unstaged (h : ¬ ∃ k, p.loader.state = .staged k) : p.swapTables n = p := by
  unfold Part.swapTables
  split
  · next k e => exact absurd ⟨k, e⟩ h
  · rfl

theorem Part.swapTables_tiles (h : ∃ k, p.loader.state = .staged k) :
    (p.swapTables n).engine.tiles = p.engine.tiles.map fun _ => { source := .filled, age := 255 } := by
  obtain ⟨k, staged⟩ := h
  simp only [Part.swapTables, staged]
  rfl

theorem Part.swapTables_settings (p : Part) (n : Half) :
    (p.swapTables n).engine.hold = p.engine.hold ∧ (p.swapTables n).engine.void = p.engine.void
      ∧ (p.swapTables n).engine.divider = p.engine.divider := by
  unfold Part.swapTables
  split <;> exact ⟨rfl, rfl, rfl⟩

end

/-- A composition start of trigger `n` on a machine that closed its gather with the engine IDLE: what `State.Composes`
says, of the composition and the buffer that the start chooses. -/
theorem State.starts_composition {v : State} {n : Half} {stale : Nat} (slot : v.engine.slot = .ready n stale)
    (idle : v.engine.inflight = none) (ok : v.engine.BuffersOk) :
    ∃ (b : Fin 3) (first : Bool), v.toPart.tryStart = (v.toPart.swapTables n).compose n stale first b
      ∧ v.engine.buffers[b].state = .free ∧ (∀ c : Fin 3, c < b → v.engine.buffers[c].state ≠ .free)
      ∧ State.Composes n stale v { v with toPart := (v.toPart.swapTables n).compose n stale first b } := by
  obtain ⟨b, found, free, lowest⟩ := Engine.free_found _ (ok.2.1.1 idle) ok.1
  have start : v.toPart.tryStart = (v.toPart.swapTables n).compose n stale v.loader.state.isStaged b := by
    simp only [Part.tryStart, slot, idle, found]
  have composes := Part.tryStart_composes v n stale b slot idle found free lowest
  rw [start] at composes
  exact ⟨b, _, start, free, lowest, composes⟩

/-- Settles O47: an expiry that closes its gather with the engine IDLE selects, latches and paints the composition. -/
theorem deadlineExpiry : Obligations.DeadlineExpiry := by
  unfold Obligations.DeadlineExpiry
  refine ⟨fun s none => ?_, fun s d hr armed => ?armed⟩
  · rw [exec_deadlineExpiry]
    exact State.act_same (by simp only [Part.deadlineExpires, none])
  case armed =>
    intro u
    have expires : exec .deadlineExpiry s = .next { s with toPart := u.toPart.gatherDeadline d.trigger } := by
      rw [exec_deadlineExpiry, State.act_apply _ _ hr, Part.deadlineExpires_armed armed]
      rfl
    refine ⟨fun other => ?_, fun stale x slot busy => ?_, fun stale slot idle ok => ?starts⟩
    · rw [expires, Part.gatherDeadline_ignored (p := u.toPart) other]
      rfl
    · rw [expires, Part.gatherDeadline_closes (p := u.toPart) slot,
        Part.tryStart_busy (p := u.toPart.setSlot (.ready d.trigger stale)) busy]
      rfl
    case starts =>
      intro staged
      obtain ⟨b, first, start, free, lowest, composes⟩ := State.starts_composition
        (v := { u with toPart := u.toPart.setSlot (.ready d.trigger stale) }) (n := d.trigger) (stale := stale) rfl idle ok
      rw [Part.gatherDeadline_closes (p := u.toPart) slot, start] at expires
      have wports := (u.toPart.setSlot (.ready d.trigger stale)).swapTables_ports d.trigger
      have wnow := (u.toPart.setSlot (.ready d.trigger stale)).swapTables_now d.trigger
      have wprevious := (u.toPart.setSlot (.ready d.trigger stale)).swapTables_engine_previous d.trigger
      have wbuffers := (u.toPart.setSlot (.ready d.trigger stale)).swapTables_engine_buffers d.trigger
      have wbalancer := (u.toPart.setSlot (.ready d.trigger stale)).swapTables_balancer d.trigger
      obtain ⟨whold, wvoid, wdivider⟩ := (u.toPart.setSlot (.ready d.trigger stale)).swapTables_settings d.trigger
      have wstaged := Part.swapTables_tiles (p := u.toPart.setSlot (.ready d.trigger stale)) (n := d.trigger)
      have wkept := Part.swapTables_unstaged (p := u.toPart.setSlot (.ready d.trigger stale)) (n := d.trigger)
      obtain ⟨empty, ⟨x, flying, started⟩, unwritten, ⟨c, cfree, clowest, writing, record, others⟩, previous, firstComposite, _,
        swapped, unswapped, frame⟩ := composes
      obtain rfl := lowest_unique (P := fun c => s.engine.buffers[c].state = .free) free lowest cfree clowest
      generalize (u.toPart.setSlot (.ready d.trigger stale)).swapTables d.trigger = w at *
      obtain rfl : w.composition d.trigger stale first = x :=
        Option.some.inj ((Part.compose_inflight ..).symm.trans flying)
      obtain ⟨trigger, gains, hold, void, divider, groups, latchedStaged, latchedKept, _⟩ := started
      have present : ∀ i : Fin 4, (w.composition d.trigger stale first).present[i] = s.ports[i].presentFor d.trigger stale :=
        fun i => (w.presentAt_get d.trigger stale i).trans (by rw [wports]; rfl)
      have port : ∀ i : Fin 4, (w.compose d.trigger stale first b).ports[i] = s.ports[i].atStart d.trigger stale :=
        fun i => (w.compose_port d.trigger stale first b i).trans (by rw [wports]; rfl)
      refine ⟨_, _, b, expires, empty, flying, trigger, gains, hold, void, divider, unwritten, groups, free, lowest, writing,
        record, others, previous, firstComposite, congrArg (fun v : State => { v with engine := u.engine }) frame,
        fun i live stalled => ?unasked, fun i asked => ⟨?given, ?absent⟩, ?kept, ?staged,
        w.composition_counts d.trigger stale first, ?completion, ?emptyTable, ?stats, ?tile⟩
      case unasked =>
        obtain ⟨absent, same⟩ := Port.atStart_unasked live stalled
        exact ⟨(present i).trans absent, (port i).trans same⟩
      case given =>
        intro older e newer ready fresh eligible newest
        obtain ⟨given, selected⟩ := Port.atStart_given asked ready fresh eligible newest
        exact ⟨(present i).trans given, (port i).trans selected⟩
      case absent =>
        intro none
        obtain ⟨absent, kept⟩ := Port.atStart_absent asked none
        exact ⟨(present i).trans absent, (port i).trans kept⟩
      case kept =>
        intro unstaged
        obtain ⟨loader, link⟩ := unswapped fun k e => unstaged ⟨k, e⟩
        obtain ⟨notFirst, set⟩ := latchedKept fun k e => unstaged ⟨k, e⟩
        exact ⟨notFirst, loader, link, by rw [wkept unstaged]; rfl, set⟩
      case staged =>
        rintro ⟨k, e⟩
        obtain ⟨loader, told⟩ := swapped k e
        obtain ⟨isFirst, set⟩ := latchedStaged k e
        exact ⟨isFirst, set, loader, told, wstaged ⟨k, e⟩⟩
      case completion =>
        have completion := w.composition_completion d.trigger stale first
        rw [wnow, wdivider] at completion
        refine completion.trans ?_
        refine congrArg (fun l : List Nat => u.now + l.sum * s.engine.divider / 4) (List.map_congr_left fun y _ => ?_)
        cases y.source <;> rfl
      case emptyTable =>
        intro noTable unstaged tiles
        have same := wkept unstaged
        have emptied := Part.composition_empty (n := d.trigger) (stale := stale) (first := first) (b := b) (w := w)
          (by rw [same]; exact noTable) (by rw [same]; exact tiles)
        rw [wnow, wdivider] at emptied
        exact emptied
      case stats =>
        intro k rs z active _ formed pair blended midSeam luma sumOf
        have frames : ∀ c, seamLuma (w.framesAt d.trigger stale) c = luma c := by
          intro c
          funext r p
          rw [seamLuma, w.framesAt_get d.trigger stale first b]
        have holding : w.loader.active = .holding k rs := active
        have zone := seamStats_zone (frames := w.framesAt d.trigger stale) (lat := w.latch)
          (present := w.presentAt d.trigger stale) (hasPrevious := w.engine.previous.isSome) (k := k)
          (tiles := w.engine.tiles) formed z
        rw [← holding] at zone
        simp only [frames, seamRecords_filter] at zone
        exact zone
      case tile =>
        intro k rs i r y active found tile okay camA camB painted frame gain limit holds
        have shown : ∀ {pt}, paintingOf w.latch (w.presentAt d.trigger stale) w.engine.previous.isSome r y = pt →
            painted (pt.next y) (tileImage w.latch (w.framesAt d.trigger stale) w.engine.previousImage i r pt) := fun h =>
          Part.composition_tile (n := d.trigger) (stale := stale) (first := first) (b := b) (w := w) active found tile h
        have usable_okay : ∀ c occ, usable w.latch (w.presentAt d.trigger stale) c occ = true ↔ okay c occ := fun c occ =>
          usable_iff ..
        have seen : ∀ c : Fin 4, (w.framesAt d.trigger stale)[c] = frame c := fun c => w.framesAt_get d.trigger stale first b c
        have gained : ∀ c : Fin 4, w.latch.gains[c] = gain c := fun c => congrArg (fun v : Vector Nat 4 => v[c]) gains
        have sampled : ∀ c useB, paintingOf w.latch (w.presentAt d.trigger stale) w.engine.previous.isSome r y
            = .sampled c useB → painted { source := .sampled, age := 0 }
              (sampledTile (frame c) (if useB then r.bCorners else r.aCorners) (gain c)) := by
          intro c useB h
          rw [← seen, ← gained]
          exact shown h
        refine ⟨fun body => shown (paintingOf_body body), fun voided => shown (paintingOf_voided voided), ?_,
          fun seam noA okB => ?_, fun seam okA okB => ?_, fun unusable => ?_⟩
        · rintro (⟨single, okA⟩ | ⟨seam, okA, noB⟩)
          · rw [← usable_okay] at okA
            exact sampled camA false (by rw [paintingOf_single single, if_pos okA])
          · rw [← usable_okay] at okA noB
            rw [Bool.not_eq_true] at noB
            refine sampled camA false ?_
            rw [paintingOf_seam seam, okA, noB]
            rfl
        · rw [← usable_okay] at noA okB
          rw [Bool.not_eq_true] at noA
          refine sampled camB true ?_
          rw [paintingOf_seam seam, noA, okB]
          rfl
        · rw [← usable_okay] at okA okB
          rw [← seen, ← seen, ← gained, ← gained]
          refine shown (pt := .blended camA camB) ?_
          rw [paintingOf_seam seam, okA, okB]
          rfl
        · have unpainted : paintingOf w.latch (w.presentAt d.trigger stale) w.engine.previous.isSome r y
              = heldOrFilled w.latch w.engine.previous.isSome r y := by
            obtain ⟨single, noA⟩ | ⟨seam, noA, noB⟩ := unusable
            · rw [← usable_okay] at noA
              rw [paintingOf_single single, if_neg noA]
            · rw [← usable_okay] at noA noB
              rw [Bool.not_eq_true] at noA noB
              rw [paintingOf_seam seam, noA, noB]
              rfl
          have limited : (if r.hold = 255 then w.latch.hold else r.hold.toNat) = limit := by
            show (if r.hold = 255 then w.engine.hold else r.hold.toNat) = _
            rw [whold]
            rfl
          have behind : w.engine.previous.isSome = true ↔ s.engine.previous ≠ none := by
            rw [wprevious, Option.isSome_iff_ne_none]
            rfl
          rw [heldOrFilled_eq, limited] at unpainted
          refine ⟨fun p image held last old => ?_, fun unheld => ?_⟩
          · have kept := shown (unpainted.trans (if_pos (held.imp_left behind.2)))
            have pictured : w.engine.previousImage = s.engine.buffers[p].image := by
              have pointer : w.engine.previous = some p := wprevious.trans last
              rw [Engine.previousImage, pointer]
              show w.engine.buffers[p].image = _
              rw [wbuffers]
              rfl
            rw [tileImage, pictured, old] at kept
            exact kept
          · have filled := shown (unpainted.trans (if_neg fun h => unheld (h.imp_left behind.1)))
            rw [tileImage, show w.latch.void = s.engine.void from void] at filled
            exact filled

end Sys2Proof.Machine
end
